-- ==== Sys2Proof/Word.lean ====
section
/-!
DEFINITION. The words and the plain names of the PB-240 that its commands carry: bytes and cycle
numbers, the three phases (00_scope.md, Phases), the two ports and the strap inputs (R200).
-/

namespace Sys2Proof

/-- One byte of a feeder link frame (R161); link addresses, kinds and tags are bytes. -/
abbrev Byte := BitVec 8

/-- A cycle number as frames carry it: it wraps at 65536 (00_scope.md, Mains cycles). -/
abbrev Word16 := BitVec 16

/-- A 32-bit cycle count (R46). -/
abbrev Word32 := BitVec 32

/-- The three phases. -/
inductive Phase where
  | l1 | l2 | l3
  deriving DecidableEq, Repr

/-- The phases in the order that breaks every tie: L1, L2, L3. -/
def Phase.all : List Phase := [.l1, .l2, .l3]

/-- The turn L1, L2, L3, then L1 again. -/
def Phase.next : Phase → Phase
  | .l1 => .l2
  | .l2 => .l3
  | .l3 => .l1

/-- One thing of a kind for each phase. -/
structure PerPhase (α : Type) where
  l1 : α
  l2 : α
  l3 : α
  deriving DecidableEq, Repr

/-- What a phase has. -/
def PerPhase.get {α : Type} (t : PerPhase α) : Phase → α
  | .l1 => t.l1
  | .l2 => t.l2
  | .l3 => t.l3

/-- The same, with one phase's entry replaced. -/
def PerPhase.set {α : Type} (t : PerPhase α) (p : Phase) (x : α) : PerPhase α :=
  match p with
  | .l1 => { t with l1 := x }
  | .l2 => { t with l2 := x }
  | .l3 => { t with l3 := x }

/-- The same entry for every phase. -/
def PerPhase.const {α : Type} (x : α) : PerPhase α := ⟨x, x, x⟩

/-- A set of phases: which of the three belong to it. -/
abbrev PhaseSet := PerPhase Bool

/-- The two byte-serial ports: upstream faces the head-end, downstream the selector units. -/
inductive Port where
  | upstream | downstream
  deriving DecidableEq, Repr

/-- The seven strap inputs (R200): ADS0..ADS3, MFS (true is high, 60 Hz), LRS0 and LRS1. -/
structure Straps where
  address : BitVec 4
  mains60 : Bool
  linkRate : BitVec 2
  deriving DecidableEq, Repr

end Sys2Proof
end

