-- ==== Sys2Proof/Config.lean ====
section
/-!
DEFINITION. What is fixed for the PB-240: the sizes of its tables and queues and the limits that no
policy field changes; and the one thing the spec leaves open, the order of some actions inside one event.
-/

namespace Sys2Proof.Config

/-- Consumer records 0..239 (R9). -/
def consumers : Nat := 240
/-- Segment records 0..15 (R1). -/
def segments : Nat := 16
/-- Places of the Address Map: one for each byte value; only 1..239 are ever mapped (R15). -/
def addresses : Nat := 256
/-- Entries of the Move Schedule (R102). -/
def scheduleRoom : Nat := 8
/-- How far ahead of now an execute cycle may lie (R105). -/
def scheduleReach : Nat := 2040
/-- Entries of the query queue (R131). -/
def queryRoom : Nat := 8
/-- Frames of the downstream forward queue (R171). -/
def downForwardRoom : Nat := 16
/-- Frames of the upstream forward queue (R171). -/
def upForwardRoom : Nat := 32
/-- Notices of the notice queue (R179). -/
def noticeRoom : Nat := 16
/-- Responses of the response queue (R172). -/
def responseRoom : Nat := 4
/-- Requests of the request queue (R183). -/
def requestRoom : Nat := 4
/-- The longest payload of a frame (R161). -/
def payloadRoom : Nat := 48
/-- The phase limit that means no limit (R1). -/
def noLimit : Nat := 65535
/-- Where a status counter saturates (R180). -/
def counterTop : Nat := 65535
/-- Sample points per cycle (R66). -/
def samplePoints : Nat := 32

/-- The nominal period in ticks by the mains strap (R47). -/
def nominalPeriod (mains60 : Bool) : Nat := if mains60 then 16667 else 20000
/-- The early limit: the nominal period less one sixteenth of it, truncated (R47). -/
def earlyLimit (mains60 : Bool) : Nat := nominalPeriod mains60 - nominalPeriod mains60 / 16
/-- The late limit: the nominal period plus one sixteenth of it, truncated (R47). -/
def lateLimit (mains60 : Bool) : Nat := nominalPeriod mains60 + nominalPeriod mains60 / 16

/-- The own address: 240 plus the straps, and 253 for 14 and 15 (R164, R200). -/
def ownAddress (straps : Straps) : Byte :=
  if straps.address.toNat ≥ 14 then 253 else BitVec.ofNat 8 (240 + straps.address.toNat)

/-- The link rate of both ports in baud (R200). -/
def linkRate (straps : Straps) : Nat :=
  match straps.linkRate.toNat with
  | 0 => 19200
  | 1 => 57600
  | 2 => 115200
  | _ => 230400

/-! ### Orders the spec leaves open (log 3) -/

/-- In which order the Mains Timebase's change of state (t), Phase Supervision (p) and the Order
Scheduler (s) act at one cycle end: the spec gives none (R49). -/
inductive BlockOrder where
  | tps | tsp | pts | pst | stp | spt
  deriving DecidableEq, Repr, Inhabited

/-- One event's choice among the orders the spec leaves open: of the blocks at a cycle end (R49), of an
edge and the cycle end it makes (R68), of sample point 0 and the condition machine at one cycle end (R66,
R70), of sample point 0 and the presence update at a re-anchor that ends the cycle (R66; log 22), of a condition's or a silence's notice and the Rescue Unit's part in the same change (R39, R72, R179),
of moves and queries at one cycle end. -/
structure OrderChoice where
  blocks : BlockOrder
  edgeFirst : Bool
  sampleFirst : Bool
  pointFirst : Bool
  noticeFirst : Bool
  movesFirst : Bool
  deriving DecidableEq, Repr, Inhabited

/-- The order the first event after reset takes. DESIGN CHOICE (log 3): no statement rests on it. -/
def OrderChoice.usual : OrderChoice := ⟨.tps, true, false, false, true, true⟩

/-- The order choices of all later events: free values, one for each event (log 3). -/
opaque openOrder : Nat → OrderChoice

end Sys2Proof.Config
end

