-- ==== Sys2Proof/Syntax.lean ====
section
/-!
DEFINITION. The commands of the PB-240: one constructor for each row of spec/opcode_table.json, in the
table's order, with what the event carries. A frame's payload is carried as the bytes of R165; the
arguments of a management request as the bytes of R188.
-/

namespace Sys2Proof

/-- One step of the part (95_what_each_step_holds.md). -/
inductive Instr where
  /-- RESET_LINE_LOW: NRST is driven low (R201). -/
  | resetLineLow
  /-- SUPPLY_BELOW_THRESHOLD: the supply falls below its operating threshold, or, with
  `belowPowerOn`, below the power-on level (R201). -/
  | supplyBelowThreshold (belowPowerOn : Bool)
  /-- START: the hold ends, with the straps read in the start event (R200, R201). -/
  | start (straps : Straps)
  /-- ZERO_CROSSING_EDGE: after `elapsed` ticks a rising edge arrives on a line, with the sag lines
  at the levels `sag` (R50, R66). -/
  | zeroCrossingEdge (line : Phase) (elapsed : Nat) (sag : PhaseSet)
  /-- SYNTHETIC_CYCLE_END: the tick counter reaches the late limit (R52). -/
  | syntheticCycleEnd
  /-- FLYWHEEL_LIMIT_REACHED: the synthetic run is at the flywheel limit in FLYWHEEL (R55). -/
  | flywheelLimitReached
  /-- FAILOVER: the reference run is 2 (R57). -/
  | failover
  /-- CYCLE_MARK_DUE: the cycle-mark counter is at T (R59). -/
  | cycleMarkDue
  /-- SAG_SAMPLE: the tick counter reaches the next sample point, with the sag lines at `sag` (R66). -/
  | sagSample (sag : PhaseSet)
  /-- FILTERED_SAG_LEVEL_CHANGE: the filter run of a phase is at V (R67). -/
  | filteredSagLevelChange (phase : Phase)
  /-- CROSSING_PRESENCE_CHANGE: the absence or presence run of a phase is at 3 (R68). -/
  | crossingPresenceChange (phase : Phase)
  /-- SAG_DELAY: the delay count of a phase in SAG is at the sag-to-lost delay (R71). -/
  | sagDelay (phase : Phase)
  /-- HOLD_COMPLETE: the hold count of a phase in RECOVERING is at the recovery hold (R71). -/
  | holdComplete (phase : Phase)
  /-- LOAD_READING arrives downstream (R28, R165). -/
  | loadReading (dest src tag : Byte) (reading : Word16) (supply interval : Byte)
  /-- WINDOW_CLOSE: the window counter is at W with the fold IDLE (R33). -/
  | windowClose
  /-- FOLD_OF_RECORD: the fold goes past one consumer index (R35, R36). -/
  | foldOfRecord
  /-- FOLD_COMPLETION: the fold position is past index 239 (R40). -/
  | foldCompletion
  /-- BUDGET_PERIOD_END: the budget period counter is at the budget period (R24). -/
  | budgetPeriodEnd
  /-- PASS_TRIGGER: the remaining count is 0 (R82). -/
  | passTrigger
  /-- SEARCH: one search of the pass in progress (R92). -/
  | search
  /-- PASS_COMPLETION: the pass's last search has been made (R94). -/
  | passCompletion
  /-- ORDER_TRANSMISSION_END: a TRANSFER ORDER finishes sending (R113). -/
  | orderTransmissionEnd
  /-- WITHDRAWAL: QUEUED entries whose execute cycle is too near are withdrawn (R114). -/
  | withdrawal
  /-- REPLY_DEADLINE: SENT entries at their execute cycle become UNCONFIRMED (R119). -/
  | replyDeadline
  /-- REPORT_DEADLINE: entries at their report deadline are ended (R123). -/
  | reportDeadline
  /-- LATEST_EXECUTE_CYCLE_EXPIRY: the latest execute cycle is no longer ahead (R107). -/
  | latestExecuteCycleExpiry
  /-- TRANSFER_ANSWER to the own address (R117). -/
  | transferAnswer (src tag verdict reason : Byte)
  /-- TRANSFER_REPORT to the own address (R120). -/
  | transferReport (src tag outcome reason phaseNow : Byte)
  /-- QUERY_TRANSMISSION_END: a PHASE QUERY finishes sending (R135). -/
  | queryTransmissionEnd
  /-- QUERY_DEADLINE: ASKED records whose deadline count is 0 (R136). -/
  | queryDeadline
  /-- PHASE_ANSWER to the own address (R138). -/
  | phaseAnswer (src tag phaseNow supply : Byte)
  /-- MANAGEMENT_REQUEST to the own address arrives upstream (R184). -/
  | managementRequest (src tag : Byte) (payload : List Byte)
  /-- FOREIGN_ORDER: a TRANSFER ORDER arrives from upstream (R168). -/
  | foreignOrder (dest src tag target : Byte) (execute : Word16) (gap : Byte)
  /-- UPSTREAM_FRAME_ARRIVAL: a good frame arrives upstream (R167). -/
  | upstreamFrameArrival (dest src kind tag : Byte) (payload : List Byte)
  /-- DOWNSTREAM_FRAME_ARRIVAL: a good frame arrives downstream (R169). -/
  | downstreamFrameArrival (dest src kind tag : Byte) (payload : List Byte)
  /-- FRAME_DROPPED: a reception ends bad (R163). -/
  | frameDropped (port : Port)
  /-- RECEPTION_ABANDONED: a line stays idle for more than 4 character times (R163). -/
  | receptionAbandoned (port : Port)
  /-- TRANSMISSION_END: a CYCLE MARK, a notice or a forwarded frame finishes sending (R176). -/
  | transmissionEnd (port : Port)
  /-- RESPONSE_TRANSMISSION_END: a MANAGEMENT RESPONSE finishes sending; `straps` are the strap inputs
  at that moment, read when the event makes the commanded restart (R172, R200, R204). -/
  | responseTransmissionEnd (straps : Straps)
  /-- READ_STATUS (R189). -/
  | readStatus (src tag : Byte) (args : List Byte)
  /-- READ_POLICY (R190). -/
  | readPolicy (src tag : Byte) (args : List Byte)
  /-- WRITE_POLICY (R191). -/
  | writePolicy (src tag : Byte) (args : List Byte)
  /-- READ_SEGMENT (R7). -/
  | readSegment (src tag : Byte) (args : List Byte)
  /-- WRITE_SEGMENT (R5). -/
  | writeSegment (src tag : Byte) (args : List Byte)
  /-- READ_CONSUMER (R21). -/
  | readConsumer (src tag : Byte) (args : List Byte)
  /-- WRITE_CONSUMER (R16). -/
  | writeConsumer (src tag : Byte) (args : List Byte)
  /-- CLEAR_CONSUMER (R20). -/
  | clearConsumer (src tag : Byte) (args : List Byte)
  /-- READ_SUMS (R194). -/
  | readSums (src tag : Byte) (args : List Byte)
  /-- SET_LOCK (R23). -/
  | setLock (src tag : Byte) (args : List Byte)
  /-- CLEAR_FAULT (R143). -/
  | clearFault (src tag : Byte) (args : List Byte)
  /-- MANUAL_MOVE (R126). -/
  | manualMove (src tag : Byte) (args : List Byte)
  /-- CANCEL_MOVES (R127). -/
  | cancelMoves (src tag : Byte) (args : List Byte)
  /-- BALANCER_CONTROL_START (R79). -/
  | balancerControlStart (src tag : Byte)
  /-- BALANCER_CONTROL_HOLD (R79). -/
  | balancerControlHold (src tag : Byte)
  /-- BALANCER_CONTROL_STOP (R79). -/
  | balancerControlStop (src tag : Byte)
  /-- READ_SCHEDULE (R195). -/
  | readSchedule (src tag : Byte) (args : List Byte)
  /-- RESTART (R197). -/
  | restart (src tag : Byte) (args : List Byte)
  /-- UNKNOWN_KIND: a request of a kind that R188 does not give (R187). -/
  | unknownKind (src tag kind : Byte) (args : List Byte)
  /-- CHARACTER_RECEIVED on a port's receive line, with or without a stop bit (R163). -/
  | characterReceived (port : Port) (char : Byte) (framingError : Bool)
  /-- BALANCER_CONTROL_OTHER_ACTION: BALANCER CONTROL with other arguments (R79). -/
  | balancerControlOtherAction (src tag : Byte) (args : List Byte)
  deriving DecidableEq, Repr

end Sys2Proof
end

