-- ==== Sys2Proof/WellFormed.lean ====
section
/-!
DEFINITION. Which commands the outside can send: a frame's payload is at most 48 bytes (R161), a
MANAGEMENT REQUEST to the own address carries its kind byte and so at least one (R165), and a command
whose row names the kind or the action of a request carries such a kind or action.
-/

namespace Sys2Proof

/-- The request kinds that R188 gives: 0x01 to 0x10. -/
def knownRequest (kind : Byte) : Bool := 1 ≤ kind.toNat && kind.toNat ≤ 16

/-- The arguments of a request fit the payload beside its kind byte (R161, R165). -/
def argsFit (args : List Byte) : Bool := args.length < Config.payloadRoom

/-- A command that can be sent to the part. -/
def Instr.wellFormed : Instr → Bool
  | .managementRequest _ _ payload => 1 ≤ payload.length && payload.length ≤ Config.payloadRoom
  | .upstreamFrameArrival _ _ _ _ payload => payload.length ≤ Config.payloadRoom
  | .downstreamFrameArrival _ _ _ _ payload => payload.length ≤ Config.payloadRoom
  | .readStatus _ _ args => argsFit args
  | .readPolicy _ _ args => argsFit args
  | .writePolicy _ _ args => argsFit args
  | .readSegment _ _ args => argsFit args
  | .writeSegment _ _ args => argsFit args
  | .readConsumer _ _ args => argsFit args
  | .writeConsumer _ _ args => argsFit args
  | .clearConsumer _ _ args => argsFit args
  | .readSums _ _ args => argsFit args
  | .setLock _ _ args => argsFit args
  | .clearFault _ _ args => argsFit args
  | .manualMove _ _ args => argsFit args
  | .cancelMoves _ _ args => argsFit args
  | .readSchedule _ _ args => argsFit args
  | .restart _ _ args => argsFit args
  | .unknownKind _ _ kind args => !knownRequest kind && argsFit args
  | .balancerControlOtherAction _ _ args =>
      argsFit args && args != [1] && args != [2] && args != [3]
  | .resetLineLow | .supplyBelowThreshold _ | .start _ | .zeroCrossingEdge _ _ _ | .syntheticCycleEnd
  | .flywheelLimitReached | .failover | .cycleMarkDue | .sagSample _ | .filteredSagLevelChange _
  | .crossingPresenceChange _ | .sagDelay _ | .holdComplete _ | .loadReading _ _ _ _ _ _ | .windowClose
  | .foldOfRecord | .foldCompletion | .budgetPeriodEnd | .passTrigger | .search | .passCompletion
  | .orderTransmissionEnd | .withdrawal | .replyDeadline | .reportDeadline | .latestExecuteCycleExpiry
  | .transferAnswer _ _ _ _ | .transferReport _ _ _ _ _ | .queryTransmissionEnd | .queryDeadline
  | .phaseAnswer _ _ _ _ | .foreignOrder _ _ _ _ _ _ | .frameDropped _ | .receptionAbandoned _
  | .transmissionEnd _ | .responseTransmissionEnd _ | .balancerControlStart _ _ | .balancerControlHold _ _
  | .balancerControlStop _ _ | .characterReceived _ _ _ => true

end Sys2Proof
end

