-- ==== Sys2Proof/Machine/State.lean ====
section
/-!
DEFINITION. The state of the PB-240 as plain data, one structure for each block that owns state
(00_scope.md, Block overview), and the state just after a power-on cold start.

A field that a rule calls present only in some states is carried by the constructor of that state, so
that leaving the state drops it (R10). The move link of a record is the Move Schedule entry that names
the record (R102) and is not held twice.
-/

namespace Sys2Proof.Machine

/-- No event of the part stops it: bad frames are dropped and counted (R163), refused requests are
answered (R186), stale frames are counted (R116). So no fault is ever raised. -/
inductive Fault where
  deriving DecidableEq, Repr

/-- Why a command would be refused. -/
inductive Refusal where
  /-- Raised only by an arm of `exec` that has no meaning yet; safe, since nothing is claimed of it.
  No arm raises it. -/
  | notModelled (mnemonic : String)
  deriving DecidableEq, Repr

/-! ### Feeder Tables (chapter 1) -/

/-- One record of the Segment Table (R1). -/
structure Segment where
  valid : Bool
  parent : Option Nat
  weight : Nat
  limit : Nat
  deriving DecidableEq, Repr

/-- Where a record in doubt stands with its query (R130). -/
inductive QueryStage where
  | waiting
  | queued
  | asked (tag : Byte) (left : Nat)
  deriving DecidableEq, Repr

/-- The query stage with its tries-left (R9). -/
structure Query where
  stage : QueryStage
  tries : Nat
  deriving DecidableEq, Repr

/-- Why a record is FAULTED (R9). -/
inductive FaultReason where
  | openContact
  | contactFault
  deriving DecidableEq, Repr

/-- The state of a record that is not VACANT (R9, R10). -/
inductive RecordState where
  | unverified (query : Query)
  | querying (query : Query)
  | settled
  | ordered
  | accepted
  | silent
  | faulted (reason : FaultReason)
  deriving DecidableEq, Repr

/-- A window bank (R27). -/
structure Bank where
  sum : Int
  count : Nat
  heard : Bool
  deriving DecidableEq, Repr

/-- A bank that is zeroed (R27). -/
def Bank.zeroed : Bank := ⟨0, 0, false⟩

/-- Rescue attempts and the rescue phase, which a record holds together (R146). -/
structure RescueMark where
  attempts : Nat
  phase : Phase
  deriving DecidableEq, Repr

/-- One consumer record that is not VACANT (R9). -/
structure Consumer where
  state : RecordState
  address : Byte
  segment : Nat
  allowed : PhaseSet
  assigned : Phase
  lock : Bool
  priority : Nat
  moveCount : Nat
  lastMove : Option Word32
  fresh : Int
  seeded : Bool
  stable : Int
  firstBank : Bank
  secondBank : Bank
  silence : Nat
  forward : Nat
  lastTag : Option Byte
  rescue : Option RescueMark
  deriving DecidableEq, Repr

/-- The state of the Feeder Tables. -/
structure FeederTables where
  /-- The active Segment Table, by index. -/
  active : List Segment
  /-- The shadow Segment Table, by index. -/
  shadow : List Segment
  /-- The pending mark of each index (R4). -/
  marks : List Bool
  /-- The Consumer Table, by index; `none` is a VACANT record. -/
  consumers : List (Option Consumer)
  /-- The Address Map, by link address (R15). -/
  addressMap : List (Option Nat)
  /-- The budget period counter (R24). -/
  budgetCounter : Nat
  deriving DecidableEq, Repr

/-! ### Measurement Intake (chapter 2) -/

/-- The fold state (R27); in FOLDING the position, and the shift and silence limit latched at the close. -/
inductive Fold where
  | idle
  | folding (position shift silenceLimit : Nat)
  deriving DecidableEq, Repr

/-- The state of Measurement Intake that is held once (R27). -/
structure Intake where
  /-- The open-bank selector: whether the second bank is the open one. -/
  secondOpen : Bool
  windowCounter : Nat
  fold : Fold
  deriving DecidableEq, Repr

/-! ### Mains Timebase (chapter 3) -/

/-- The timebase state (R46, R55). -/
inductive SyncState where
  | unsynced
  | synced
  | flywheel
  deriving DecidableEq, Repr

/-- The state of the Mains Timebase (R46). -/
structure Timebase where
  tickCounter : Nat
  activePeriod : Nat
  cycleCount : Word32
  reference : Phase
  sync : SyncState
  reanchorPending : Bool
  acceptedRun : Nat
  syntheticRun : Nat
  referenceRun : Nat
  markCounter : Nat
  markWaiting : Bool
  deriving DecidableEq, Repr

/-! ### Phase Supervision (chapter 4) -/

/-- The condition of a phase, with the count that its state holds (R64). -/
inductive Condition where
  | healthy
  | sag (delay : Nat)
  | lost
  | recovering (hold : Nat)
  deriving DecidableEq, Repr

/-- What Phase Supervision keeps for one phase (R64). -/
structure PhaseWatch where
  condition : Condition
  sagActive : Bool
  filterRun : Nat
  edgeSeen : Bool
  present : Bool
  absenceRun : Nat
  presenceRun : Nat
  deriving DecidableEq, Repr

/-- The state of Phase Supervision, its inputs SG1..SG3 and its outputs SLA and SLB (R64, R65). -/
structure Supervision where
  phases : PerPhase PhaseWatch
  sagLines : PhaseSet
  sla : Bool
  slb : Bool
  deriving DecidableEq, Repr

/-! ### Balancer (chapter 5) -/

/-- A candidate consumer of a pass with what the pass keeps of it (R87). -/
structure Candidate where
  consumer : Nat
  segment : Nat
  fromPhase : Phase
  load : Int
  targets : PhaseSet
  deriving DecidableEq, Repr

/-- A chosen move (R77). -/
structure ChosenMove where
  consumer : Nat
  fromPhase : Phase
  target : Phase
  segment : Nat
  gain : Int
  deriving DecidableEq, Repr

/-- The policy values a pass latches (R87). -/
structure LatchedPolicy where
  threshold : Nat
  movesPerPass : Nat
  minimumLoad : Nat
  budget : Nat
  dwell : Nat
  deriving DecidableEq, Repr

/-- A pass in progress: its working copy, its results and its cost before (R77, R87). -/
structure Pass where
  sums : List (PerPhase Int)
  segments : List Segment
  policy : LatchedPolicy
  candidates : List Candidate
  results : List ChosenMove
  costBefore : Int
  /-- Whether the pass's last search has been made (R92). -/
  searched : Bool
  deriving DecidableEq, Repr

/-- The balancer state (R77); a pass is present in EVALUATING only. -/
inductive BalancerState where
  | stopped
  | idle
  | evaluating (pass : Pass)
  | held
  deriving DecidableEq, Repr

/-- The state of the Balancer (R77). -/
structure Balancer where
  state : BalancerState
  /-- Folds remaining to the next pass trigger (R40). -/
  remaining : Nat
  /-- The Sum Table, by segment index (R84). -/
  sums : List (PerPhase Int)
  deriving DecidableEq, Repr

/-! ### Order Scheduler (chapters 6 and 7) -/

/-- Where a schedule entry came from (R102). -/
inductive Origin where
  | balance
  | rescue
  | manual
  deriving DecidableEq, Repr

/-- How far the exchange of an entry has gone (R103); the in-transmission mark is present in QUEUED only. -/
inductive Stage where
  | queued (inTransmission : Bool)
  | sent
  | accepted
  | unconfirmed
  deriving DecidableEq, Repr

/-- One entry of the Move Schedule (R102). -/
structure MoveEntry where
  consumer : Nat
  tag : Byte
  origin : Origin
  fromPhase : Phase
  target : Phase
  execute : Word16
  deadline : Word16
  stage : Stage
  deriving DecidableEq, Repr

/-- One entry of the query queue; only the head can be in transmission (R131). -/
structure QueryEntry where
  consumer : Nat
  inTransmission : Bool
  deriving DecidableEq, Repr

/-- The state of the Order Scheduler (R101, R131). -/
structure Scheduler where
  schedule : List MoveEntry
  latestExecute : Option Word16
  tagCounter : Byte
  queries : List QueryEntry
  deriving DecidableEq, Repr

/-! ### Rescue Unit (chapter 8) -/

/-- An open loss event: its covered phases and its event phases (R146). -/
structure LossEvent where
  covered : PhaseSet
  phases : PhaseSet
  deriving DecidableEq, Repr

/-- The state of the Rescue Unit (R146). -/
structure Rescue where
  event : Option LossEvent
  rescued : Nat
  unrescuable : Nat
  restored : Nat
  list : List Nat
  deriving DecidableEq, Repr

/-! ### Port Engine (chapter 9) -/

/-- A frame without its start byte and its length byte, which the payload gives (R161). -/
structure Frame where
  dest : Byte
  src : Byte
  kind : Byte
  tag : Byte
  payload : List Byte
  check : Word16
  deriving DecidableEq, Repr

/-- A port's receiver (R163); in RECEIVING the characters collected, start byte first. -/
inductive Receiver where
  | hunting
  | receiving (collected : List Byte)
  deriving DecidableEq, Repr

/-- A source of a transmit arbiter (R173). -/
inductive Source where
  | mark
  | order
  | query
  | response
  | notice
  | forward
  deriving DecidableEq, Repr

/-- A port's transmitter (R173); in BUSY the source and the frame being sent. -/
inductive Transmitter where
  | idle
  | busy (source : Source) (frame : Frame)
  deriving DecidableEq, Repr

/-- What each port has: its receiver, its transmitter, its burst count, and the forward queue whose
frames it transmits (R163, R171, R173). -/
structure PortState where
  receiver : Receiver
  transmitter : Transmitter
  burst : Nat
  forward : List Frame
  deriving DecidableEq, Repr

/-- A queued notice: its kind, the common part and the kind's own fields, fixed when it is queued (R177). -/
structure Notice where
  kind : Byte
  lost : Nat
  cycle : Word16
  fields : List Byte
  deriving DecidableEq, Repr

/-- The twelve status counters, in the order of R180. -/
structure Counters where
  badUp : Nat
  badDown : Nat
  misaddressed : Nat
  requestDrops : Nat
  downDrops : Nat
  upDrops : Nat
  foreignOrders : Nat
  staleFrames : Nat
  staleMoves : Nat
  overruns : Nat
  suppressed : Nat
  glitches : Nat
  deriving DecidableEq, Repr

/-- The state of the Port Engine (chapter 9). -/
structure PortEngine where
  up : PortState
  down : PortState
  responses : List Frame
  notices : List Notice
  lostNotices : Nat
  counters : Counters
  deriving DecidableEq, Repr

/-! ### Management Unit (chapter 10) and starts (chapter 11) -/

/-- Which edges of a sag queue a notice (R74). -/
inductive SagNoticeEdge where
  | none
  | entry
  | exit
  | both
  deriving DecidableEq, Repr

/-- The policy record, its fields in the order of R193. -/
structure Policy where
  window : Nat
  shift : Nat
  passDivider : Nat
  movesPerPass : Nat
  threshold : Nat
  minimumLoad : Nat
  inFlightLimit : Nat
  lead : Nat
  spacing : Nat
  rescueSpacing : Nat
  reportGrace : Nat
  transferGap : Nat
  queryInterval : Nat
  queryTries : Nat
  dwell : Nat
  budget : Nat
  budgetPeriod : Nat
  silenceLimit : Nat
  divider : Nat
  markInterval : Nat
  sagLevel : Nat
  sagFilter : Nat
  sagDelay : Nat
  recoveryHold : Nat
  flywheelLimit : Nat
  burstLimit : Nat
  rescueEnable : Bool
  autoResume : Bool
  noticeEdge : SagNoticeEdge
  mask : Word16
  deriving DecidableEq, Repr

/-- The reset sources (R201). -/
structure ResetSources where
  powerOn : Bool
  supplyDip : Bool
  resetLine : Bool
  commanded : Bool
  deriving DecidableEq, Repr

/-- The start record (R202). -/
structure StartRecord where
  sources : ResetSources
  cold : Bool
  deriving DecidableEq, Repr

/-- A request waiting in the request queue, whole as received (R183). -/
structure Request where
  src : Byte
  tag : Byte
  payload : List Byte
  deriving DecidableEq, Repr

/-- The state of the Management Unit (R183). -/
structure Management where
  requests : List Request
  /-- Whether the execution state is RESTART PENDING. -/
  restartPending : Bool
  active : Policy
  shadow : Policy
  policyPending : Bool
  startRecord : StartRecord
  deriving DecidableEq, Repr

/-- The whole state of the part, and the queue of the commands that wait. -/
structure State where
  tables : FeederTables
  intake : Intake
  timebase : Timebase
  supervision : Supervision
  balancer : Balancer
  scheduler : Scheduler
  rescue : Rescue
  ports : PortEngine
  management : Management
  /-- The straps as read at the last start (R200). -/
  straps : Straps
  /-- The sources recorded so far while the part is held in reset; `none` while it runs (R201). -/
  hold : Option ResetSources
  /-- The model's own: the open orders as the next event that meets one takes them (log 3). -/
  order : Config.OrderChoice
  /-- The model's own: how many order choices have been taken from `Config.openOrder` (log 3). -/
  drawn : Nat
  /-- The model's own: the commands that wait, first in, first out. -/
  pending : List Instr
  deriving DecidableEq, Repr

/-! ### Start values -/

/-- A segment record that is not in use (R8). -/
def Segment.unused : Segment := ⟨false, none, 0, Config.noLimit⟩

/-- The Segment Table after a cold start (R8). -/
def Segment.coldTable : List Segment :=
  ⟨true, none, 1, Config.noLimit⟩ :: List.replicate 15 Segment.unused

/-- The cold column of R193. -/
def Policy.cold : Policy where
  window := 50
  shift := 2
  passDivider := 6
  movesPerPass := 1
  threshold := 400
  minimumLoad := 20
  inFlightLimit := 2
  lead := 25
  spacing := 50
  rescueSpacing := 5
  reportGrace := 25
  transferGap := 2
  queryInterval := 25
  queryTries := 3
  dwell := 2813
  budget := 4
  budgetPeriod := 4320000
  silenceLimit := 6
  divider := 1
  markInterval := 50
  sagLevel := 1
  sagFilter := 4
  sagDelay := 10
  recoveryHold := 3000
  flywheelLimit := 8
  burstLimit := 2
  rescueEnable := true
  autoResume := false
  noticeEdge := .both
  mask := 0x0FFF

/-- A phase at every start (R76). -/
def PhaseWatch.start : PhaseWatch := ⟨.recovering 0, false, 0, false, true, 0, 0⟩

/-- The Mains Timebase at every start (R63). -/
def Timebase.start (mains60 : Bool) : Timebase where
  tickCounter := 0
  activePeriod := Config.nominalPeriod mains60
  cycleCount := 0
  reference := .l1
  sync := .unsynced
  reanchorPending := true
  acceptedRun := 0
  syntheticRun := 0
  referenceRun := 0
  markCounter := 0
  markWaiting := false

/-- A port at every start (R182). -/
def PortState.start : PortState := ⟨.hunting, .idle, 0, []⟩

/-- The status counters at every start (R180). -/
def Counters.zero : Counters := ⟨0, 0, 0, 0, 0, 0, 0, 0, 0, 0, 0, 0⟩

/-- A Sum Table whose every entry is 0 (R84). -/
def zeroSums : List (PerPhase Int) := List.replicate Config.segments (PerPhase.const 0)

/-- The straps at reset: every strap low, as the internal pull-downs leave them (11.6; log 5). -/
def lowStraps : Straps := ⟨0, false, 0⟩

/-- The START notice of a power-on cold start with own address 240, as the upstream transmitter sends it
(R161, R162, R177, R202). -/
def startNoticeFrame : Frame := ⟨255, 240, 0x58, 0, [0x01, 0, 0, 0, 0x81], 0x2513⟩

/-- The part just after a power-on cold start (R201): the start values of R8, R25, R44, R63, R76, R99,
R104, R145, R160, R182 and R199, with the START notice of R202 granted in the start event. -/
def State.reset : State where
  tables :=
    { active := Segment.coldTable
      shadow := Segment.coldTable
      marks := List.replicate Config.segments false
      consumers := List.replicate Config.consumers none
      addressMap := List.replicate Config.addresses none
      budgetCounter := 0 }
  intake := ⟨false, 0, .idle⟩
  timebase := Timebase.start false
  supervision := ⟨PerPhase.const PhaseWatch.start, PerPhase.const false, true, false⟩
  balancer := ⟨.stopped, 6, zeroSums⟩
  scheduler := ⟨[], none, 1, []⟩
  rescue := ⟨none, 0, 0, 0, []⟩
  ports :=
    { up := { PortState.start with transmitter := .busy .notice startNoticeFrame }
      down := PortState.start
      responses := []
      notices := []
      lostNotices := 0
      counters := Counters.zero }
  management :=
    { requests := []
      restartPending := false
      active := Policy.cold
      shadow := Policy.cold
      policyPending := false
      startRecord := ⟨⟨true, false, false, false⟩, true⟩ }
  straps := lowStraps
  hold := none
  order := .usual
  drawn := 0
  pending := []

end Sys2Proof.Machine
end

