-- ==== Sys2Proof/Machine/Bytes.lean ====
section
/-!
DEFINITION. Byte order, two's complement, saturation and the cycle-number comparisons of 00_scope.md.
-/

namespace Sys2Proof.Machine

/-- The byte that holds a number below 256. -/
def byte (n : Nat) : Byte := BitVec.ofNat 8 n

/-- A flag in one byte: 0 no, 1 yes (R188). -/
def flagByte (b : Bool) : Byte := if b then 1 else 0

/-- A 2-byte field, high byte first (R161). -/
def be2 (n : Nat) : List Byte := [byte (n / 256), byte n]

/-- A 4-byte field, high byte first (R161). -/
def be4 (n : Nat) : List Byte := [byte (n / 16777216), byte (n / 65536), byte (n / 256), byte n]

/-- A signed 2-byte field in two's complement (R161). -/
def signed2 (x : Int) : List Byte := be2 (BitVec.ofInt 16 x).toNat

/-- A signed 4-byte field in two's complement (R161). -/
def signed4 (x : Int) : List Byte := be4 (BitVec.ofInt 32 x).toNat

/-- The number that bytes hold, high byte first (R161). -/
def beNat (bytes : List Byte) : Nat := bytes.foldl (fun n b => n * 256 + b.toNat) 0

/-- A count raised by 1 that stays at its limit (00_scope.md, Numbers and ranges). -/
def raise (top n : Nat) : Nat := if n < top then n + 1 else n

/-- A value set to the nearer end of a range when it lies outside it. -/
def clamp (low high n : Nat) : Nat := max low (min high n)

/-- A load figure held within -2000..+2000 (R28). -/
def clampLoad (x : Int) : Int := max (-2000) (min 2000 x)

/-- By how much a cycle number is ahead of now, modulo 65536 (00_scope.md, Mains cycles). -/
def aheadBy (x now : Word16) : Nat := (x - now).toNat

/-- Whether a cycle number is ahead of now (00_scope.md, Mains cycles). -/
def ahead (x now : Word16) : Bool := 1 ≤ aheadBy x now && aheadBy x now ≤ 32767

/-- An execute cycle too near to be sent: not ahead of now, or ahead by 1 (R111). -/
def tooNear (x now : Word16) : Bool := !ahead x now || aheadBy x now == 1

/-- The code of a phase (R165, R188). -/
def phaseCode : Phase → Byte
  | .l1 => 1
  | .l2 => 2
  | .l3 => 3

/-- The phase that a code names, if any (R165). -/
def phaseOfCode (b : Byte) : Option Phase :=
  match b.toNat with
  | 1 => some .l1
  | 2 => some .l2
  | 3 => some .l3
  | _ => none

/-- A phase set in one byte, one bit per phase, L1 lowest (R177, R188). -/
def phaseSetCode (t : PhaseSet) : Byte :=
  byte ((if t.l1 then 1 else 0) + (if t.l2 then 2 else 0) + (if t.l3 then 4 else 0))

/-- The phase set a byte holds; bits 3 to 7 must be 0 and some bit set (R196). -/
def phaseSetOfCode (b : Byte) : Option PhaseSet :=
  if 1 ≤ b.toNat && b.toNat ≤ 7 then some ⟨b.getLsbD 0, b.getLsbD 1, b.getLsbD 2⟩ else none

/-- The list with the entry at an index replaced by a function of it. -/
def modifyAt {α : Type} (l : List α) (i : Nat) (f : α → α) : List α :=
  match l[i]? with
  | some x => l.set i (f x)
  | none => l

end Sys2Proof.Machine
end

