-- ==== Sys2Proof/Machine/Codes.lean ====
section
/-!
DEFINITION. The code tables of the manual: frame kinds (R165), notice kinds and their fields (R177),
request kinds, result codes and state codes (R186, R188, R189, R195).
-/

namespace Sys2Proof.Machine

/-! ### Frame kinds (R165) -/

def kindLoadReading : Byte := 0x21
def kindTransferOrder : Byte := 0x30
def kindTransferAnswer : Byte := 0x31
def kindTransferReport : Byte := 0x32
def kindPhaseQuery : Byte := 0x34
def kindPhaseAnswer : Byte := 0x35
def kindCycleMark : Byte := 0x40
def kindManagementRequest : Byte := 0x50
def kindManagementResponse : Byte := 0x51
def kindEventNotice : Byte := 0x58

/-- The broadcast address (R164). -/
def broadcastAddress : Byte := 0
/-- The head-end's address (R164). -/
def headEndAddress : Byte := 255

/-! ### Notice kinds (R177) -/

/-- The twelve notice kinds. -/
inductive NoticeKind where
  | start
  | moveDone
  | moveFailed
  | wiringLearned
  | consumerFault
  | consumerSilent
  | consumerBack
  | phaseCondition
  | timebase
  | rescueDone
  | passSummary
  | foreignOrderBlocked
  deriving DecidableEq, Repr

/-- The code of a notice kind. -/
def NoticeKind.code : NoticeKind → Nat
  | .start => 1
  | .moveDone => 2
  | .moveFailed => 3
  | .wiringLearned => 4
  | .consumerFault => 5
  | .consumerSilent => 6
  | .consumerBack => 7
  | .phaseCondition => 8
  | .timebase => 9
  | .rescueDone => 10
  | .passSummary => 11
  | .foreignOrderBlocked => 12

/-- Where an exchange failed (R129). -/
inductive FailurePoint where
  | order
  | answer
  | report
  | deadline
  deriving DecidableEq, Repr

def FailurePoint.code : FailurePoint → Byte
  | .order => 1
  | .answer => 2
  | .report => 3
  | .deadline => 4

/-! MOVE FAILED reasons (R177); those of an answer are the answer's own codes 1 to 4. -/

def reasonNotWired : Byte := 2
def reasonWrongPhase : Byte := 8
def reasonWithdrawn : Byte := 9
def reasonCancelled : Byte := 10
def reasonNoReport : Byte := 11

/-- The MOVE FAILED reason of an ABORTED report: TARGET_ABSENT, OVERLOAD, CONTACT_FAULT and
LOCAL_INHIBIT are 1 to 4 in the report (R165) and 5, 6, 7 and 4 in the notice (R177). -/
def abortReason (reason : Byte) : Byte :=
  match reason.toNat with
  | 1 => 5
  | 2 => 6
  | 3 => 7
  | _ => 4

/-- Why a phase changed condition (R70, R177). -/
inductive ConditionCause where
  | sagActive
  | crossingsAbsent
  | sagCleared
  | sagDelay
  | conditionsMet
  | sagReturned
  | holdComplete
  deriving DecidableEq, Repr

def ConditionCause.code : ConditionCause → Byte
  | .sagActive => 1
  | .crossingsAbsent => 2
  | .sagCleared => 3
  | .sagDelay => 4
  | .conditionsMet => 5
  | .sagReturned => 6
  | .holdComplete => 7

/-- CONSUMER SILENT causes (R177). -/
def causeWindows : Byte := 1
def causeQueries : Byte := 2

/-! ### States (R188, R189, R195) -/

/-- The code of a record state; an absent record is VACANT, code 0. -/
def RecordState.code : RecordState → Byte
  | .unverified _ => 1
  | .querying _ => 2
  | .settled => 3
  | .ordered => 4
  | .accepted => 5
  | .silent => 6
  | .faulted _ => 7

def FaultReason.code : FaultReason → Byte
  | .openContact => 1
  | .contactFault => 2

def BalancerState.code : BalancerState → Byte
  | .stopped => 0
  | .idle => 1
  | .evaluating _ => 2
  | .held => 3

def SyncState.code : SyncState → Byte
  | .unsynced => 0
  | .synced => 1
  | .flywheel => 2

def Condition.code : Condition → Byte
  | .healthy => 1
  | .sag _ => 2
  | .lost => 3
  | .recovering _ => 4

def Origin.code : Origin → Byte
  | .balance => 1
  | .rescue => 2
  | .manual => 3

def Stage.code : Stage → Byte
  | .queued _ => 1
  | .sent => 2
  | .accepted => 3
  | .unconfirmed => 4

/-! ### Management results (R186) -/

/-- The result codes. -/
inductive Result where
  | done
  | doneClamped
  | badIndex
  | badValue
  | busy
  | wrongState
  | treeRule
  | duplicateAddress
  | noRoom
  | unknownKind
  deriving DecidableEq, Repr

def Result.code : Result → Byte
  | .done => 0
  | .doneClamped => 1
  | .badIndex => 2
  | .badValue => 3
  | .busy => 4
  | .wrongState => 5
  | .treeRule => 6
  | .duplicateAddress => 7
  | .noRoom => 8
  | .unknownKind => 9

/-! Request kinds (R188). -/

def requestReadStatus : Byte := 0x01
def requestReadPolicy : Byte := 0x02
def requestWritePolicy : Byte := 0x03
def requestReadSegment : Byte := 0x04
def requestWriteSegment : Byte := 0x05
def requestReadConsumer : Byte := 0x06
def requestWriteConsumer : Byte := 0x07
def requestClearConsumer : Byte := 0x08
def requestReadSums : Byte := 0x09
def requestSetLock : Byte := 0x0A
def requestClearFault : Byte := 0x0B
def requestManualMove : Byte := 0x0C
def requestCancelMoves : Byte := 0x0D
def requestBalancerControl : Byte := 0x0E
def requestReadSchedule : Byte := 0x0F
def requestRestart : Byte := 0x10

/-- The start record in one byte (R202). -/
def startRecordByte (r : StartRecord) : Byte :=
  byte ((if r.sources.powerOn then 1 else 0) + (if r.sources.supplyDip then 2 else 0)
    + (if r.sources.resetLine then 4 else 0) + (if r.sources.commanded then 8 else 0)
    + (if r.cold then 128 else 0))

end Sys2Proof.Machine
end

