-- ==== Sys2Proof/Machine/Frames.lean ====
section
/-!
DEFINITION. The feeder link frame: its bytes, its check, and the receiver that collects it character by
character (R161 to R163).
-/

namespace Sys2Proof.Machine

/-- One bit of the CRC with generator 0x1021 (R162). -/
def crcBit (c : Word16) : Word16 := if c.msb then (c <<< 1) ^^^ 0x1021 else c <<< 1

/-- One byte of the CRC (R162). -/
def crcByte (c : Word16) (b : Byte) : Word16 :=
  (List.range 8).foldl (fun c _ => crcBit c) (c ^^^ (b.setWidth 16 <<< 8))

/-- The check over some bytes, from 0xFFFF (R162). -/
def crc (bytes : List Byte) : Word16 := bytes.foldl crcByte 0xFFFF

/-- The bytes that the check covers: byte 1 through the last payload byte (R162). -/
def checkedBytes (dest src kind tag : Byte) (payload : List Byte) : List Byte :=
  dest :: src :: kind :: tag :: byte payload.length :: payload

/-- A frame the part builds, or a good frame: one whose check is the computed one (R162). -/
def goodFrame (dest src kind tag : Byte) (payload : List Byte) : Frame :=
  ⟨dest, src, kind, tag, payload, crc (checkedBytes dest src kind tag payload)⟩

/-- The start byte (R161). -/
def startByte : Byte := 0xA5

/-- A frame's bytes in the order sent (R161). -/
def frameBytes (f : Frame) : List Byte :=
  startByte :: checkedBytes f.dest f.src f.kind f.tag f.payload ++ be2 f.check.toNat

/-- What a received character brings about (R163). -/
inductive Reception where
  | nothing
  | dropped
  | arrived (frame : Frame)
  deriving DecidableEq, Repr

/-- What the last character of a whole reception brings about: the frame has arrived when its check is
the computed one, and is dropped otherwise (R163). -/
def endReception : List Byte → Reception
  | _ :: dest :: src :: kind :: tag :: length :: rest =>
    let payload := rest.take length.toNat
    let check := BitVec.ofNat 16 (beNat (rest.drop length.toNat))
    if crc (checkedBytes dest src kind tag payload) = check then
      .arrived ⟨dest, src, kind, tag, payload, check⟩
    else .dropped
  | _ => .nothing

/-- A character collected in RECEIVING (R163): `collected` are the characters so far, this one last. -/
def receiveInto (collected : List Byte) : Receiver × Reception :=
  match collected[5]? with
  | none => (.receiving collected, .nothing)
  | some length =>
    if length.toNat > Config.payloadRoom then (.hunting, .dropped)
    else if collected.length = 8 + length.toNat then (.hunting, endReception collected)
    else (.receiving collected, .nothing)

/-- One character at a receiver, with or without a framing error (R163). -/
def receive (r : Receiver) (char : Byte) (framingError : Bool) : Receiver × Reception :=
  match r with
  | .hunting =>
    if !framingError && char == startByte then (.receiving [startByte], .nothing) else (.hunting, .nothing)
  | .receiving collected =>
    if framingError then (.hunting, .dropped) else receiveInto (collected ++ [char])

end Sys2Proof.Machine
end

