-- ==== Sys2Proof/Machine/Flags.lean ====
section
/-!
DEFINITION. The status counters (R180) and the notices (R177 to R179), which every block raises.
-/

namespace Sys2Proof.Machine

/-- Now: the cycle number, the low 16 bits of the cycle count (R46). -/
def State.now (s : State) : Word16 := s.timebase.cycleCount.setWidth 16

/-- The own address (R164). -/
def State.ownAddress (s : State) : Byte := Config.ownAddress s.straps

/-- A change of the status counters. -/
def State.count (s : State) (f : Counters → Counters) : State :=
  { s with ports.counters := f s.ports.counters }

/-- A status counter raised by 1, saturating at 65535 (R180). -/
def bump (n : Nat) : Nat := raise Config.counterTop n

def countBad (port : Port) (s : State) : State :=
  match port with
  | .upstream => s.count fun c => { c with badUp := bump c.badUp }
  | .downstream => s.count fun c => { c with badDown := bump c.badDown }

def countMisaddressed (s : State) : State := s.count fun c => { c with misaddressed := bump c.misaddressed }
def countRequestDrop (s : State) : State := s.count fun c => { c with requestDrops := bump c.requestDrops }
def countDownDrop (s : State) : State := s.count fun c => { c with downDrops := bump c.downDrops }
def countUpDrop (s : State) : State := s.count fun c => { c with upDrops := bump c.upDrops }
def countForeign (s : State) : State := s.count fun c => { c with foreignOrders := bump c.foreignOrders }
def countStaleFrame (s : State) : State := s.count fun c => { c with staleFrames := bump c.staleFrames }
def countStaleMove (s : State) : State := s.count fun c => { c with staleMoves := bump c.staleMoves }
def countOverrun (s : State) : State := s.count fun c => { c with overruns := bump c.overruns }
def countSuppressed (s : State) : State := s.count fun c => { c with suppressed := bump c.suppressed }
def countGlitch (s : State) : State := s.count fun c => { c with glitches := bump c.glitches }

/-- Whether the enable of a notice kind is on in the active policy: bit (code - 1) (R178, R193). -/
def State.noticeEnabled (s : State) (kind : NoticeKind) : Bool :=
  s.management.active.mask.getLsbD (kind.code - 1)

/-- A notice that passes the mask is queued, or dropped and counted lost at a full queue (R179). -/
def queueNotice (kind : NoticeKind) (fields : List Byte) (s : State) : State :=
  if s.ports.notices.length < Config.noticeRoom then
    { s with
      ports.notices := s.ports.notices ++ [⟨byte kind.code, s.ports.lostNotices, s.now, fields⟩]
      ports.lostNotices := 0 }
  else { s with ports.lostNotices := raise 255 s.ports.lostNotices }

/-- A notice raised under the mask: one of a kind whose enable is off is neither queued nor lost (R178). -/
def raiseNotice (kind : NoticeKind) (fields : List Byte) (s : State) : State :=
  if s.noticeEnabled kind then queueNotice kind fields s else s

/-- An EVENT NOTICE frame: to the head-end, with tag 0 and the common part first (R177). -/
def noticeFrame (own : Byte) (n : Notice) : Frame :=
  goodFrame headEndAddress own kindEventNotice 0 (n.kind :: byte n.lost :: be2 n.cycle.toNat ++ n.fields)

end Sys2Proof.Machine
end

