-- ==== Sys2Proof/Machine/Ops.lean ====
section
/-!
DEFINITION. The named operations over the tables: reading and writing a record, the Address Map, paths
of the segment tree, contributions and the Sum Table (R11, R12, R15, R84, R85, R88).
-/

namespace Sys2Proof.Machine

/-! ### Records and segments -/

/-- The record at a consumer index, `none` when VACANT or above 239. -/
def State.record (s : State) (i : Nat) : Option Consumer := (s.tables.consumers[i]?).join

/-- The record at an index written, or made VACANT. -/
def State.setRecord (s : State) (i : Nat) (r : Option Consumer) : State :=
  { s with tables.consumers := s.tables.consumers.set i r }

/-- A change of the record at an index, if it is not VACANT. -/
def State.modifyRecord (s : State) (i : Nat) (f : Consumer → Consumer) : State :=
  match s.record i with
  | some r => s.setRecord i (some (f r))
  | none => s

/-- The non-VACANT records that meet a test, by ascending index. -/
def State.indicesWhere (s : State) (test : Nat → Consumer → Bool) : List Nat :=
  s.tables.consumers.zipIdx.filterMap fun ri =>
    match ri.1 with
    | some r => if test ri.2 r then some ri.2 else none
    | none => none

/-- The index a link address is mapped to, if any (R15). -/
def State.mapped (s : State) (a : Byte) : Option Nat := (s.tables.addressMap[a.toNat]?).join

/-- The map takes an address to an index, or to none. -/
def State.setMap (s : State) (a : Byte) (i : Option Nat) : State :=
  { s with tables.addressMap := s.tables.addressMap.set a.toNat i }

/-- The segment record at an index of a Segment Table; one that is not in use beyond it. -/
def segmentAt (t : List Segment) (i : Nat) : Segment := (t[i]?).getD Segment.unused

/-- The path of a segment: itself, its parent, and so on (R1); at most `fuel` segments. -/
def pathFrom (t : List Segment) : Nat → Nat → List Nat
  | 0, _ => []
  | fuel + 1, i =>
    i :: match (segmentAt t i).parent with
      | some p => pathFrom t fuel p
      | none => []

/-- The path of a segment to segment 0: at most 16 segments (R2). -/
def segmentPath (t : List Segment) (i : Nat) : List Nat := pathFrom t Config.segments i

/-! ### Projected phase and contribution -/

/-- The Move Schedule entry that names a consumer: the record's move link (R102). -/
def State.entryOf (s : State) (i : Nat) : Option MoveEntry :=
  s.scheduler.schedule.find? fun e => e.consumer == i

/-- Whether a record state is one of the contributing states (R12). -/
def RecordState.contributes : RecordState → Bool
  | .unverified _ | .querying _ | .settled | .ordered | .accepted => true
  | .silent | .faulted _ => false

/-- Whether a record state is ORDERED or ACCEPTED. -/
def RecordState.moving : RecordState → Bool
  | .ordered | .accepted => true
  | _ => false

/-- Whether a record state is one of the drawable ones: SETTLED, UNVERIFIED, QUERYING (R148, R152). -/
def RecordState.drawable : RecordState → Bool
  | .unverified _ | .querying _ | .settled => true
  | _ => false

/-- The projected phase of a record (R11). -/
def State.projectedOf (s : State) (i : Nat) (r : Consumer) : Phase :=
  if r.state.moving then
    match s.entryOf i with
    | some e => e.target
    | none => r.assigned
  else r.assigned

/-- The projected phase of the record at an index; none when VACANT (R11). -/
def State.projected (s : State) (i : Nat) : Option Phase := (s.record i).map (s.projectedOf i)

/-- What a contributing record adds to the Sum Table (R12). -/
structure Contribution where
  segment : Nat
  phase : Phase
  load : Int
  deriving DecidableEq, Repr

/-- The contribution of a record, if it is contributing (R12). -/
def State.contributionOf (s : State) (i : Nat) (r : Consumer) : Option Contribution :=
  if r.state.contributes && (segmentAt s.tables.active r.segment).valid then
    some ⟨r.segment, s.projectedOf i r, r.stable⟩
  else none

/-- The contribution of the record at an index (R12). -/
def State.contribution (s : State) (i : Nat) : Option Contribution :=
  (s.record i).bind (s.contributionOf i)

/-- The contributions of all records. -/
def State.contributions (s : State) : List Contribution :=
  s.tables.consumers.zipIdx.filterMap fun ri => ri.1.bind (s.contributionOf ri.2)

/-! ### The Sum Table -/

/-- An entry of a table of sums (R77). -/
def sumAt (t : List (PerPhase Int)) (i : Nat) (p : Phase) : Int :=
  ((t[i]?).getD (PerPhase.const 0)).get p

/-- A load added to one entry of a table of sums. -/
def addTo (p : Phase) (x : Int) (t : List (PerPhase Int)) (i : Nat) : List (PerPhase Int) :=
  modifyAt t i fun e => e.set p (e.get p + x)

/-- A load added to the entry of a phase in every segment of a path (R85). -/
def addAlong (path : List Nat) (p : Phase) (x : Int) (t : List (PerPhase Int)) : List (PerPhase Int) :=
  path.foldl (addTo p x) t

/-- The removal of a contribution along the active path of its segment (R85). -/
def removeContribution (active : List Segment) (c : Option Contribution) (t : List (PerPhase Int)) :
    List (PerPhase Int) :=
  match c with
  | some c => addAlong (segmentPath active c.segment) c.phase (-c.load) t
  | none => t

/-- The addition of a contribution along the active path of its segment (R85). -/
def addContribution (active : List Segment) (c : Option Contribution) (t : List (PerPhase Int)) :
    List (PerPhase Int) :=
  match c with
  | some c => addAlong (segmentPath active c.segment) c.phase c.load t
  | none => t

/-- A change `f` that concerns the record at one index, with the change of its contribution handed to
the Balancer in the same event: the old one is removed and the new one added (R12, R85). A change that
leaves the contribution as it was hands nothing over. -/
def recontribute (i : Nat) (f : State → State) (s : State) : State :=
  let t := f s
  let old := s.contribution i
  let new := t.contribution i
  if old = new then t
  else
    { t with
      balancer.sums := addContribution t.tables.active new (removeContribution s.tables.active old t.balancer.sums) }

/-- A change of one record with its contribution handed over (R12). -/
def changeRecord (i : Nat) (f : Consumer → Consumer) (s : State) : State :=
  recontribute i (fun s => s.modifyRecord i f) s

/-- Step 3 of a rebuild for one segment: its sums are added into its parent's (R84). -/
def foldIntoParent (active : List Segment) (t : List (PerPhase Int)) (i : Nat) : List (PerPhase Int) :=
  let seg := segmentAt active i
  match seg.valid, seg.parent with
  | true, some p => Phase.all.foldl (fun t q => addTo q (sumAt t i q) t p) t
  | _, _ => t

/-- The table of sums that a rebuild makes (R84): zero; then each contributing record's Stable load at
its own segment; then, from index 15 down to 1, each valid segment's sums into its parent's. -/
def rebuiltSums (active : List Segment) (cs : List Contribution) : List (PerPhase Int) :=
  let own := cs.foldl (fun t c => addTo c.phase c.load t c.segment) zeroSums
  ((List.range (Config.segments - 1)).reverse.map (· + 1)).foldl (foldIntoParent active) own

/-- A rebuild of the live Sum Table (R84). -/
def rebuild (s : State) : State :=
  { s with balancer.sums := rebuiltSums s.tables.active s.contributions }

/-- The imbalance of three sums: the largest less the smallest (R88). -/
def imbalance (e : PerPhase Int) : Int := max e.l1 (max e.l2 e.l3) - min e.l1 (min e.l2 e.l3)

/-- The cost of a table of sums: weight times imbalance over the valid segments (R88). -/
def cost (segments : List Segment) (t : List (PerPhase Int)) : Int :=
  segments.zipIdx.foldl (fun c si =>
    if si.1.valid then c + si.1.weight * imbalance ((t[si.2]?).getD (PerPhase.const 0)) else c) 0

/-! ### Phases and queries of a record -/

/-- Whether a phase is HEALTHY: only then may it be the target of a move (R69). -/
def State.healthy (s : State) (p : Phase) : Bool := (s.supervision.phases.get p).condition == .healthy

/-- Whether a phase is LOST (R69). -/
def State.isLost (s : State) (p : Phase) : Bool := (s.supervision.phases.get p).condition == .lost

/-- Whether the timebase is SYNCED (R56). -/
def State.synced (s : State) : Bool := s.timebase.sync == .synced

/-- The query stage that entry to UNVERIFIED or QUERYING gives: WAITING with full tries (R10). -/
def State.freshQuery (s : State) : Query := ⟨.waiting, s.management.active.queryTries⟩

/-- The query of a record in UNVERIFIED or QUERYING (R9). -/
def RecordState.query : RecordState → Option Query
  | .unverified q => some q
  | .querying q => some q
  | _ => none

/-- The same state with another query, for a record in UNVERIFIED or QUERYING. -/
def RecordState.withQuery (st : RecordState) (q : Query) : RecordState :=
  match st with
  | .unverified _ => .unverified q
  | .querying _ => .querying q
  | st => st

/-- A record leaves the query queue (R10, R133). -/
def leaveQueue (i : Nat) (s : State) : State :=
  { s with scheduler.queries := s.scheduler.queries.filter fun e => e.consumer != i }

/-- The link address of a record. -/
def State.addressOf (s : State) (i : Nat) : Byte :=
  match s.record i with
  | some r => r.address
  | none => 0

/-- The order choice of the present event (log 3). -/
def State.choice (s : State) : Config.OrderChoice := s.order

/-- The present event's order choice is used up; the next event's is free (log 3). -/
def dropChoice (s : State) : State := { s with order := Config.openOrder s.drawn, drawn := s.drawn + 1 }

end Sys2Proof.Machine
end

