-- ==== Sys2Proof/Machine/Rescue.lean ====
section
/-!
DEFINITION. The Rescue Unit (chapter 8): its list, the loss event and its close test, what the ends of
moves and the changes of records do to it. Its draws stand in Schedule.lean, beside the entries they make.
-/

namespace Sys2Proof.Machine

/-- Whether the Move Schedule holds an entry of origin RESCUE. -/
def State.rescueEntries (s : State) : Bool := s.scheduler.schedule.any fun e => e.origin == .rescue

/-- Rescue is active while the list holds an entry or the schedule a RESCUE entry (R146). -/
def State.rescueActive (s : State) : Bool := !s.rescue.list.isEmpty || s.rescueEntries

/-- The active rescue enable (R148). -/
def State.rescueEnabled (s : State) : Bool := s.management.active.rescueEnable

/-- Whether a record waits in the rescue list. -/
def State.listed (s : State) (i : Nat) : Bool := s.rescue.list.contains i

/-- A rescue count raised by 1, saturating at 255 (R146). -/
def countRescued (s : State) : State := { s with rescue.rescued := raise 255 s.rescue.rescued }
def countUnrescuable (s : State) : State := { s with rescue.unrescuable := raise 255 s.rescue.unrescuable }
def countRestored (s : State) : State := { s with rescue.restored := raise 255 s.rescue.restored }

/-- The close test: an open loss event with nothing waiting and no RESCUE entry left closes, with its
RESCUE DONE notice (R157). -/
def closeTest (s : State) : State :=
  match s.rescue.event with
  | some ev =>
    if s.rescueActive then s
    else
      raiseNotice .rescueDone
        [phaseSetCode ev.phases, byte s.rescue.rescued, byte s.rescue.unrescuable, byte s.rescue.restored]
        { s with rescue.event := none }
  | none => s

/-- The priority class of a record. -/
def State.classOf (s : State) (i : Nat) : Nat :=
  match s.record i with
  | some r => r.priority
  | none => 0

/-- The order of the rescue list: by priority class, then by consumer index (R147). -/
def State.listedBefore (s : State) (i j : Nat) : Bool :=
  s.classOf i < s.classOf j || (s.classOf i == s.classOf j && i < j)

/-- An index inserted in the place that an order gives it. -/
def insertInOrder (before : Nat → Nat → Bool) (i : Nat) : List Nat → List Nat
  | [] => [i]
  | j :: rest => if before i j then i :: j :: rest else j :: insertInOrder before i rest

/-- A record is inserted into the rescue list with some attempts and a rescue phase (R147, R148, R152). -/
def enlist (i attempts : Nat) (p : Phase) (s : State) : State :=
  ({ s with rescue.list := insertInOrder s.listedBefore i s.rescue.list }).modifyRecord i
    fun r => { r with rescue := some ⟨attempts, p⟩ }

/-- A record leaves the rescue list. -/
def unlist (i : Nat) (s : State) : State :=
  { s with rescue.list := s.rescue.list.filter fun j => j != i }

/-- A listed record leaves the list and is counted in none of the counts; the close test follows (R154). -/
def delist (i : Nat) (s : State) : State := if s.listed i then closeTest (unlist i s) else s

/-- The attempts with which R152 would insert a record, if its attempts allow it. -/
def attemptsAllowed : Option RescueMark → Option Nat
  | none => some 0
  | some m => if m.attempts < 2 then some m.attempts else none

/-- The insertion by a hand-over (R152): the attempts and phase with which the record is inserted, if all
of its conditions hold. -/
def State.handOverInsertion (s : State) (i : Nat) : Option (Nat × Phase) :=
  match s.rescue.event, s.record i with
  | some ev, some r =>
    let p := s.projectedOf i r
    if s.rescueEnabled && !r.lock && r.state.drawable && s.isLost p && ev.covered.get p && !s.listed i then
      (attemptsAllowed r.rescue).map fun n => (n, p)
    else none
  | _, _ => none

/-- A record is inserted when R152 allows it; otherwise nothing happens. -/
def insertByHandOver (i : Nat) (s : State) : State :=
  match s.handOverInsertion i with
  | some (n, p) => enlist i n p s
  | none => s

/-- Whether the record at an index is FAULTED. -/
def State.isFaulted (s : State) (i : Nat) : Bool :=
  match s.record i with
  | some r => match r.state with
    | .faulted _ => true
    | _ => false
  | none => false

/-- What the end of a RESCUE entry counts, by the record as it stands after the end (R153). -/
def rescueEntryEnd (e : MoveEntry) (s : State) : State :=
  if s.isFaulted e.consumer then countUnrescuable s
  else
    match s.projected e.consumer with
    | some p =>
      if s.isLost p then
        match s.handOverInsertion e.consumer with
        | some (n, q) => enlist e.consumer n q s
        | none => countUnrescuable s
      else if p = e.fromPhase then countRestored s
      else countRescued s
    | none => s

/-- The end of a schedule entry handed to the Rescue Unit after the record update (R125, R153); the close
test follows. -/
def handOverEnd (e : MoveEntry) (s : State) : State :=
  closeTest <| match e.origin with
    | .rescue => rescueEntryEnd e s
    | .balance | .manual => insertByHandOver e.consumer s

/-- A settlement by PHASE ANSWER or late TRANSFER REPORT (R154). -/
def noteSettlement (i : Nat) (s : State) : State :=
  match s.projected i with
  | some p => if s.isLost p then (if s.listed i then s else insertByHandOver i s) else delist i s
  | none => s

/-- Entry to FAULTED or SILENT: a listed record is removed and counted unrescuable (R154). -/
def noteOutOfService (i : Nat) (s : State) : State :=
  if s.listed i then closeTest (countUnrescuable (unlist i s)) else s

/-- A record drops its rescue attempts and its rescue phase (R146). -/
def dropRescueMark (i : Nat) (s : State) : State := s.modifyRecord i fun r => { r with rescue := none }

/-- The loss event after a trigger: opened with its counts at 0, or extended (R148). -/
def openOrExtend (p : Phase) (s : State) : State :=
  match s.rescue.event with
  | none =>
    let only := (PerPhase.const false).set p true
    { s with rescue := { s.rescue with event := some ⟨only, only⟩, rescued := 0, unrescuable := 0, restored := 0 } }
  | some ev => { s with rescue.event := some ⟨ev.covered.set p true, ev.phases.set p true⟩ }

/-- A rescue trigger: a phase entered LOST from HEALTHY or SAG (R73, R148). -/
def rescueTrigger (p : Phase) (s : State) : State :=
  if s.rescueEnabled then
    let s := openOrExtend p s
    closeTest <| (s.indicesWhere fun i r =>
      r.state.drawable && s.projectedOf i r == p && !r.lock && !s.listed i).foldl (fun s i => enlist i 0 p s) s
  else s

/-- A phase entered RECOVERING from LOST (R155). -/
def rescueRecovery (p : Phase) (s : State) : State :=
  let s := (s.rescue.list.filter fun i => s.projected i == some p).foldl (fun s i => countRestored (unlist i s)) s
  let s := (s.indicesWhere fun _ r => r.rescue.any fun m => m.phase == p).foldl (fun s i => dropRescueMark i s) s
  closeTest <| match s.rescue.event with
    | some ev => { s with rescue.event := some { ev with covered := ev.covered.set p false } }
    | none => s

/-- The active rescue enable went from on to off (R149): with a loss event open every list entry is
removed and counted unrescuable, and the close test follows. -/
def rescueDisabled (s : State) : State :=
  match s.rescue.event with
  | some _ => closeTest (s.rescue.list.foldl (fun s i => countUnrescuable (unlist i s)) s)
  | none => s

end Sys2Proof.Machine
end

