-- ==== Sys2Proof/Machine/Schedule.lean ====
section
/-!
DEFINITION. The Move Schedule (chapter 6): making an entry, the ends of entries, and the rescue draws
that make RESCUE entries (R150, R151).
-/

namespace Sys2Proof.Machine

/-! ### Making an entry -/

/-- The spacing of an entry, by its origin (R106). -/
def State.spacingOf (s : State) : Origin → Nat
  | .rescue => s.management.active.rescueSpacing
  | .balance | .manual => s.management.active.spacing

/-- The execute cycle an entry made now would take (R106). -/
def State.executeCycle (s : State) (o : Origin) : Word16 :=
  let candidate := s.now + BitVec.ofNat 16 s.management.active.lead
  match s.scheduler.latestExecute with
  | some latest =>
    let spaced := latest + BitVec.ofNat 16 (s.spacingOf o)
    if ahead candidate spaced then candidate else spaced
  | none => candidate

/-- Whether that execute cycle is ahead of now by at most 2,040 (R105). -/
def State.withinReach (s : State) (o : Origin) : Bool :=
  aheadBy (s.executeCycle o) s.now ≤ Config.scheduleReach

/-- The tag counter after giving a tag: from 255 it goes to 1 (R108). -/
def nextTag (t : Byte) : Byte := if t = 255 then 1 else t + 1

/-- The entry made now for a record with an assigned phase (R102, R109). -/
def State.newEntry (s : State) (o : Origin) (i : Nat) (assigned target : Phase) : MoveEntry where
  consumer := i
  tag := s.scheduler.tagCounter
  origin := o
  fromPhase := assigned
  target := target
  execute := s.executeCycle o
  deadline := s.executeCycle o + BitVec.ofNat 16 s.management.active.reportGrace
  stage := .queued false

/-- An entry appended: it takes the execute cycle and the tag (R106, R108, R109). -/
def appendEntry (e : MoveEntry) (s : State) : State :=
  { s with
    scheduler :=
      { s.scheduler with
        schedule := s.scheduler.schedule ++ [e]
        latestExecute := some e.execute
        tagCounter := nextTag s.scheduler.tagCounter } }

/-- Making an entry (R109): the record enters ORDERED, its projected phase becomes the target, and a
record that waits in the rescue list leaves it. -/
def makeEntry (o : Origin) (i : Nat) (target : Phase) (s : State) : State :=
  match s.record i with
  | some r =>
    let e := s.newEntry o i r.assigned target
    delist i <| recontribute i
      (fun s => (appendEntry e s).modifyRecord i fun r => { r with state := .ordered }) s
  | none => s

/-! ### Ends of entries -/

/-- An entry leaves the Move Schedule; the order of the others is kept (R102). -/
def removeEntry (i : Nat) (s : State) : State :=
  { s with scheduler.schedule := s.scheduler.schedule.filter fun e => e.consumer != i }

/-- The stage of the entry that names a consumer. -/
def setStage (i : Nat) (st : Stage) (s : State) : State :=
  { s with
    scheduler.schedule := s.scheduler.schedule.map fun e => if e.consumer == i then { e with stage := st } else e }

/-- An entry is removed and its record changed, with the change of contribution handed over (R85). -/
def closeEntry (i : Nat) (f : Consumer → Consumer) (s : State) : State :=
  recontribute i (fun s => (removeEntry i s).modifyRecord i f) s

/-- A phase now of a notice, 0 when there is none (R177). -/
def optionPhaseCode : Option Phase → Byte
  | some p => phaseCode p
  | none => 0

/-- The MOVE FAILED notice of an entry (R129). -/
def noticeMoveFailed (e : MoveEntry) (point : FailurePoint) (reason : Byte) (phaseNow : Option Phase) (s : State) :
    State :=
  raiseNotice .moveFailed
    [byte e.consumer, s.addressOf e.consumer, e.tag, e.origin.code, phaseCode e.fromPhase, phaseCode e.target,
      point.code, reason, optionPhaseCode phaseNow] s

/-- The MOVE DONE notice of an entry (R129). -/
def noticeMoveDone (e : MoveEntry) (phaseNow : Phase) (outcome : Byte) (s : State) : State :=
  raiseNotice .moveDone
    [byte e.consumer, s.addressOf e.consumer, e.tag, e.origin.code, phaseCode e.fromPhase, phaseCode e.target,
      phaseCode phaseNow, outcome] s

/-- The CONSUMER FAULT notice of a record, with the fields that the tables of R129 and R177 give it; no origin
is among them, though R159 speaks of one. DESIGN CHOICE (log 23). -/
def noticeConsumerFault (i : Nat) (reason : FaultReason) (tag : Byte) (s : State) : State :=
  raiseNotice .consumerFault [byte i, s.addressOf i, reason.code, tag] s

/-- A withdrawal, with its reason (R115). -/
def withdraw (reason : Byte) (e : MoveEntry) (s : State) : State :=
  s |> closeEntry e.consumer (fun r => { r with state := .settled })
    |> noticeMoveFailed e .order reason none
    |> handOverEnd e

/-- Whether an entry is QUEUED and not in transmission. -/
def MoveEntry.waits (e : MoveEntry) : Bool := e.stage == .queued false

/-- The withdrawal of every QUEUED entry, not in transmission, whose execute cycle is too near, in
schedule order (R111, R114). -/
def withdrawTooNear (s : State) : State :=
  (s.scheduler.schedule.filter fun e => e.waits && tooNear e.execute s.now).foldl
    (fun s e => withdraw reasonWithdrawn e s) s

/-- A REFUSE taken by an entry (R118). -/
def refuseEntry (reason : Byte) (e : MoveEntry) (s : State) : State :=
  let notWired := reason == reasonNotWired
  let prune (r : Consumer) : Consumer :=
    if notWired && r.assigned != e.target then { r with allowed := r.allowed.set e.target false } else r
  let s := s |> closeEntry e.consumer (fun r => { r with state := .settled })
    |> noticeMoveFailed e .answer reason none
  let s :=
    if notWired then
      let s := s.modifyRecord e.consumer prune
      let allowed := match s.record e.consumer with
        | some r => phaseSetCode r.allowed
        | none => 0
      raiseNotice .wiringLearned [byte e.consumer, s.addressOf e.consumer, phaseCode e.target, allowed] s
    else s
  handOverEnd e s

/-- A taken report whose phase now is none (R121). -/
def reportFaulted (e : MoveEntry) (s : State) : State :=
  s |> closeEntry e.consumer (fun r => { r with state := .faulted .contactFault })
    |> noticeConsumerFault e.consumer .contactFault e.tag
    |> handOverEnd e

/-- The record after a taken report that names a phase: settled on it, with the phase in its allowed
set, and with the move counted when the phase is not the from phase (R122, R13, R14). -/
def settleReported (e : MoveEntry) (p : Phase) (cycle : Word32) (r : Consumer) : Consumer :=
  let r := { r with state := .settled, assigned := p, allowed := r.allowed.set p true }
  if p = e.fromPhase then r else { r with moveCount := raise 15 r.moveCount, lastMove := some cycle }

/-- A taken report whose phase now names a phase (R122). `reason` is the MOVE FAILED reason to give when
the phase is not the target. -/
def reportSettled (e : MoveEntry) (p : Phase) (outcome reason : Byte) (s : State) : State :=
  let s := closeEntry e.consumer (settleReported e p s.timebase.cycleCount) s
  let s := if p = e.target then noticeMoveDone e p outcome s else noticeMoveFailed e .report reason (some p) s
  handOverEnd e s

/-- The record after its report deadline: QUERYING, on the target after an ACCEPTED entry (R123). -/
def unreported (e : MoveEntry) (q : Query) (r : Consumer) : Consumer :=
  { r with state := .querying q, assigned := if e.stage = .accepted then e.target else r.assigned }

/-- The end of an entry that reaches its report deadline (R123). -/
def endUnreported (e : MoveEntry) (s : State) : State :=
  s |> closeEntry e.consumer (unreported e s.freshQuery)
    |> noticeMoveFailed e .deadline reasonNoReport none
    |> handOverEnd e

/-- Whether an entry reaches its report deadline at a cycle number (R123). -/
def MoveEntry.reportDue (e : MoveEntry) (now : Word16) : Bool :=
  e.deadline == now && match e.stage with
    | .queued _ => false
    | .sent | .accepted | .unconfirmed => true

/-- Whether an entry reaches its reply deadline at a cycle number (R119). -/
def MoveEntry.replyDue (e : MoveEntry) (now : Word16) : Bool := e.execute == now && e.stage == .sent

/-- What one entry does at a cycle end, by its stage (R114, R119, R123). -/
def entryAtCycleEnd (s : State) (e : MoveEntry) : State :=
  if e.waits && tooNear e.execute s.now then withdraw reasonWithdrawn e s
  else if e.reportDue s.now then endUnreported e s
  else if e.replyDue s.now then setStage e.consumer .unconfirmed s
  else s

/-- The Move Schedule at a cycle end: the entries in schedule order (R114, R119, R123, R129). -/
def scheduleAtCycleEnd (s : State) : State := s.scheduler.schedule.foldl entryAtCycleEnd s

/-- A latest execute cycle that is not ahead of now becomes absent (R107). -/
def expireLatest (s : State) : State :=
  match s.scheduler.latestExecute with
  | some x => if ahead x s.now then s else { s with scheduler.latestExecute := none }
  | none => s

/-! ### Rescue draws -/

/-- Whether a record of the rescue list is SETTLED, so that a draw may take it (R150). -/
def State.isSettled (s : State) (i : Nat) : Bool :=
  match s.record i with
  | some r => r.state == .settled
  | none => false

/-- The first list entry a draw would take (R150). -/
def State.nextDraw (s : State) : Option Nat := s.rescue.list.find? s.isSettled

/-- Whether the schedule, the reach, the timebase and the policy let a draw be made (R150). -/
def State.drawsAllowed (s : State) : Bool :=
  s.rescueEnabled && s.scheduler.schedule.length < Config.scheduleRoom && s.withinReach .rescue && s.synced

/-- The candidate targets of a draw: the HEALTHY phases of the allowed set (R151); the record's own phase
is LOST and so is not among them. -/
def State.drawTargets (s : State) (r : Consumer) : List Phase :=
  Phase.all.filter fun q => r.allowed.get q && s.healthy q && q != r.assigned

/-- The phase of lowest load among some phases, the lower phase where they share it. -/
def lowestPhase (load : Phase → Int) : List Phase → Option Phase
  | [] => none
  | q :: rest =>
    match lowestPhase load rest with
    | some best => if load best < load q then some best else some q
    | none => some q

/-- The target of a draw (R151): the candidate of lowest sum in the record's segment, or the lowest
candidate phase when the segment is not valid in the active table. -/
def State.drawTarget (s : State) (r : Consumer) : Option Phase :=
  if (segmentAt s.tables.active r.segment).valid then
    lowestPhase (sumAt s.balancer.sums r.segment) (s.drawTargets r)
  else (s.drawTargets r).head?

/-- A draw raises the record's rescue attempts by 1 (R151). A listed record may have dropped its attempts,
when its rescue phase recovered while it stands on another LOST phase (R155): what the raise makes of absent
attempts is not stated, and they become 1, with the assigned phase as rescue phase. DESIGN CHOICE (log 21). -/
def raiseAttempts (p : Phase) : Option RescueMark → Option RescueMark
  | some m => some { m with attempts := m.attempts + 1 }
  | none => some ⟨1, p⟩

/-- A draw of the record at an index (R151). -/
def draw (i : Nat) (s : State) : State :=
  match s.record i with
  | none => unlist i s
  | some r =>
    match s.drawTarget r with
    | none => closeTest (countUnrescuable (unlist i s))
    | some q =>
      (unlist i s).modifyRecord i (fun r => { r with rescue := raiseAttempts r.assigned r.rescue })
        |> makeEntry .rescue i q

/-- The draws that an event made due, one after another until a condition fails (R150); each takes an
entry off the list. -/
def drawUpTo : Nat → State → State
  | 0, s => s
  | fuel + 1, s =>
    if s.drawsAllowed then
      match s.nextDraw with
      | some i => drawUpTo fuel (draw i s)
      | none => s
    else s

/-- The draws that follow an event (R150). -/
def draws (s : State) : State := drawUpTo s.rescue.list.length s

end Sys2Proof.Machine
end

