-- ==== Sys2Proof/Machine/Queries.lean ====
section
/-!
DEFINITION. Phase queries and verification (chapter 7): the query queue and its fill, deadlines and
tries, settlements and faults.
-/

namespace Sys2Proof.Machine

/-- Whether a record's query stage is WAITING (R130). -/
def RecordState.waiting (st : RecordState) : Bool := st.query.any fun q => q.stage == .waiting

/-- A record takes another query stage. -/
def setQueryStage (stage : QueryStage) (r : Consumer) : Consumer :=
  match r.state.query with
  | some q => { r with state := r.state.withQuery { q with stage := stage } }
  | none => r

/-- One step of the fill: a WAITING record is appended to the query queue (R132). -/
def enqueueQuery (s : State) (i : Nat) : State :=
  ({ s with scheduler.queries := s.scheduler.queries ++ [QueryEntry.mk i false] }).modifyRecord i (setQueryStage .queued)

/-- The fill of the query queue: WAITING records of lowest index until it holds 8 entries (R132). -/
def fill (s : State) : State :=
  ((s.indicesWhere fun _ r => r.state.waiting).take (Config.queryRoom - s.scheduler.queries.length)).foldl
    enqueueQuery s

/-- A record goes SILENT: its query stage is dropped, it leaves the query queue, and its contribution is
removed (R39, R137). -/
def goSilent (i : Nat) (s : State) : State :=
  s |> changeRecord i (fun r => { r with state := .silent }) |> leaveQueue i

/-- The CONSUMER SILENT notice (R39, R137). -/
def noticeSilent (i : Nat) (cause : Byte) (s : State) : State :=
  raiseNotice .consumerSilent [byte i, s.addressOf i, cause] s

/-- A record becomes SILENT by its queries: the notice, then the Rescue Unit is told (R137, R154). -/
def silentByQueries (i : Nat) (s : State) : State :=
  noteOutOfService i (noticeSilent i causeQueries (goSilent i s))

/-- A record becomes SILENT at its fold: the notice and what the Rescue Unit does, its RESCUE DONE notice
among it, in the order chosen (R39, R154, R179; log 3). -/
def silentAtFold (i : Nat) (s : State) : State :=
  let s := goSilent i s
  dropChoice <|
    if s.choice.noticeFirst then noteOutOfService i (noticeSilent i causeWindows s)
    else noticeSilent i causeWindows (noteOutOfService i s)

/-- One cycle end of a record in ASKED: its cycle ends left are lowered by 1 (R136). -/
def lowerDeadline (r : Consumer) : Consumer :=
  match r.state.query with
  | some ⟨.asked tag left, tries⟩ => { r with state := r.state.withQuery ⟨.asked tag (left - 1), tries⟩ }
  | _ => r

/-- Whether a record in ASKED has no cycle ends left (R136). -/
def RecordState.queryDue (st : RecordState) : Bool :=
  st.query.any fun q => match q.stage with
    | .asked _ left => left == 0
    | _ => false

/-- A query deadline: the tag is dropped and a try is spent; with none left the record becomes SILENT
(R136, R137). -/
def spendTry (s : State) (i : Nat) : State :=
  match (s.record i).bind fun r => r.state.query with
  | some q =>
    if q.tries ≤ 1 then
      s |>.modifyRecord i (fun r => { r with state := r.state.withQuery ⟨.waiting, 0⟩ }) |> silentByQueries i
    else s.modifyRecord i fun r => { r with state := r.state.withQuery ⟨.waiting, q.tries - 1⟩ }
  | none => s

/-- The query deadlines that have come, in ascending index (R136). -/
def queryDeadlines (s : State) : State :=
  (s.indicesWhere fun _ r => r.state.queryDue).foldl spendTry s

/-- The query deadlines at a cycle end: each ASKED record's count is lowered, and those at 0 are due (R136). -/
def queriesAtCycleEnd (s : State) : State :=
  queryDeadlines { s with tables.consumers := s.tables.consumers.map fun r => r.map lowerDeadline }

/-- The open bank of a record changed (R27). -/
def changeOpenBank (secondOpen : Bool) (f : Bank → Bank) (r : Consumer) : Consumer :=
  if secondOpen then { r with secondBank := f r.secondBank } else { r with firstBank := f r.firstBank }

/-- The record settled on a phase by an answer or a late report, the phase added to its allowed set when
it is not in it (R139, R124, R13). -/
def settleOn (p : Phase) (r : Consumer) : Consumer :=
  { r with state := .settled, assigned := p, allowed := r.allowed.set p true }

/-- A taken PHASE ANSWER that names a phase (R139). -/
def settleByAnswer (i : Nat) (p : Phase) (s : State) : State :=
  s |> changeRecord i (settleOn p) |> leaveQueue i
    |>.modifyRecord i (changeOpenBank s.intake.secondOpen fun b => { b with heard := true })
    |> noteSettlement i

/-- A taken PHASE ANSWER or late report whose phase now is none (R140, R124). The open bank is not marked heard:
R27 names every taken PHASE ANSWER but refers to R139 alone, and R140 lists no mark. DESIGN CHOICE (log 25). -/
def faultByFrame (i : Nat) (reason : FaultReason) (tag : Byte) (s : State) : State :=
  s |> changeRecord i (fun r => { r with state := .faulted reason }) |> leaveQueue i
    |> noticeConsumerFault i reason tag
    |> noteOutOfService i

/-- A late TRANSFER REPORT that names a phase (R124). -/
def settleByLateReport (i : Nat) (p : Phase) (s : State) : State :=
  s |> changeRecord i (settleOn p) |> leaveQueue i |> noteSettlement i

/-- What a frame addressed to the Order Scheduler that is not taken does: it is counted stale (R116). -/
def staleFrame (s : State) : State := countStaleFrame s

/-- A PHASE ANSWER as the Order Scheduler matches it (R138). A payload of another length than 2 is an
undefined field (R166). -/
def takePhaseAnswer (src tag : Byte) (payload : List Byte) (s : State) : State :=
  match s.mapped src, payload with
  | some i, [phaseNow, supply] =>
    if phaseNow.toNat > 3 || supply.toNat > 1 then staleFrame s
    else
      match (s.record i).bind fun r => r.state.query with
      | some ⟨.asked queryTag _, _⟩ =>
        if queryTag = tag then
          match phaseOfCode phaseNow with
          | some p => settleByAnswer i p s
          | none => faultByFrame i .openContact tag s
        else staleFrame s
      | _ => staleFrame s
  | _, _ => staleFrame s

/-- The entry that a frame from a consumer's unit matches: it names the record and has the frame's tag (R116). -/
def State.matchedEntry (s : State) (i : Nat) (tag : Byte) : Option MoveEntry :=
  s.scheduler.schedule.find? fun e => e.consumer == i && e.tag == tag

/-- Whether an entry takes answers: SENT or UNCONFIRMED (R117). -/
def Stage.takesAnswer : Stage → Bool
  | .sent | .unconfirmed => true
  | .queued _ | .accepted => false

/-- Whether an entry takes reports: SENT, ACCEPTED or UNCONFIRMED (R120). -/
def Stage.takesReport : Stage → Bool
  | .sent | .unconfirmed | .accepted => true
  | .queued _ => false

/-- An ACCEPT taken by an entry (R117). -/
def acceptEntry (i : Nat) (s : State) : State :=
  (setStage i .accepted s).modifyRecord i fun r => { r with state := .accepted }

/-- A TRANSFER ANSWER as the Order Scheduler matches it (R116, R117). -/
def takeTransferAnswer (src tag : Byte) (payload : List Byte) (s : State) : State :=
  match s.mapped src, payload with
  | some i, [verdict, reason] =>
    match s.matchedEntry i tag with
    | some e =>
      if !e.stage.takesAnswer then staleFrame s
      else if verdict = 1 then acceptEntry i s
      else if verdict = 2 && (1 ≤ reason.toNat && reason.toNat ≤ 4) then refuseEntry reason e s
      else staleFrame s
    | none => staleFrame s
  | _, _ => staleFrame s

/-- Whether the fields of a TRANSFER REPORT that are read hold defined values (R116, R165). -/
def reportDefined (outcome reason phaseNow : Byte) : Bool :=
  phaseNow.toNat ≤ 3 && (outcome == 1 || (outcome == 2 && (1 ≤ reason.toNat && reason.toNat ≤ 4)))

/-- The MOVE FAILED reason of a report that left its record elsewhere than the target (R122). -/
def reportReason (outcome reason : Byte) : Byte := if outcome = 2 then abortReason reason else reasonWrongPhase

/-- A report that matches no entry: a late report of a QUERYING record with its last move tag, or stale (R124). -/
def takeLateReport (i : Nat) (tag phaseNow : Byte) (s : State) : State :=
  match s.record i with
  | some r =>
    match r.state with
    | .querying _ =>
      if r.lastTag = some tag then
        match phaseOfCode phaseNow with
        | some p => settleByLateReport i p s
        | none => faultByFrame i .contactFault tag s
      else staleFrame s
    | _ => staleFrame s
  | none => staleFrame s

/-- A TRANSFER REPORT as the Order Scheduler matches it (R116, R120 to R124). -/
def takeTransferReport (src tag : Byte) (payload : List Byte) (s : State) : State :=
  match s.mapped src, payload with
  | some i, [outcome, reason, phaseNow] =>
    if !reportDefined outcome reason phaseNow then staleFrame s
    else
      match s.matchedEntry i tag with
      | some e =>
        if !e.stage.takesReport then staleFrame s
        else
          match phaseOfCode phaseNow with
          | some p => reportSettled e p outcome (reportReason outcome reason) s
          | none => reportFaulted e s
      | none => takeLateReport i tag phaseNow s
  | _, _ => staleFrame s

/-- The end of an order's transmission (R113): the entry in transmission becomes SENT, or UNCONFIRMED
when its execute cycle is no longer ahead, and its record's last move tag is the entry's. -/
def orderSent (s : State) : State :=
  match s.scheduler.schedule.find? fun e => e.stage == .queued true with
  | some e =>
    (setStage e.consumer (if ahead e.execute s.now then .sent else .unconfirmed) s).modifyRecord e.consumer
      fun r => { r with lastTag := some e.tag }
  | none => s

/-- The end of a query's transmission, with the tag its frame carried (R135). -/
def querySent (tag : Byte) (s : State) : State :=
  match s.scheduler.queries with
  | e :: rest =>
    if e.inTransmission then
      ({ s with scheduler.queries := rest }).modifyRecord e.consumer
        (setQueryStage (.asked tag s.management.active.queryInterval))
    else s
  | [] => s

end Sys2Proof.Machine
end

