-- ==== Sys2Proof/Machine/Ports.lean ====
section
/-!
DEFINITION. The transmit arbiters and the forward queues (R171 to R176), the frames the part builds
(R61, R112, R134), and how an event ends: the draws, the fill and the grants that it made due.
-/

namespace Sys2Proof.Machine

/-! ### Forward queues -/

/-- A frame enters the downstream forward queue, or is dropped at its tail (R171). -/
def forwardDown (f : Frame) (s : State) : State :=
  if s.ports.down.forward.length < Config.downForwardRoom then
    { s with ports.down.forward := s.ports.down.forward ++ [f] }
  else countDownDrop s

/-- A frame enters the upstream forward queue, or is dropped at its tail (R171). -/
def forwardUp (f : Frame) (s : State) : State :=
  if s.ports.up.forward.length < Config.upForwardRoom then
    { s with ports.up.forward := s.ports.up.forward ++ [f] }
  else countUpDrop s

/-! ### Frames built at a grant -/

/-- The CYCLE MARK as its transmission starts (R61). -/
def State.cycleMark (s : State) : Frame :=
  goodFrame broadcastAddress s.ownAddress kindCycleMark 0
    (be2 s.now.toNat ++ be2 s.timebase.tickCounter ++ [flagByte s.synced])

/-- The TRANSFER ORDER of an entry (R112). -/
def State.transferOrder (s : State) (e : MoveEntry) : Frame :=
  goodFrame (s.addressOf e.consumer) s.ownAddress kindTransferOrder e.tag
    (phaseCode e.target :: be2 e.execute.toNat ++ [byte s.management.active.transferGap])

/-- The PHASE QUERY to a record's unit, with its tag (R134). -/
def State.phaseQuery (s : State) (i : Nat) (tag : Byte) : Frame :=
  goodFrame (s.addressOf i) s.ownAddress kindPhaseQuery tag []

/-! ### Grants -/

/-- The burst count after a grant to a source above the forward queue (R174). -/
def burstAfter (burst : Nat) (forward : List Frame) : Nat := if forward.isEmpty then 0 else raise 16 burst

/-- Whether the burst count forces the forward queue (R174). -/
def State.burstFull (s : State) (p : PortState) : Bool :=
  2 ^ s.management.active.burstLimit ≤ p.burst && !p.forward.isEmpty

/-- The downstream transmitter starts the frame of a source that counts for the burst limit (R173, R174). -/
def startDown (source : Source) (f : Frame) (s : State) : State :=
  { s with
    ports.down.transmitter := .busy source f
    ports.down.burst := burstAfter s.ports.down.burst s.ports.down.forward }

/-- A grant to the CYCLE MARK: mark waiting becomes no, the burst count stays (R60, R174). -/
def grantMark (s : State) : State :=
  { s with
    ports.down.transmitter := .busy .mark s.cycleMark
    timebase.markWaiting := false }

/-- A grant to the downstream forward queue, or IDLE when it is empty (R171, R174). -/
def grantForwardDown (s : State) : State :=
  match s.ports.down.forward with
  | f :: rest =>
    { s with ports.down := { s.ports.down with transmitter := .busy .forward f, burst := 0, forward := rest } }
  | [] => s

/-- The head of the query queue whose mark is no: the query source is waiting (R134). -/
def State.queryHead (s : State) : Option QueryEntry :=
  match s.scheduler.queries with
  | e :: _ => if e.inTransmission then none else some e
  | [] => none

/-- A grant to the query source: the head is marked and given a tag, and its PHASE QUERY starts (R134). -/
def grantQuery (e : QueryEntry) (s : State) : State :=
  let tag := s.scheduler.tagCounter
  startDown .query (s.phaseQuery e.consumer tag)
    { s with
      scheduler.tagCounter := nextTag tag
      scheduler.queries := QueryEntry.mk e.consumer true :: s.scheduler.queries.tail }

/-- The grant below the order source: the query source, else the forward queue (R173). -/
def grantBelowOrder (s : State) : State :=
  match s.queryHead with
  | some e => grantQuery e s
  | none => grantForwardDown s

/-- The earliest QUEUED entry not in transmission (R102). -/
def State.earliestWaiting (s : State) : Option MoveEntry := s.scheduler.schedule.find? MoveEntry.waits

/-- Whether the order source is waiting (R110). -/
def State.orderWaiting (s : State) : Bool := s.synced && s.earliestWaiting.isSome

/-- A grant to the order source: entries too near are withdrawn, then the order of the earliest that
remains starts; with none left the grant passes on (R111, R175). -/
def grantOrder (s : State) : State :=
  let s := withdrawTooNear s
  match s.earliestWaiting with
  | some e => startDown .order (s.transferOrder e) (setStage e.consumer (.queued true) s)
  | none => grantBelowOrder s

/-- The downstream arbiter's choice among its waiting sources (R174). -/
def chooseDown (s : State) : State :=
  if s.timebase.markWaiting then grantMark s
  else if s.burstFull s.ports.down then grantForwardDown s
  else if s.orderWaiting then grantOrder s
  else grantBelowOrder s

/-- A grant on the downstream port, when its transmitter is IDLE (R173). -/
def grantDown (s : State) : State :=
  match s.ports.down.transmitter with
  | .idle => chooseDown s
  | .busy _ _ => s

/-- The upstream transmitter starts a frame of a source that counts for the burst limit (R173, R174). -/
def startUp (source : Source) (f : Frame) (s : State) : State :=
  { s with
    ports.up.transmitter := .busy source f
    ports.up.burst := burstAfter s.ports.up.burst s.ports.up.forward }

/-- A grant to the upstream forward queue, or IDLE when it is empty (R171, R174). -/
def grantForwardUp (s : State) : State :=
  match s.ports.up.forward with
  | f :: rest =>
    { s with ports.up := { s.ports.up with transmitter := .busy .forward f, burst := 0, forward := rest } }
  | [] => s

/-- A grant to the notice queue, or to the forward queue when it is empty (R173, R179). -/
def grantNotice (s : State) : State :=
  match s.ports.notices with
  | n :: rest => startUp .notice (noticeFrame s.ownAddress n) { s with ports.notices := rest }
  | [] => grantForwardUp s

/-- The upstream arbiter's choice among its waiting sources (R174). -/
def chooseUp (s : State) : State :=
  if s.burstFull s.ports.up then grantForwardUp s
  else
    match s.ports.responses with
    | f :: rest => startUp .response f { s with ports.responses := rest }
    | [] => grantNotice s

/-- A grant on the upstream port, when its transmitter is IDLE (R173). -/
def grantUp (s : State) : State :=
  match s.ports.up.transmitter with
  | .idle => chooseUp s
  | .busy _ _ => s

/-! ### The end of an event -/

/-- What follows the body of every event (log 7): the draws it made due (R150), the fill (R132), the
downstream grant (R173), then, since an order grant can withdraw entries and so make draws due (R111,
R153), the draws and the downstream grant once more, and the upstream grant. -/
def finish (s : State) : State := s |> draws |> fill |> grantDown |> draws |> grantDown |> grantUp

/-- The downstream transmission ends: the transmitter is IDLE until the next grant (R173). -/
def endDown (s : State) : State := { s with ports.down.transmitter := .idle }

/-- The upstream transmission ends. -/
def endUp (s : State) : State := { s with ports.up.transmitter := .idle }

/-- The source whose frame a transmitter is sending. -/
def Transmitter.source : Transmitter → Option Source
  | .idle => none
  | .busy source _ => some source

/-- The event of a command: nothing happens while the part is held in reset, since every block is
stopped (R201; log 4). -/
def whileRunning (event : State → State) (s : State) : State :=
  match s.hold with
  | none => event s
  | some _ => s

end Sys2Proof.Machine
end

