-- ==== Sys2Proof/Machine/Supervision.lean ====
section
/-!
DEFINITION. Phase Supervision (chapter 4): the filter, crossing presence, the condition machine, and
what a change of condition reaches.
-/

namespace Sys2Proof.Machine

/-- What Phase Supervision keeps of a phase. -/
def State.watch (s : State) (p : Phase) : PhaseWatch := s.supervision.phases.get p

/-- A change of what it keeps of one phase. -/
def State.setWatch (s : State) (p : Phase) (w : PhaseWatch) : State :=
  { s with supervision.phases := s.supervision.phases.set p w }

/-- Whether the sag notice edge queues a notice for entries to SAG (R74). -/
def SagNoticeEdge.onEntry : SagNoticeEdge → Bool
  | .entry | .both => true
  | .none | .exit => false

/-- Whether the sag notice edge queues a notice for exits from SAG (R74). -/
def SagNoticeEdge.onExit : SagNoticeEdge → Bool
  | .exit | .both => true
  | .none | .entry => false

/-- The PHASE CONDITION notice of a change, by the change, the sag notice edge and the mask (R74, R178). -/
def noticeCondition (p : Phase) (left entered : Condition) (cause : ConditionCause) (s : State) : State :=
  let fields := [phaseCode p, left.code, entered.code, cause.code]
  match left, entered with
  | _, .lost => queueNotice .phaseCondition fields s
  | .recovering _, .healthy => queueNotice .phaseCondition fields s
  | .healthy, .sag _ => if s.management.active.noticeEdge.onEntry then raiseNotice .phaseCondition fields s else s
  | .sag _, .healthy => if s.management.active.noticeEdge.onExit then raiseNotice .phaseCondition fields s else s
  | .lost, .recovering _ => raiseNotice .phaseCondition fields s
  | _, _ => s

/-- What a change of condition does in the Rescue Unit (R72, R73, R155). -/
def rescueOnCondition (p : Phase) (left entered : Condition) (s : State) : State :=
  match left, entered with
  | .healthy, .lost => rescueTrigger p s
  | .sag _, .lost => rescueTrigger p s
  | .lost, .recovering _ => rescueRecovery p s
  | _, _ => s

/-- A phase changes condition (R70): the notice and the Rescue Unit's part in the order chosen (log 3). -/
def changeCondition (p : Phase) (entered : Condition) (cause : ConditionCause) (s : State) : State :=
  let left := (s.watch p).condition
  let s := s.setWatch p { s.watch p with condition := entered }
  if s.choice.noticeFirst then rescueOnCondition p left entered (noticeCondition p left entered cause s)
  else noticeCondition p left entered cause (rescueOnCondition p left entered s)

/-! ### The filter (R66, R67) -/

/-- The condition machine on a change of the filtered sag level (R70). -/
def onFilteredLevel (p : Phase) (s : State) : State :=
  let w := s.watch p
  match w.condition, w.sagActive with
  | .healthy, true => changeCondition p (.sag 0) .sagActive s
  | .recovering _, true => changeCondition p .lost .sagReturned s
  | .sag _, false => changeCondition p .healthy .sagCleared s
  | .lost, false => if w.present then changeCondition p (.recovering 0) .conditionsMet s else s
  | _, _ => s

/-- The filtered sag level changes when the filter run is at or above V (R67). -/
def filteredLevelChange (p : Phase) (s : State) : State :=
  let w := s.watch p
  if s.management.active.sagFilter ≤ w.filterRun then
    onFilteredLevel p (s.setWatch p { w with sagActive := !w.sagActive, filterRun := 0 })
  else s

/-- One sample of a phase's sag line through its filter (R67). -/
def samplePhase (level : Bool) (p : Phase) (s : State) : State :=
  let w := s.watch p
  if level = w.sagActive then s.setWatch p { w with filterRun := 0 }
  else filteredLevelChange p (s.setWatch p { w with filterRun := w.filterRun + 1 })

/-- The three sag lines sampled together at their present levels (R66); the phases in turn (log 12). -/
def sampleAll (s : State) : State := Phase.all.foldl (fun s p => samplePhase (s.supervision.sagLines.get p) p s) s

/-! ### Crossing presence and the cycle end (R68, R70, R71) -/

/-- A phase whose runs are at 3 changes its crossing presence (R68). -/
def PhaseWatch.withPresence (w : PhaseWatch) : PhaseWatch :=
  if w.present && w.absenceRun == 3 then { w with present := false }
  else if !w.present && w.presenceRun == 3 then { w with present := true }
  else w

/-- The runs of a phase at a cycle end, edge seen then set to no (R68). -/
def PhaseWatch.withRuns (w : PhaseWatch) : PhaseWatch :=
  if w.edgeSeen then { w with absenceRun := 0, presenceRun := raise 3 w.presenceRun, edgeSeen := false }
  else { w with absenceRun := raise 3 w.absenceRun, presenceRun := 0, edgeSeen := false }

/-- The condition machine on crossing presence: an absent phase is LOST, and a LOST one for which both
conditions hold is RECOVERING (R70). -/
def onPresence (p : Phase) (s : State) : State :=
  let w := s.watch p
  match w.condition with
  | .lost => if w.present && !w.sagActive then changeCondition p (.recovering 0) .conditionsMet s else s
  | .healthy | .sag _ | .recovering _ => if w.present then s else changeCondition p .lost .crossingsAbsent s

/-- A phase in SAG whose delay count is at or above the sag-to-lost delay enters LOST (R71). -/
def sagDelayReached (p : Phase) (s : State) : State :=
  match (s.watch p).condition with
  | .sag delay => if s.management.active.sagDelay ≤ delay then changeCondition p .lost .sagDelay s else s
  | .healthy | .lost | .recovering _ => s

/-- A phase in RECOVERING whose hold count is at or above the recovery hold, with both conditions
holding, enters HEALTHY (R71). -/
def holdReached (p : Phase) (s : State) : State :=
  let w := s.watch p
  match w.condition with
  | .recovering hold =>
    if s.management.active.recoveryHold ≤ hold && w.present && !w.sagActive then
      changeCondition p .healthy .holdComplete s
    else s
  | .healthy | .lost | .sag _ => s

/-- Whether a phase is RECOVERING. -/
def PhaseWatch.recovers (w : PhaseWatch) : Bool :=
  match w.condition with
  | .recovering _ => true
  | .healthy | .sag _ | .lost => false

/-- The condition machine at a cycle end, after the presence update (R70, R71). `began` is what was kept of the
phases when the cycle end came: a phase that a sample of this cycle end has taken into RECOVERING has the first
raise of its hold count at the next one (R70). -/
def conditionAtCycleEnd (began : PerPhase PhaseWatch) (p : Phase) (s : State) : State :=
  let w := s.watch p
  if w.present then
    match w.condition with
    | .healthy => s
    | .sag delay => sagDelayReached p (s.setWatch p { w with condition := .sag (delay + 1) })
    | .lost => onPresence p s
    | .recovering hold =>
      if w.sagActive || !(began.get p).recovers then s
      else holdReached p (s.setWatch p { w with condition := .recovering (hold + 1) })
  else onPresence p s

/-- The presence update of one phase (R68). -/
def presenceUpdate (s : State) (p : Phase) : State := s.setWatch p (s.watch p).withRuns.withPresence

/-- The presence updates of the three phases (R68). -/
def presenceUpdates (s : State) : State := Phase.all.foldl presenceUpdate s

/-- The condition machines of the three phases act on the cycle end, in turn (R70; log 12). -/
def conditionsAtCycleEnd (began : PerPhase PhaseWatch) (s : State) : State :=
  Phase.all.foldl (fun s p => conditionAtCycleEnd began p s) s

/-- SLA and SLB driven from the sag level of the active policy (R65). -/
def driveSelectLines (s : State) : State :=
  { s with
    supervision.sla := s.management.active.sagLevel == 1 || s.management.active.sagLevel == 3
    supervision.slb := s.management.active.sagLevel == 2 || s.management.active.sagLevel == 3 }

/-- An edge on a zero-crossing line sets edge seen for its phase (R68). -/
def markEdge (p : Phase) (s : State) : State := s.setWatch p { s.watch p with edgeSeen := true }

/-! ### The commands -/

/-- FILTERED_SAG_LEVEL_CHANGE (R67, R70): acts when the filter run is at V (log 2). -/
def execFilteredSagLevelChange (p : Phase) (s : State) : Host.Outcome State Fault Refusal :=
  .next (whileRunning (fun s => finish (dropChoice (filteredLevelChange p s))) s)

/-- CROSSING_PRESENCE_CHANGE (R68, R70): acts when a run is at 3 (log 2). -/
def presenceChange (p : Phase) (s : State) : State :=
  let w := s.watch p
  if w.withPresence = w then s else onPresence p (s.setWatch p w.withPresence)

/-- CROSSING_PRESENCE_CHANGE (R68). -/
def execCrossingPresenceChange (p : Phase) (s : State) : Host.Outcome State Fault Refusal :=
  .next (whileRunning (fun s => finish (dropChoice (presenceChange p s))) s)

/-- SAG_DELAY (R71): acts when the delay count is at the sag-to-lost delay (log 2). -/
def execSagDelay (p : Phase) (s : State) : Host.Outcome State Fault Refusal :=
  .next (whileRunning (fun s => finish (dropChoice (sagDelayReached p s))) s)

/-- HOLD_COMPLETE (R71): acts when the hold count is at the recovery hold (log 2). -/
def execHoldComplete (p : Phase) (s : State) : Host.Outcome State Fault Refusal :=
  .next (whileRunning (fun s => finish (dropChoice (holdReached p s))) s)

end Sys2Proof.Machine
end

