-- ==== Sys2Proof/Machine/Balancer.lean ====
section
/-!
DEFINITION. The Balancer (chapter 5): adoption, pass triggers, the searches of a pass and its completion.
-/

namespace Sys2Proof.Machine

/-! ### Adoption (R6, R81) -/

/-- Both shadows become active, and the pending marks are cleared (R81, steps 1 and 2). -/
def takeShadows (s : State) : State :=
  { s with
    tables.active := s.tables.shadow
    tables.marks := List.replicate Config.segments false
    management.active := s.management.shadow
    management.policyPending := false }

/-- An adoption (R81): the shadows become active, the Sum Table is rebuilt when the tree changed, the
select lines follow the policy (R65), and a rescue enable that went off ends the rescue (R149). -/
def adopt (s : State) : State :=
  let t := driveSelectLines (takeShadows s)
  let t := if s.tables.shadow = s.tables.active then t else rebuild t
  if s.rescueEnabled && !t.rescueEnabled then rescueDisabled t else t

/-- The adoption that follows an accepted write while STOPPED (R83), with a remaining count above the new
N set to it (R41). -/
def adoptWhileStopped (s : State) : State :=
  let s := adopt s
  { s with balancer.remaining := min s.balancer.remaining s.management.active.passDivider }

/-- Whether the balancer is STOPPED. -/
def State.stopped (s : State) : Bool := s.balancer.state == .stopped

/-- What follows an accepted WRITE SEGMENT or WRITE POLICY: an adoption while STOPPED (R83). -/
def afterTableWrite (s : State) : State := if s.stopped then adoptWhileStopped s else s

/-! ### Pass start (R86 to R90) -/

/-- Whether a record's dwell is satisfied at a cycle count (R89). -/
def dwellSatisfied (lastMove : Option Word32) (now : Word32) (dwell : Nat) : Bool :=
  match lastMove with
  | none => true
  | some last => dwell * 64 ≤ (now - last).toNat

/-- The candidate targets of a candidate consumer (R90). -/
def State.candidateTargets (s : State) (r : Consumer) : PhaseSet :=
  let ok (q : Phase) : Bool := q != r.assigned && r.allowed.get q && s.healthy q
  ⟨ok .l1, ok .l2, ok .l3⟩

/-- Whether a record is a candidate consumer under a latched policy (R89). -/
def State.isCandidate (s : State) (p : LatchedPolicy) (r : Consumer) : Bool :=
  r.state == .settled && !r.lock && (segmentAt s.tables.active r.segment).valid
    && p.minimumLoad ≤ r.stable.natAbs && r.moveCount < p.budget
    && dwellSatisfied r.lastMove s.timebase.cycleCount p.dwell

/-- The candidate list, by ascending index (R87). -/
def State.candidates (s : State) (p : LatchedPolicy) : List Candidate :=
  s.tables.consumers.zipIdx.filterMap fun ri =>
    match ri.1 with
    | some r =>
      if s.isCandidate p r then some ⟨ri.2, r.segment, r.assigned, r.stable, s.candidateTargets r⟩ else none
    | none => none

/-- The policy a pass latches (R87). -/
def latch (p : Policy) : LatchedPolicy := ⟨p.threshold, p.movesPerPass, p.minimumLoad, p.budget, p.dwell⟩

/-- Every Fresh load copied into its Stable load (R86, step 1). -/
def copyFresh (s : State) : State :=
  { s with tables.consumers := s.tables.consumers.map fun r => r.map fun r => { r with stable := r.fresh } }

/-- The working copy taken from the live state (R87, R88). -/
def State.newPass (s : State) : Pass where
  sums := s.balancer.sums
  segments := s.tables.active
  policy := latch s.management.active
  candidates := s.candidates (latch s.management.active)
  results := []
  costBefore := cost s.tables.active s.balancer.sums
  searched := false

/-- A pass start (R86). -/
def startPass (s : State) : State :=
  let s := rebuild (copyFresh s)
  { s with balancer.state := .evaluating s.newPass }

/-! ### Pass trigger (R82) -/

/-- A pass trigger: the adoption, then what the balancer state asks for (R82). -/
def passTriggered (s : State) : State :=
  let s := adopt s
  match s.balancer.state with
  | .idle => if !s.rescueActive && s.synced then startPass s else countSuppressed s
  | .evaluating _ => countOverrun s
  | .stopped | .held => s

/-- A pass trigger with the reload of the remaining count from the policy then active (R40, R82). -/
def passTrigger (s : State) : State :=
  let s := passTriggered s
  { s with balancer.remaining := s.management.active.passDivider }

/-! ### Searches (R91, R92) -/

/-- The sums of a segment after a trial (R91, step 1). -/
def trialSums (e : PerPhase Int) (load : Int) (a q : Phase) : PerPhase Int :=
  let e := e.set a (e.get a - load)
  e.set q (e.get q + load)

/-- Whether a trial overloads a phase of a segment (R91, step 2). -/
def overloads (limit : Nat) (working trial : PerPhase Int) (x : Phase) : Bool :=
  limit != Config.noLimit && limit < (trial.get x).natAbs && (working.get x).natAbs < (trial.get x).natAbs

/-- What one segment of the path gives to a trial: its weighted gain, or none when it excludes it (R91). -/
def segmentGain (pass : Pass) (c : Candidate) (q : Phase) (i : Nat) : Option Int :=
  let seg := segmentAt pass.segments i
  let e := (pass.sums[i]?).getD (PerPhase.const 0)
  let t := trialSums e c.load c.fromPhase q
  if overloads seg.limit e t c.fromPhase || overloads seg.limit e t q then none
  else some (seg.weight * (imbalance e - imbalance t))

/-- The gain of a trial, or none when some segment on its path excludes it (R91). -/
def trialGain (pass : Pass) (c : Candidate) (q : Phase) : Option Int :=
  (segmentPath pass.segments c.segment).foldl
    (fun g i => match g, segmentGain pass c q i with
      | some g, some d => some (g + d)
      | _, _ => none) (some 0)

/-- The trials of a search that are not excluded, with their gains: by ascending consumer index, then
L1, L2, L3 (R92). -/
def Pass.trials (pass : Pass) : List ChosenMove :=
  (pass.candidates.filter fun c => !(pass.results.any fun m => m.consumer == c.consumer)).flatMap fun c =>
    (Phase.all.filter fun q => c.targets.get q).filterMap fun q =>
      (trialGain pass c q).map fun g => ⟨c.consumer, c.fromPhase, q, c.segment, g⟩

/-- The first of the trials with the greatest gain (R92). -/
def bestTrial : List ChosenMove → Option ChosenMove
  | [] => none
  | m :: rest =>
    match bestTrial rest with
    | some best => if m.gain < best.gain then some best else some m
    | none => some m

/-- The load of a candidate of the pass. -/
def Pass.loadOf (pass : Pass) (i : Nat) : Int :=
  match pass.candidates.find? fun c => c.consumer == i with
  | some c => c.load
  | none => 0

/-- A chosen trial applied to the working sums and appended to the results (R92); the M-th chosen move
ends the searches. -/
def Pass.choose (pass : Pass) (m : ChosenMove) : Pass :=
  let path := segmentPath pass.segments m.segment
  let load := pass.loadOf m.consumer
  { pass with
    sums := addAlong path m.target load (addAlong path m.fromPhase (-load) pass.sums)
    results := pass.results ++ [m]
    searched := pass.policy.movesPerPass ≤ pass.results.length + 1 }

/-- One search (R92). A search that chooses nothing ends the searches. -/
def Pass.search (pass : Pass) : Pass :=
  match bestTrial pass.trials with
  | some m => if pass.policy.threshold ≤ m.gain then pass.choose m else { pass with searched := true }
  | none => { pass with searched := true }

/-! ### Completion (R94 to R97) -/

/-- Whether a chosen move is kept against the live state (R95). -/
def State.keepsMove (s : State) (m : ChosenMove) : Bool :=
  match s.record m.consumer with
  | some r =>
    r.state == .settled && !r.lock && r.assigned == m.fromPhase && r.segment == m.segment
      && r.allowed.get m.target && s.healthy m.target && r.moveCount < s.management.active.budget
      && dwellSatisfied r.lastMove s.timebase.cycleCount s.management.active.dwell
      && s.synced && s.scheduler.schedule.length < s.management.active.inFlightLimit
      && s.withinReach .balance
  | none => false

/-- The completion's state and the number of moves scheduled so far, after one more chosen move (R95). -/
def revalidate (sn : State × Nat) (m : ChosenMove) : State × Nat :=
  if sn.1.keepsMove m then (makeEntry .balance m.consumer m.target sn.1, sn.2 + 1)
  else (countStaleMove sn.1, sn.2)

/-- The gains of the chosen moves, added up (R97). -/
def totalGain (moves : List ChosenMove) : Int := (moves.map ChosenMove.gain).sum

/-- A pass completion (R94): revalidation in the order chosen, the PASS SUMMARY, and IDLE. -/
def completePass (pass : Pass) (s : State) : State :=
  let sn := pass.results.foldl revalidate (s, 0)
  let after := pass.costBefore - totalGain pass.results
  let s := raiseNotice .passSummary
    (signed4 pass.costBefore ++ signed4 after ++ [byte pass.results.length, byte sn.2]) sn.1
  { s with balancer.state := .idle }

/-! ### The commands -/

/-- The pass trigger of a remaining count of 0 (R40). -/
def triggerIfDue (s : State) : State := if s.balancer.remaining = 0 then passTrigger s else s

/-- PASS_TRIGGER (R82): acts when the remaining count is 0 (log 2). -/
def execPassTrigger (s : State) : Host.Outcome State Fault Refusal :=
  .next (whileRunning (fun s => finish (triggerIfDue s)) s)

/-- The next search of the pass in progress, if its searches have not ended (R92, R93). -/
def searchStep (s : State) : State :=
  match s.balancer.state with
  | .evaluating pass => if pass.searched then s else { s with balancer.state := .evaluating pass.search }
  | .stopped | .idle | .held => s

/-- SEARCH (R92). -/
def execSearch (s : State) : Host.Outcome State Fault Refusal :=
  .next (whileRunning (fun s => finish (searchStep s)) s)

/-- The completion of the pass in progress, once its last search has been made (R94). -/
def completionStep (s : State) : State :=
  match s.balancer.state with
  | .evaluating pass => if pass.searched then completePass pass s else s
  | .stopped | .idle | .held => s

/-- PASS_COMPLETION (R94). -/
def execPassCompletion (s : State) : Host.Outcome State Fault Refusal :=
  .next (whileRunning (fun s => finish (completionStep s)) s)

end Sys2Proof.Machine
end

