-- ==== Sys2Proof/Machine/Intake.lean ====
section
/-!
DEFINITION. Measurement Intake (chapter 2): readings, the forwarding divider, windows and the fold.
-/

namespace Sys2Proof.Machine

/-! ### Readings -/

/-- A bank after a reading (R30): heard; a sample added when the supply is present and there is room. -/
def Bank.takeReading (supply : Bool) (x : Int) (b : Bank) : Bank :=
  if supply && b.count < 255 then ⟨b.sum + x, b.count + 1, true⟩ else { b with heard := true }

/-- The return of a SILENT record to service (R29). -/
def returnToService (i : Nat) (s : State) : State :=
  let s := changeRecord i (fun r => { r with state := .unverified s.freshQuery, silence := 0 }) s
  insertByHandOver i (raiseNotice .consumerBack [byte i, s.addressOf i] s)

/-- Whether the record at an index is SILENT. -/
def State.isSilent (s : State) (i : Nat) : Bool :=
  match s.record i with
  | some r => r.state == .silent
  | none => false

/-- Whether the forwarding divider lets a reading continue upstream (R31). -/
def forwarded (divider count : Nat) : Bool := divider != 0 && count == 0

/-- The forward count after a reading (R31). -/
def nextForward (divider count : Nat) : Nat :=
  if divider = 0 then count else if count + 1 < divider then count + 1 else 0

/-- A LOAD READING from a managed consumer (R28 to R31, R170): the return to service, the sample, and the
frame forwarded as the divider decides. -/
def takeReading (i : Nat) (f : Frame) (reading : Word16) (supply : Bool) (s : State) : State :=
  let s := if s.isSilent i then returnToService i s else s
  let divider := s.management.active.divider
  let forward := (s.record i).any fun r => forwarded divider r.forward
  let s := s.modifyRecord i fun r =>
    { changeOpenBank s.intake.secondOpen (Bank.takeReading supply (clampLoad reading.toInt)) r with
      forward := nextForward divider r.forward }
  if forward then forwardUp f s else s

/-! ### Windows (R32 to R34) -/

/-- A window close (R33): the banks change roles, the counter restarts, a fold begins with the shift and
the silence limit latched. -/
def closeWindow (s : State) : State :=
  { s with
    intake :=
      { secondOpen := !s.intake.secondOpen
        windowCounter := 0
        fold := .folding 0 s.management.active.shift s.management.active.silenceLimit } }

/-- A close that is due takes place while the fold is IDLE (R32). -/
def closeIfDue (s : State) : State :=
  match s.intake.fold with
  | .idle => if s.management.active.window ≤ s.intake.windowCounter then closeWindow s else s
  | .folding _ _ _ => s

/-- Measurement Intake at a cycle end (R32). -/
def intakeAtCycleEnd (s : State) : State :=
  closeIfDue { s with intake.windowCounter := raise s.management.active.window s.intake.windowCounter }

/-! ### The fold (R35 to R40) -/

/-- The closed bank of a record (R27). -/
def closedBank (secondOpen : Bool) (r : Consumer) : Bank := if secondOpen then r.firstBank else r.secondBank

/-- The record with its closed bank zeroed (R27). -/
def zeroClosed (secondOpen : Bool) (r : Consumer) : Consumer :=
  if secondOpen then { r with firstBank := Bank.zeroed } else { r with secondBank := Bank.zeroed }

/-- A Fresh load pulled toward a window mean (R36, step 4). -/
def smooth (shift : Nat) (fresh mean : Int) : Int := fresh + (mean - fresh).tdiv (2 ^ shift)

/-- The record after the fold of its closed bank, before the silence test (R36, R37, R38). -/
def foldRecord (secondOpen : Bool) (shift : Nat) (r : Consumer) : Consumer :=
  let b := closedBank secondOpen r
  let r := zeroClosed secondOpen r
  if 0 < b.count then
    let mean := b.sum.tdiv b.count
    { r with silence := 0, fresh := if r.seeded then smooth shift r.fresh mean else mean, seeded := true }
  else if b.heard then { r with silence := 0 }
  else { r with silence := raise 255 r.silence }

/-- Whether the fold of a record makes it SILENT (R38): its closed bank was unheard, it is SETTLED or
UNVERIFIED, and its raised silence count is at or above the latched limit. -/
def foldSilences (secondOpen : Bool) (limit : Nat) (r : Consumer) : Bool :=
  let b := closedBank secondOpen r
  b.count == 0 && !b.heard && limit ≤ raise 255 r.silence && match r.state with
    | .settled | .unverified _ => true
    | _ => false

/-- The fold of the record at an index (R36 to R39); a VACANT one is passed without any action (R35). -/
def foldAt (shift limit i : Nat) (s : State) : State :=
  match s.record i with
  | some r =>
    let t := s.modifyRecord i (foldRecord s.intake.secondOpen shift)
    if foldSilences s.intake.secondOpen limit r then silentAtFold i t else t
  | none => s

/-- The completion of a fold (R40): IDLE, the remaining count lowered, the pass trigger when it reaches 0,
then a close that was postponed (R34). -/
def completeFold (s : State) : State :=
  let s := { s with intake.fold := .idle, balancer.remaining := s.balancer.remaining - 1 }
  closeIfDue (triggerIfDue s)

/-- One index of the fold (R35): the record there is folded or passed, the position advances, and past
index 239 the fold completes in the same event. -/
def foldStep (s : State) : State :=
  match s.intake.fold with
  | .folding i shift limit =>
    let s := foldAt shift limit i s
    if i + 1 < Config.consumers then { s with intake.fold := .folding (i + 1) shift limit } else completeFold s
  | .idle => s

/-! ### The commands -/

/-- WINDOW_CLOSE (R33): acts when the window counter is at W with the fold IDLE (log 2). -/
def execWindowClose (s : State) : Host.Outcome State Fault Refusal :=
  .next (whileRunning (fun s => finish (closeIfDue s)) s)

/-- FOLD_OF_RECORD (R35 to R40; log 15). -/
def execFoldOfRecord (s : State) : Host.Outcome State Fault Refusal :=
  .next (whileRunning (fun s => finish (foldStep s)) s)

/-- A fold whose position is past index 239 completes (R40). -/
def completeIfPast (s : State) : State :=
  match s.intake.fold with
  | .folding i _ _ => if Config.consumers ≤ i then completeFold s else s
  | .idle => s

/-- FOLD_COMPLETION (R40): acts when the fold position is past index 239 (log 2). -/
def execFoldCompletion (s : State) : Host.Outcome State Fault Refusal :=
  .next (whileRunning (fun s => finish (completeIfPast s)) s)

end Sys2Proof.Machine
end

