-- ==== Sys2Proof/Machine/Timebase.lean ====
section
/-!
DEFINITION. The Mains Timebase (chapter 3): crossings, cycle ends and what each block does at one,
failover, cycle marks, and the running of the tick counter.
-/

namespace Sys2Proof.Machine

/-- The early limit (R47). -/
def State.earlyLimit (s : State) : Nat := Config.earlyLimit s.straps.mains60
/-- The late limit (R47). -/
def State.lateLimit (s : State) : Nat := Config.lateLimit s.straps.mains60

/-! ### State changes, failover and their notice (R55, R57, R58) -/

/-- The TIMEBASE notice of an event, when the state or the reference is not what it was (R58). -/
def noticeTimebase (before : SyncState × Phase) (s : State) : State :=
  if before = (s.timebase.sync, s.timebase.reference) then s
  else raiseNotice .timebase [s.timebase.sync.code, phaseCode s.timebase.reference] s

/-- The timebase state and the reference phase. -/
def State.lockState (s : State) : SyncState × Phase := (s.timebase.sync, s.timebase.reference)

/-- An accepted crossing that raised the accepted run to 4 makes the state SYNCED (R55). -/
def syncAfterAccepted (s : State) : State :=
  if 4 ≤ s.timebase.acceptedRun then { s with timebase.sync := .synced } else s

/-- FLYWHEEL with the synthetic run at the flywheel limit becomes UNSYNCED, re-anchor pending (R55). -/
def unsyncAtLimit (s : State) : State :=
  if s.timebase.sync = .flywheel ∧ s.management.active.flywheelLimit ≤ s.timebase.syntheticRun then
    { s with timebase.sync := .unsynced, timebase.reanchorPending := true }
  else s

/-- The timebase state at a synthetic cycle end (R55). -/
def syncAfterSynthetic (s : State) : State :=
  match s.timebase.sync with
  | .synced => { s with timebase.sync := .flywheel }
  | .flywheel => unsyncAtLimit s
  | .unsynced => s

/-- The phase a failover chooses: the first of the two after the reference that is not LOST (R57). -/
def State.failoverPhase (s : State) : Phase :=
  let p := s.timebase.reference.next
  if !s.isLost p then p else if !s.isLost p.next then p.next else s.timebase.reference

/-- A failover, once the reference run is 2 (R57). -/
def failoverIfDue (s : State) : State :=
  if 2 ≤ s.timebase.referenceRun then
    let p := s.failoverPhase
    { s with
      timebase :=
        { s.timebase with
          reference := p
          referenceRun := 0
          reanchorPending := s.timebase.reanchorPending || p != s.timebase.reference } }
  else s

/-- How a cycle end was made (3.2). -/
inductive CycleEnd where
  | accepted
  | reanchor
  | synthetic
  deriving DecidableEq, Repr

/-- The Timebase's own change of state at a cycle end, with its one notice (R55, R57, R58). -/
def timebaseAtCycleEnd (how : CycleEnd) (s : State) : State :=
  noticeTimebase s.lockState <| match how with
    | .accepted => syncAfterAccepted s
    | .reanchor => s
    | .synthetic => failoverIfDue (syncAfterSynthetic s)

/-! ### Cycle marks and the budget period (R24, R59) -/

/-- A CYCLE MARK falls due when the cycle-mark counter is at or above T (R59, R60). -/
def markIfDue (s : State) : State :=
  if s.management.active.markInterval ≤ s.timebase.markCounter then
    { s with timebase.markCounter := 0, timebase.markWaiting := true }
  else s

/-- The cycle-mark counter at a cycle end (R59). -/
def marksAtCycleEnd (s : State) : State :=
  markIfDue { s with timebase.markCounter := raise s.management.active.markInterval s.timebase.markCounter }

/-- A budget period end when the counter is at or above the budget period (R24). -/
def budgetIfDue (s : State) : State :=
  if s.management.active.budgetPeriod ≤ s.tables.budgetCounter then
    { s with
      tables.budgetCounter := 0
      tables.consumers := s.tables.consumers.map fun r => r.map fun r => { r with moveCount := 0 } }
  else s

/-- The Feeder Tables at a cycle end (R24). -/
def budgetAtCycleEnd (s : State) : State :=
  budgetIfDue { s with tables.budgetCounter := s.tables.budgetCounter + 1 }

/-! ### Cycle ends (R48, R49) -/

/-- The Order Scheduler at a cycle end: moves and queries in the order chosen (log 3), and the expiry of
the latest execute cycle (R107, R114, R119, R123, R136). -/
def schedulerAtCycleEnd (s : State) : State :=
  expireLatest <|
    if s.choice.movesFirst then queriesAtCycleEnd (scheduleAtCycleEnd s)
    else scheduleAtCycleEnd (queriesAtCycleEnd s)

/-- Sample point 0 and the condition machines at a cycle end, in the order chosen (R66, R70; log 3). -/
def sampleAndConditions (began : PerPhase PhaseWatch) (s : State) : State :=
  if s.choice.sampleFirst then conditionsAtCycleEnd began (sampleAll s)
  else sampleAll (conditionsAtCycleEnd began s)

/-- Phase Supervision at a cycle end (R66, R68, R70). An accepted crossing has sample point 0 in the same
handling, after the presence update and before or after the condition machines as chosen (log 3). For a
re-anchor R66 gives it no place but that event: it comes before the presence update, or where it does at an
accepted crossing, as chosen (log 22). -/
def supervisionBlock (how : CycleEnd) (s : State) : State :=
  let began := s.supervision.phases
  match how with
  | .synthetic => conditionsAtCycleEnd began (presenceUpdates s)
  | .accepted => sampleAndConditions began (presenceUpdates s)
  | .reanchor =>
    if s.choice.pointFirst then conditionsAtCycleEnd began (presenceUpdates (sampleAll s))
    else sampleAndConditions began (presenceUpdates s)

/-- The three blocks whose order at one cycle end shows, in the order chosen (R49; log 3). -/
def blocksInOrder (order : Config.BlockOrder) (how : CycleEnd) (s : State) : State :=
  let t := timebaseAtCycleEnd how
  let p := supervisionBlock how
  let c := schedulerAtCycleEnd
  match order with
  | .tps => c (p (t s))
  | .tsp => p (c (t s))
  | .pts => c (t (p s))
  | .pst => t (c (p s))
  | .stp => p (t (c s))
  | .spt => t (p (c s))

/-- A cycle end handed to every block (R48, R49), the tick counter and the runs being set by its maker. -/
def cycleEnd (how : CycleEnd) (s : State) : State :=
  { s with timebase.cycleCount := s.timebase.cycleCount + 1 }
    |> budgetAtCycleEnd |> intakeAtCycleEnd |> marksAtCycleEnd |> blocksInOrder s.choice.blocks how

/-! ### Crossings and synthetic ends (R50 to R54) -/

/-- An accepted real crossing: the tick counter it found becomes the active period (R51). -/
def acceptedCrossing (s : State) : State :=
  cycleEnd .accepted
    { s with
      timebase :=
        { s.timebase with
          tickCounter := 0
          activePeriod := s.timebase.tickCounter
          acceptedRun := raise 4 s.timebase.acceptedRun
          syntheticRun := 0
          referenceRun := 0 } }

/-- A crossing that re-anchors (R54); the cycle ends when it came in the second half of it. Sample point 0
is sampled in either case (R66). -/
def reanchorCrossing (s : State) : State :=
  let late := s.timebase.activePeriod / 2 ≤ s.timebase.tickCounter
  let s :=
    { s with
      timebase :=
        { s.timebase with
          tickCounter := 0
          reanchorPending := false
          acceptedRun := 0
          syntheticRun := 0
          referenceRun := 0 } }
  if late then cycleEnd .reanchor s else sampleAll s

/-- A crossing arrival on the reference line, judged by the tick counter it finds (R50, R53). -/
def crossing (s : State) : State :=
  if s.timebase.reanchorPending then reanchorCrossing s
  else if s.timebase.tickCounter < s.earlyLimit then countGlitch s
  else acceptedCrossing s

/-- Whether an edge finds the line it is on to be the reference (R50). -/
def State.onReference (s : State) (line : Phase) : Bool := line == s.timebase.reference

/-- A rising edge on a zero-crossing line: edge seen for its phase, counted before or after the cycle end
it makes as chosen (R68; log 3), and judged when the line is the reference (R50). -/
def edge (line : Phase) (s : State) : State :=
  let judge (s : State) : State := if s.onReference line then crossing s else s
  dropChoice (if s.choice.edgeFirst then judge (markEdge line s) else markEdge line (judge s))

/-- A synthetic cycle end, the tick counter standing at the late limit (R52). -/
def syntheticEnd (s : State) : State :=
  dropChoice <| cycleEnd .synthetic
    { s with
      timebase :=
        { s.timebase with
          tickCounter := s.timebase.tickCounter - s.timebase.activePeriod
          syntheticRun := raise 255 s.timebase.syntheticRun
          referenceRun := s.timebase.referenceRun + 1
          acceptedRun := 0 } }

/-! ### The running of the tick counter (log 1) -/

/-- The tick counter at a value. -/
def setTick (n : Nat) (s : State) : State := { s with timebase.tickCounter := n }

/-- The sample interval (R66). -/
def Timebase.sampleInterval (t : Timebase) : Nat := t.activePeriod / Config.samplePoints

/-- The next sample point of the cycle above the tick counter, if any is left (R66). -/
def Timebase.nextSample (t : Timebase) : Option Nat :=
  let j := t.tickCounter / t.sampleInterval + 1
  if j < Config.samplePoints then some (j * t.sampleInterval) else none

/-- The event of a sample point: all three lines sampled (R66). -/
def sampleEvent (point : Nat) (s : State) : State := finish (dropChoice (sampleAll (setTick point s)))

/-- The sample points up to a tick, each an event of its own (R66); at most `fuel` of them. -/
def samplesUpTo : Nat → Nat → State → State
  | 0, _, s => s
  | fuel + 1, tick, s =>
    match s.timebase.nextSample with
    | some point => if point ≤ tick then samplesUpTo fuel tick (sampleEvent point s) else s
    | none => s

/-- The tick counter runs to a value below the late limit, with the samples on the way. -/
def runTo (tick : Nat) (s : State) : State := setTick tick (samplesUpTo Config.samplePoints tick s)

/-- The tick counter runs to the late limit and the synthetic cycle end is made (R52). -/
def lateLimitEvent (s : State) : State :=
  finish (syntheticEnd (setTick s.lateLimit (samplesUpTo Config.samplePoints (s.lateLimit - 1) s)))

/-- The tick counter runs for some ticks, with the samples and synthetic cycle ends on the way (R52, R66);
at most `fuel` synthetic ends. -/
def runTicks : Nat → Nat → State → State
  | 0, _, s => s
  | fuel + 1, n, s =>
    if s.timebase.tickCounter + n < s.lateLimit then runTo (s.timebase.tickCounter + n) s
    else runTicks fuel (n - (s.lateLimit - s.timebase.tickCounter)) (lateLimitEvent s)

/-- The part runs for some ticks of its internal reference (log 1). -/
def advance (n : Nat) (s : State) : State := if n = 0 then s else runTicks n n s

/-- The sag lines take levels at the pins (4.2). -/
def setSagLines (sag : PhaseSet) (s : State) : State := { s with supervision.sagLines := sag }

/-! ### The commands -/

/-- ZERO_CROSSING_EDGE (R50, R68): the ticks pass, then the edge is taken with the sag lines as given. -/
def execZeroCrossingEdge (line : Phase) (elapsed : Nat) (sag : PhaseSet) (s : State) :
    Host.Outcome State Fault Refusal :=
  .next (whileRunning (fun s => finish (edge line (setSagLines sag (advance elapsed s)))) s)

/-- SYNTHETIC_CYCLE_END (R52): the tick counter reaches the late limit. -/
def execSyntheticCycleEnd (s : State) : Host.Outcome State Fault Refusal :=
  .next (whileRunning lateLimitEvent s)

/-- FLYWHEEL_LIMIT_REACHED (R55): acts in FLYWHEEL with the synthetic run at F (log 2). -/
def execFlywheelLimitReached (s : State) : Host.Outcome State Fault Refusal :=
  .next (whileRunning (fun s => finish (noticeTimebase s.lockState (unsyncAtLimit s))) s)

/-- FAILOVER (R57): acts when the reference run is 2 (log 2). -/
def execFailover (s : State) : Host.Outcome State Fault Refusal :=
  .next (whileRunning (fun s => finish (noticeTimebase s.lockState (failoverIfDue s))) s)

/-- CYCLE_MARK_DUE (R59): acts when the cycle-mark counter is at T (log 2). -/
def execCycleMarkDue (s : State) : Host.Outcome State Fault Refusal :=
  .next (whileRunning (fun s => finish (markIfDue s)) s)

/-- The next sample point of the cycle, if one is left, is reached (R66). -/
def sampleStep (s : State) : State :=
  match s.timebase.nextSample with
  | some point => sampleEvent point s
  | none => s

/-- SAG_SAMPLE (R66): the sag lines take the levels given, and the next sample point is reached. -/
def execSagSample (sag : PhaseSet) (s : State) : Host.Outcome State Fault Refusal :=
  .next (whileRunning (fun s => sampleStep (setSagLines sag s)) s)

/-- BUDGET_PERIOD_END (R24): acts when the budget period counter is at the budget period (log 2). -/
def execBudgetPeriodEnd (s : State) : Host.Outcome State Fault Refusal :=
  .next (whileRunning (fun s => finish (budgetIfDue s)) s)

/-- WITHDRAWAL (R114): QUEUED entries too near now are withdrawn. -/
def execWithdrawal (s : State) : Host.Outcome State Fault Refusal :=
  .next (whileRunning (fun s => finish (withdrawTooNear s)) s)

/-- The reply deadlines of now: SENT entries at their execute cycle become UNCONFIRMED (R119). -/
def replyDeadlines (s : State) : State :=
  (s.scheduler.schedule.filter fun e => e.replyDue s.now).foldl
    (fun s e => setStage e.consumer .unconfirmed s) s

/-- REPLY_DEADLINE (R119). -/
def execReplyDeadline (s : State) : Host.Outcome State Fault Refusal :=
  .next (whileRunning (fun s => finish (replyDeadlines s)) s)

/-- The report deadlines of now, in schedule order (R123). -/
def reportDeadlines (s : State) : State :=
  (s.scheduler.schedule.filter fun e => e.reportDue s.now).foldl (fun s e => endUnreported e s) s

/-- REPORT_DEADLINE (R123). -/
def execReportDeadline (s : State) : Host.Outcome State Fault Refusal :=
  .next (whileRunning (fun s => finish (reportDeadlines s)) s)

/-- LATEST_EXECUTE_CYCLE_EXPIRY (R107). -/
def execLatestExecuteCycleExpiry (s : State) : Host.Outcome State Fault Refusal :=
  .next (whileRunning (fun s => finish (expireLatest s)) s)

/-- QUERY_DEADLINE (R136): acts on the ASKED records with no cycle ends left (log 2). -/
def execQueryDeadline (s : State) : Host.Outcome State Fault Refusal :=
  .next (whileRunning (fun s => finish (queryDeadlines s)) s)

end Sys2Proof.Machine
end

