-- ==== Sys2Proof/Machine/Operands.lean ====
section
/-!
DEFINITION. The operand forms of the management requests: the policy record's layout (R191, R193), the
arguments of the table writes (R188, R196), and the layouts of the data returned (R188, R189, R195).
-/

namespace Sys2Proof.Machine

/-! ### The policy record (R193) -/

/-- The sizes of the policy's fields, in order: 40 bytes in all (R193). -/
def policySizes : List Nat :=
  [1, 1, 1, 1, 4, 2, 1, 1, 1, 1, 1, 1, 1, 1, 2, 1, 4, 1, 1, 1, 1, 1, 1, 2, 1, 1, 1, 1, 1, 2]

/-- Bytes split into fields of given sizes, each high byte first (R161). -/
def splitFields : List Nat → List Byte → List Nat
  | [], _ => []
  | n :: sizes, bytes => beNat (bytes.take n) :: splitFields sizes (bytes.drop n)

/-- A number below 256 to the power of its size, high byte first (R161). -/
def beBytes : Nat → Nat → List Byte
  | 0, _ => []
  | size + 1, n => byte (n / 256 ^ size) :: beBytes size n

/-- Numbers laid out as fields of given sizes. -/
def joinFields : List Nat → List Nat → List Byte
  | size :: sizes, n :: ns => beBytes size n ++ joinFields sizes ns
  | _, _ => []

/-- The code of the sag notice edge (R191). -/
def SagNoticeEdge.code : SagNoticeEdge → Nat
  | .none => 0
  | .entry => 1
  | .exit => 2
  | .both => 3

/-- The sag notice edge that a code names (R191). -/
def edgeOfCode : Nat → Option SagNoticeEdge
  | 0 => some .none
  | 1 => some .entry
  | 2 => some .exit
  | 3 => some .both
  | _ => none

/-- An on-or-off field: 0 off, 1 on (R191). -/
def boolOfCode : Nat → Option Bool
  | 0 => some false
  | 1 => some true
  | _ => none

/-- The defined values of the sag filter V (R191). -/
def filterDefined (v : Nat) : Bool := v == 2 || v == 4 || v == 8 || v == 16

/-- The mask bits that name a notice kind (R177, R191). -/
def maskBits : Word16 := 0x0FFF

/-- The policy that 30 field values give, none when an enumerated field is undefined (R191, first pass). -/
def policyOfFields : List Nat → Option Policy
  | [window, shift, passDivider, movesPerPass, threshold, minimumLoad, inFlightLimit, lead, spacing,
      rescueSpacing, reportGrace, transferGap, queryInterval, queryTries, dwell, budget, budgetPeriod,
      silenceLimit, divider, markInterval, sagLevel, sagFilter, sagDelay, recoveryHold, flywheelLimit,
      burstLimit, rescueEnable, autoResume, noticeEdge, mask] =>
    match filterDefined sagFilter, boolOfCode rescueEnable, boolOfCode autoResume, edgeOfCode noticeEdge with
    | true, some rescueEnable, some autoResume, some noticeEdge =>
      some
        { window, shift, passDivider, movesPerPass, threshold, minimumLoad, inFlightLimit, lead, spacing,
          rescueSpacing, reportGrace, transferGap, queryInterval, queryTries, dwell, budget, budgetPeriod,
          silenceLimit, divider, markInterval, sagLevel, sagFilter, sagDelay, recoveryHold, flywheelLimit,
          burstLimit, rescueEnable, autoResume, noticeEdge, mask := BitVec.ofNat 16 mask &&& maskBits }
    | _, _, _, _ => none
  | _ => none

/-- The 30 field values of a policy (R193). -/
def fieldsOfPolicy (p : Policy) : List Nat :=
  [p.window, p.shift, p.passDivider, p.movesPerPass, p.threshold, p.minimumLoad, p.inFlightLimit, p.lead,
    p.spacing, p.rescueSpacing, p.reportGrace, p.transferGap, p.queryInterval, p.queryTries, p.dwell, p.budget,
    p.budgetPeriod, p.silenceLimit, p.divider, p.markInterval, p.sagLevel, p.sagFilter, p.sagDelay,
    p.recoveryHold, p.flywheelLimit, p.burstLimit, if p.rescueEnable then 1 else 0, if p.autoResume then 1 else 0,
    p.noticeEdge.code, p.mask.toNat]

/-- The policy record in its 40 bytes (R193). -/
def policyBytes (p : Policy) : List Byte := joinFields policySizes (fieldsOfPolicy p)

/-- The policy that a whole record of 40 bytes holds, before its numeric fields are clamped (R191). -/
def policyOfBytes (bytes : List Byte) : Option Policy := policyOfFields (splitFields policySizes bytes)

/-- Each numeric field clamped to its range of R193 (R191, second pass). -/
def clampPolicy (p : Policy) : Policy :=
  { p with
    window := clamp 10 255 p.window
    shift := clamp 0 4 p.shift
    passDivider := clamp 1 8 p.passDivider
    movesPerPass := clamp 1 4 p.movesPerPass
    threshold := clamp 1 16777215 p.threshold
    minimumLoad := clamp 0 2000 p.minimumLoad
    inFlightLimit := clamp 1 8 p.inFlightLimit
    lead := clamp 4 255 p.lead
    spacing := clamp 1 255 p.spacing
    rescueSpacing := clamp 1 255 p.rescueSpacing
    reportGrace := clamp 2 255 p.reportGrace
    transferGap := clamp 1 8 p.transferGap
    queryInterval := clamp 2 255 p.queryInterval
    queryTries := clamp 1 7 p.queryTries
    dwell := clamp 0 65535 p.dwell
    budget := clamp 1 15 p.budget
    budgetPeriod := clamp 3000 4294967295 p.budgetPeriod
    silenceLimit := clamp 1 255 p.silenceLimit
    divider := clamp 0 8 p.divider
    markInterval := clamp 8 255 p.markInterval
    sagLevel := clamp 0 3 p.sagLevel
    sagDelay := clamp 1 255 p.sagDelay
    recoveryHold := clamp 10 65535 p.recoveryHold
    flywheelLimit := clamp 2 16 p.flywheelLimit
    burstLimit := clamp 0 4 p.burstLimit }

/-! ### Records as returned (R188, R195) -/

/-- A segment record: valid, parent (255 when absent), weight, phase limit (R188). -/
def segmentBytes (seg : Segment) : List Byte :=
  [flagByte seg.valid, match seg.parent with
    | some p => byte p
    | none => 255, byte seg.weight] ++ be2 seg.limit

/-- A byte with its presence byte first; 0 when absent (R188). -/
def optionByte : Option Byte → List Byte
  | some b => [1, b]
  | none => [0, 0]

/-- A 2-byte value with its presence byte first; 0 when absent (R188). -/
def optionWord : Option Word16 → List Byte
  | some w => 1 :: be2 w.toNat
  | none => [0, 0, 0]

/-- The move link: presence, target phase, execute cycle, tag (R21, R188). -/
def moveLinkBytes : Option MoveEntry → List Byte
  | some e => 1 :: phaseCode e.target :: be2 e.execute.toNat ++ [e.tag]
  | none => [0, 0, 0, 0, 0]

/-- The query stage: presence, stage, tries-left, query tag, cycle ends left (R188). The last two stand in ASKED
only (R144), and in the other stages their bytes are 0. DESIGN CHOICE (log 24). -/
def queryBytes : Option Query → List Byte
  | some ⟨.waiting, tries⟩ => [1, 1, byte tries, 0, 0]
  | some ⟨.queued, tries⟩ => [1, 2, byte tries, 0, 0]
  | some ⟨.asked tag left, tries⟩ => [1, 3, byte tries, tag, byte left]
  | none => [0, 0, 0, 0, 0]

/-- The fault reason, 0 when absent (R188). -/
def faultByte : RecordState → Byte
  | .faulted reason => reason.code
  | _ => 0

/-- The READ CONSUMER data of a record that is not VACANT: 34 bytes (R188). -/
def consumerBytes (r : Consumer) (link : Option MoveEntry) : List Byte :=
  [r.state.code, r.address, byte r.segment, phaseSetCode r.allowed, phaseCode r.assigned, flagByte r.lock,
    byte r.priority, byte r.moveCount]
  ++ (match r.lastMove with
    | some c => 1 :: be4 c.toNat
    | none => [0, 0, 0, 0, 0])
  ++ signed2 r.fresh ++ [flagByte r.seeded] ++ signed2 r.stable ++ [byte r.silence]
  ++ moveLinkBytes link ++ optionByte r.lastTag ++ queryBytes r.state.query ++ [faultByte r.state]
  ++ optionByte (r.rescue.map fun m => byte m.attempts)

/-- One entry of the READ SCHEDULE data: 11 bytes (R195). -/
def entryBytes (e : MoveEntry) : List Byte :=
  [byte e.consumer, e.tag, e.origin.code, phaseCode e.fromPhase, phaseCode e.target]
  ++ be2 e.execute.toNat ++ be2 e.deadline.toNat ++ [e.stage.code, flagByte (e.stage == .queued true)]

/-! ### READ STATUS (R189) -/

/-- Section 0: start, timebase, intake and balancer. -/
def statusStart (s : State) : List Byte :=
  [startRecordByte s.management.startRecord] ++ be4 s.timebase.cycleCount.toNat
  ++ [s.timebase.sync.code, phaseCode s.timebase.reference] ++ be2 s.timebase.activePeriod
  ++ [byte s.timebase.markCounter, byte s.intake.windowCounter]
  ++ (match s.intake.fold with
    | .idle => [0, 0]
    | .folding i _ _ => [1, byte i])
  ++ [byte s.balancer.remaining, s.balancer.state.code]

/-- The delay count in SAG, the hold count in RECOVERING, 0 otherwise (R189). -/
def Condition.count : Condition → Nat
  | .sag delay => delay
  | .recovering hold => hold
  | .healthy | .lost => 0

/-- What section 1 reports for one phase. -/
def statusPhase (w : PhaseWatch) : List Byte :=
  [w.condition.code, flagByte w.sagActive, flagByte w.present] ++ be2 w.condition.count

/-- Section 1: the phases. -/
def statusPhases (s : State) : List Byte := Phase.all.flatMap fun p => statusPhase (s.watch p)

/-- The twelve counters in the order of R180. -/
def counterList (c : Counters) : List Nat :=
  [c.badUp, c.badDown, c.misaddressed, c.requestDrops, c.downDrops, c.upDrops, c.foreignOrders, c.staleFrames,
    c.staleMoves, c.overruns, c.suppressed, c.glitches]

/-- Section 2: counters and queues. -/
def statusQueues (s : State) : List Byte :=
  (counterList s.ports.counters).flatMap be2
  ++ [byte s.ports.down.forward.length, byte s.ports.up.forward.length, byte s.ports.notices.length,
    byte s.ports.responses.length, byte s.management.requests.length, byte s.ports.lostNotices]

/-- The consumer indices of the query queue in 8 places, 255 beyond the count (R189). -/
def queryPlaces (queries : List QueryEntry) : List Byte :=
  ((queries.map fun (e : QueryEntry) => byte e.consumer) ++ List.replicate 8 255).take 8

/-- Section 3: queries and rescue. -/
def statusRescue (s : State) : List Byte :=
  byte s.scheduler.queries.length :: queryPlaces s.scheduler.queries
  ++ [flagByte (s.scheduler.queries.any fun (e : QueryEntry) => e.inTransmission), flagByte s.rescue.event.isSome,
    (match s.rescue.event with
      | some ev => phaseSetCode ev.covered
      | none => 0),
    byte s.rescue.rescued, byte s.rescue.unrescuable, byte s.rescue.restored, byte s.rescue.list.length]
  ++ optionByte (s.nextDraw.map byte)

/-- The content of a section of READ STATUS; none for a section above 3 (R189). -/
def statusSection (s : State) (n : Nat) : Option (List Byte) :=
  match n with
  | 0 => some (statusStart s)
  | 1 => some (statusPhases s)
  | 2 => some (statusQueues s)
  | 3 => some (statusRescue s)
  | _ => none

/-! ### READ SCHEDULE (R195) -/

/-- The READ SCHEDULE data from a first position. -/
def scheduleBytes (s : State) (first : Nat) : List Byte :=
  let entries := (s.scheduler.schedule.drop first).take 3
  [byte s.scheduler.schedule.length, byte first, byte entries.length] ++ optionWord s.scheduler.latestExecute
  ++ [s.scheduler.tagCounter] ++ be2 s.now.toNat ++ entries.flatMap entryBytes

end Sys2Proof.Machine
end

