-- ==== Sys2Proof/Machine/Start.lean ====
section
/-!
DEFINITION. Starts (chapter 11): the hold, the cold and the warm start, the start record.
-/

namespace Sys2Proof.Machine

/-- A start is cold when power-on or a supply dip was recorded (R201). -/
def ResetSources.cold (r : ResetSources) : Bool := r.powerOn || r.supplyDip

/-- No reset source. -/
def noSources : ResetSources := ⟨false, false, false, false⟩

/-- The part is held in reset with one more source recorded (R201): every block stops, both transmitters
and receivers are quiet, SLA and SLB are low. -/
def holdWith (add : ResetSources → ResetSources) (s : State) : State :=
  { s with
    hold := some (add (s.hold.getD noSources))
    ports.up.transmitter := .idle
    ports.up.receiver := .hunting
    ports.down.transmitter := .idle
    ports.down.receiver := .hunting
    supervision.sla := false
    supervision.slb := false }

/-- A record after a warm start (R26). -/
def warmRecord (tries : Nat) (r : Consumer) : Consumer :=
  { r with
    state := match r.state with
      | .faulted reason => .faulted reason
      | _ => .unverified ⟨.waiting, tries⟩
    firstBank := Bank.zeroed
    secondBank := Bank.zeroed
    silence := 0
    forward := 0
    lastMove := none
    rescue := none }

/-- The Feeder Tables after a cold start (R8, R25). -/
def FeederTables.cold : FeederTables where
  active := Segment.coldTable
  shadow := Segment.coldTable
  marks := List.replicate Config.segments false
  consumers := List.replicate Config.consumers none
  addressMap := List.replicate Config.addresses none
  budgetCounter := 0

/-- The Feeder Tables after a warm start (R8, R26). -/
def FeederTables.warm (tries : Nat) (t : FeederTables) : FeederTables :=
  { t with
    shadow := t.active
    marks := List.replicate Config.segments false
    consumers := t.consumers.map fun r => r.map (warmRecord tries)
    budgetCounter := 0 }

/-- The Management Unit after a start (R199, R202). -/
def Management.started (sources : ResetSources) (m : Management) : Management :=
  let policy := if sources.cold then Policy.cold else m.active
  { requests := []
    restartPending := false
    active := policy
    shadow := policy
    policyPending := false
    startRecord := ⟨sources, sources.cold⟩ }

/-- The balancer state after a start (R99, R100). -/
def startedBalancer (sources : ResetSources) (autoResume : Bool) : BalancerState :=
  if !sources.cold && autoResume then .idle else .stopped

/-- What every block takes at a start, before the Sum Table is rebuilt (R8, R25, R26, R41, R44, R45, R63,
R76, R99, R100, R104, R145, R160, R182, R199, R200). The sag lines are inputs and stay as they are. -/
def startValues (sources : ResetSources) (straps : Straps) (s : State) : State :=
  let management := s.management.started sources
  { s with
    tables :=
      if sources.cold then FeederTables.cold else s.tables.warm management.active.queryTries
    intake := ⟨false, 0, .idle⟩
    timebase := Timebase.start straps.mains60
    supervision := { s.supervision with phases := PerPhase.const PhaseWatch.start }
    balancer :=
      { state := startedBalancer sources management.active.autoResume
        remaining := management.active.passDivider
        sums := zeroSums }
    scheduler := ⟨[], none, 1, []⟩
    rescue := ⟨none, 0, 0, 0, []⟩
    ports := ⟨PortState.start, PortState.start, [], [], 0, Counters.zero⟩
    management := management
    straps := straps
    hold := none }

/-- A start (R201, R202): the start values, the select lines (R65), the Sum Table (R84, R100), and the
START notice, which no mask stops. The fill and the grants follow with the end of the event. -/
def startWith (sources : ResetSources) (straps : Straps) (s : State) : State :=
  startValues sources straps s |> driveSelectLines |> rebuild
    |> queueNotice .start [startRecordByte ⟨sources, sources.cold⟩]

/-! ### The commands -/

/-- RESET_LINE_LOW (R201). -/
def execResetLineLow (s : State) : Host.Outcome State Fault Refusal :=
  .next (holdWith (fun r => { r with resetLine := true }) s)

/-- SUPPLY_BELOW_THRESHOLD (R201): a power-on is recorded when the supply falls below the power-on level,
a supply dip otherwise. -/
def execSupplyBelowThreshold (belowPowerOn : Bool) (s : State) : Host.Outcome State Fault Refusal :=
  .next (holdWith
    (fun r => if belowPowerOn then { r with powerOn := true } else { r with supplyDip := true }) s)

/-- START (R201): the hold ends and a start is made from the sources recorded; with no hold there is
nothing to end (log 4). -/
def execStart (straps : Straps) (s : State) : Host.Outcome State Fault Refusal :=
  .next <| match s.hold with
    | some sources => finish (startWith sources straps s)
    | none => s

end Sys2Proof.Machine
end

