-- ==== Sys2Proof/Machine/Management.lean ====
section
/-!
DEFINITION. The management requests (chapter 10): the response, the check and effect of each kind, the
request queue, and the commands that are requests.
-/

namespace Sys2Proof.Machine

/-! ### Responses (R186) -/

/-- The response to a request: its kind, the result, and data when there are any (R186). -/
def respond (r : Request) (kind : Byte) (result : Result) (data : List Byte) (s : State) : State :=
  { s with
    ports.responses := s.ports.responses ++
      [goodFrame r.src s.ownAddress kindManagementResponse r.tag (kind :: result.code :: data)] }

/-- A refusal: the result alone, and no other change (R186, R187). -/
def refuse (r : Request) (kind : Byte) (result : Result) (s : State) : State := respond r kind result [] s

/-- The result of an accepted write: DONE, or DONE_CLAMPED when a value was clamped. -/
def doneResult (clamped : Bool) : Result := if clamped then .doneClamped else .done

/-! ### Reads -/

/-- READ STATUS (R189). -/
def performReadStatus (r : Request) (args : List Byte) (s : State) : State :=
  match args with
  | [n] =>
    match statusSection s n.toNat with
    | some data => respond r requestReadStatus .done data s
    | none => refuse r requestReadStatus .badIndex s
  | _ => refuse r requestReadStatus .badValue s

/-- READ POLICY (R190). -/
def performReadPolicy (r : Request) (args : List Byte) (s : State) : State :=
  match args with
  | [copy] =>
    let data (p : Policy) := flagByte s.management.policyPending :: policyBytes p
    if copy = 0 then respond r requestReadPolicy .done (data s.management.active) s
    else if copy = 1 then respond r requestReadPolicy .done (data s.management.shadow) s
    else refuse r requestReadPolicy .badValue s
  | _ => refuse r requestReadPolicy .badValue s

/-- READ SEGMENT (R7, R188). -/
def performReadSegment (r : Request) (args : List Byte) (s : State) : State :=
  match args with
  | [i] =>
    if i.toNat < Config.segments then
      let mark := s.tables.marks.getD i.toNat false
      respond r requestReadSegment .done
        (segmentBytes (segmentAt s.tables.active i.toNat) ++ [flagByte mark]
          ++ (if mark then segmentBytes (segmentAt s.tables.shadow i.toNat) else [0, 0, 0, 0, 0])) s
    else refuse r requestReadSegment .badIndex s
  | _ => refuse r requestReadSegment .badValue s

/-- READ CONSUMER (R21, R188). -/
def performReadConsumer (r : Request) (args : List Byte) (s : State) : State :=
  match args with
  | [i] =>
    if i.toNat < Config.consumers then
      respond r requestReadConsumer .done
        (match s.record i.toNat with
          | some c => consumerBytes c (if c.state.moving then s.entryOf i.toNat else none)
          | none => [0]) s
    else refuse r requestReadConsumer .badIndex s
  | _ => refuse r requestReadConsumer .badValue s

/-- READ SUMS (R194). -/
def performReadSums (r : Request) (args : List Byte) (s : State) : State :=
  match args with
  | [i] =>
    if Config.segments ≤ i.toNat then refuse r requestReadSums .badIndex s
    else if !(segmentAt s.tables.active i.toNat).valid then refuse r requestReadSums .wrongState s
    else
      let e := (s.balancer.sums[i.toNat]?).getD (PerPhase.const 0)
      respond r requestReadSums .done
        (signed4 e.l1 ++ signed4 e.l2 ++ signed4 e.l3 ++ signed4 (imbalance e)
          ++ signed4 (cost s.tables.active s.balancer.sums)) s
  | _ => refuse r requestReadSums .badValue s

/-- READ SCHEDULE (R195). -/
def performReadSchedule (r : Request) (args : List Byte) (s : State) : State :=
  match args with
  | [first] =>
    if first.toNat ≤ 7 then respond r requestReadSchedule .done (scheduleBytes s first.toNat) s
    else refuse r requestReadSchedule .badIndex s
  | _ => refuse r requestReadSchedule .badValue s

/-! ### Policy and segment writes -/

/-- The shadow policy replaced and marked (R192), then adopted at once while STOPPED (R83). -/
def storePolicy (p : Policy) (s : State) : State :=
  afterTableWrite { s with management.shadow := p, management.policyPending := true }

/-- WRITE POLICY (R191, R192). -/
def performWritePolicy (r : Request) (args : List Byte) (s : State) : State :=
  if args.length = 40 then
    match policyOfBytes args with
    | some p =>
      respond r requestWritePolicy (doneResult (clampPolicy p != p)) [] (storePolicy (clampPolicy p) s)
    | none => refuse r requestWritePolicy .badValue s
  else refuse r requestWritePolicy .badValue s

/-- The refusal of a WRITE SEGMENT, if one of the conditions of R5 and R196 holds: the first decides. -/
def State.segmentRefusal (s : State) (i valid parent : Nat) : Option Result :=
  let shadow := s.tables.shadow
  if Config.segments ≤ i then some .badIndex
  else if 2 ≤ valid then some .badValue
  else if i = 0 then (if valid = 0 then some .treeRule else none)
  else if valid = 1 then
    if i ≤ parent then some .treeRule
    else if !(segmentAt shadow parent).valid then some .treeRule
    else none
  else if s.tables.consumers.any fun r => r.any fun r => r.segment == i then some .treeRule
  else if shadow.any fun seg => seg.valid && seg.parent == some i then some .treeRule
  else none

/-- The shadow record and the pending mark of an accepted WRITE SEGMENT (R4, R5). -/
def storeSegment (i valid parent weight limit : Nat) (s : State) : State :=
  let seg : Segment :=
    { valid := valid == 1
      parent := if i = 0 || valid != 1 then none else some parent
      weight := min weight 15
      limit := min limit Config.noLimit }
  { s with
    tables.shadow := s.tables.shadow.set i seg
    tables.marks := s.tables.marks.set i true }

/-- WRITE SEGMENT (R4, R5, R83, R196). -/
def performWriteSegment (r : Request) (args : List Byte) (s : State) : State :=
  match args with
  | [i, valid, parent, weight, l0, l1, l2, l3] =>
    let limit := beNat [l0, l1, l2, l3]
    match s.segmentRefusal i.toNat valid.toNat parent.toNat with
    | some result => refuse r requestWriteSegment result s
    | none =>
      respond r requestWriteSegment (doneResult (15 < weight.toNat || Config.noLimit < limit)) []
        (afterTableWrite (storeSegment i.toNat valid.toNat parent.toNat weight.toNat limit s))
  | _ => refuse r requestWriteSegment .badValue s

/-! ### Consumer writes -/

/-- What a WRITE CONSUMER carries once its codes are read (R16). -/
structure ConsumerWrite where
  address : Byte
  segment : Nat
  allowed : PhaseSet
  assigned : Phase
  lock : Bool
  priority : Nat
  deriving DecidableEq, Repr

/-- The written values, when the segment, lock, allowed set and assigned phase are defined and agree (R16,
R196). -/
def State.readWrite (s : State) (address segment allowed assigned lock priority : Byte) : Option ConsumerWrite :=
  if address.toNat < 1 || 239 < address.toNat then none
  else if Config.segments ≤ segment.toNat || !(segmentAt s.tables.shadow segment.toNat).valid then none
  else
    match boolOfCode lock.toNat, phaseSetOfCode allowed, phaseOfCode assigned with
    | some lock, some allowed, some assigned =>
      if allowed.get assigned then
        some ⟨address, segment.toNat, allowed, assigned, lock, min priority.toNat 3⟩
      else none
    | _, _, _ => none

/-- Whether a record is ORDERED, ACCEPTED or QUERYING, which refuses its write and its clear (R16, R20). -/
def State.engaged (s : State) (i : Nat) : Bool :=
  match s.record i with
  | some r => match r.state with
    | .ordered | .accepted | .querying _ => true
    | .unverified _ | .settled | .silent | .faulted _ => false
  | none => false

/-- A record created by WRITE CONSUMER (R17). -/
def newRecord (w : ConsumerWrite) (q : Query) : Consumer where
  state := .unverified q
  address := w.address
  segment := w.segment
  allowed := w.allowed
  assigned := w.assigned
  lock := w.lock
  priority := w.priority
  moveCount := 0
  lastMove := none
  fresh := 0
  seeded := false
  stable := 0
  firstBank := Bank.zeroed
  secondBank := Bank.zeroed
  silence := 0
  forward := 0
  lastTag := none
  rescue := none

/-- A record replaced by WRITE CONSUMER (R18): with its address unchanged it keeps its loads, banks,
counts and last move tag; with a new one it is as created. -/
def replacedRecord (w : ConsumerWrite) (q : Query) (r : Consumer) : Consumer :=
  if r.address = w.address then
    { r with
      state := .unverified q
      segment := w.segment
      allowed := w.allowed
      assigned := w.assigned
      lock := w.lock
      priority := w.priority
      silence := 0
      rescue := none }
  else newRecord w q

/-- The Address Map after a write: the old address to none when it changed, the new one to the index (R19). -/
def remap (i : Nat) (old : Option Consumer) (address : Byte) (s : State) : State :=
  let s := match old with
    | some r => if r.address = address then s else s.setMap r.address none
    | none => s
  s.setMap address (some i)

/-- An accepted WRITE CONSUMER (R17 to R19). -/
def storeConsumer (i : Nat) (w : ConsumerWrite) (s : State) : State :=
  let old := s.record i
  let new := match old with
    | some r => replacedRecord w s.freshQuery r
    | none => newRecord w s.freshQuery
  recontribute i (fun s => s.setRecord i (some new)) s |> remap i old w.address |> leaveQueue i |> delist i

/-- WRITE CONSUMER (R16 to R19, R196). -/
def performWriteConsumer (r : Request) (args : List Byte) (s : State) : State :=
  match args with
  | [i, address, segment, allowed, assigned, lock, priority] =>
    if Config.consumers ≤ i.toNat then refuse r requestWriteConsumer .badIndex s
    else if s.engaged i.toNat then refuse r requestWriteConsumer .busy s
    else
      match s.readWrite address segment allowed assigned lock priority with
      | none => refuse r requestWriteConsumer .badValue s
      | some w =>
        if (s.mapped address).any fun j => j != i.toNat then refuse r requestWriteConsumer .duplicateAddress s
        else respond r requestWriteConsumer (doneResult (3 < priority.toNat)) [] (storeConsumer i.toNat w s)
  | _ => refuse r requestWriteConsumer .badValue s

/-- A record made VACANT (R20). -/
def vacate (i : Nat) (r : Consumer) (s : State) : State :=
  (recontribute i (fun s => s.setRecord i none) s).setMap r.address none |> leaveQueue i |> delist i

/-- CLEAR CONSUMER (R20). -/
def performClearConsumer (r : Request) (args : List Byte) (s : State) : State :=
  match args with
  | [i] =>
    if Config.consumers ≤ i.toNat then refuse r requestClearConsumer .badIndex s
    else if s.engaged i.toNat then refuse r requestClearConsumer .busy s
    else
      respond r requestClearConsumer .done [] <| match s.record i.toNat with
        | some c => vacate i.toNat c s
        | none => s
  | _ => refuse r requestClearConsumer .badValue s

/-- The lock of a record set; set on, it drops the rescue attempts and takes the record off the list (R23). -/
def storeLock (i : Nat) (lock : Bool) (s : State) : State :=
  let s := s.modifyRecord i fun r => { r with lock := lock }
  if lock then delist i (dropRescueMark i s) else s

/-- SET LOCK (R23, R196). -/
def performSetLock (r : Request) (args : List Byte) (s : State) : State :=
  match args with
  | [i, lock] =>
    if Config.consumers ≤ i.toNat then refuse r requestSetLock .badIndex s
    else
      match boolOfCode lock.toNat, s.record i.toNat with
      | none, _ => refuse r requestSetLock .badValue s
      | some _, none => refuse r requestSetLock .wrongState s
      | some lock, some _ => respond r requestSetLock .done [] (storeLock i.toNat lock s)
  | _ => refuse r requestSetLock .badValue s

/-- A fault cleared (R143): UNVERIFIED with full tries, contributing again, and the Rescue Unit told. -/
def unfault (i : Nat) (s : State) : State :=
  insertByHandOver i (changeRecord i (fun r => { r with state := .unverified s.freshQuery }) s)

/-- CLEAR FAULT (R143). -/
def performClearFault (r : Request) (args : List Byte) (s : State) : State :=
  match args with
  | [i] =>
    if Config.consumers ≤ i.toNat then refuse r requestClearFault .badIndex s
    else if s.isFaulted i.toNat then respond r requestClearFault .done [] (unfault i.toNat s)
    else refuse r requestClearFault .wrongState s
  | _ => refuse r requestClearFault .badValue s

/-! ### Moves, control and restart -/

/-- The target of a MANUAL MOVE, when the target row of R126 does not refuse it. -/
def State.manualTarget (s : State) (c : Consumer) (target : Byte) : Option Phase :=
  match phaseOfCode target with
  | some q => if q != c.assigned && c.allowed.get q && s.healthy q then some q else none
  | none => none

/-- MANUAL MOVE (R126). -/
def performManualMove (r : Request) (args : List Byte) (s : State) : State :=
  match args with
  | [i, target] =>
    if Config.consumers ≤ i.toNat then refuse r requestManualMove .badIndex s
    else
      match s.record i.toNat with
      | none => refuse r requestManualMove .wrongState s
      | some c =>
        if c.state != .settled then refuse r requestManualMove .wrongState s
        else
          match s.manualTarget c target with
          | none => refuse r requestManualMove .badValue s
          | some q =>
            if !s.synced then refuse r requestManualMove .busy s
            else if Config.scheduleRoom ≤ s.scheduler.schedule.length || !s.withinReach .manual then
              refuse r requestManualMove .noRoom s
            else
              respond r requestManualMove .done
                (s.scheduler.tagCounter :: be2 (s.executeCycle .manual).toNat) (makeEntry .manual i.toNat q s)
  | _ => refuse r requestManualMove .badValue s

/-- CANCEL MOVES (R127): every QUEUED entry not in transmission is withdrawn, in schedule order. -/
def performCancelMoves (r : Request) (args : List Byte) (s : State) : State :=
  match args with
  | [] =>
    let entries := s.scheduler.schedule.filter MoveEntry.waits
    respond r requestCancelMoves .done [byte entries.length]
      (entries.foldl (fun s e => withdraw reasonCancelled e s) s)
  | _ => refuse r requestCancelMoves .badValue s

/-- The balancer takes a state; a pass in progress that it leaves is abandoned (R79, R80). -/
def setBalancer (b : BalancerState) (s : State) : State := { s with balancer.state := b }

/-- BALANCER CONTROL START (R79). -/
def controlStart (s : State) : State :=
  match s.balancer.state with
  | .stopped | .held => setBalancer .idle s
  | .idle | .evaluating _ => s

/-- The answer to a BALANCER CONTROL that is done: the balancer state after it (R188). -/
def controlDone (r : Request) (s : State) : State :=
  respond r requestBalancerControl .done [s.balancer.state.code] s

/-- BALANCER CONTROL (R79). -/
def performBalancerControl (r : Request) (args : List Byte) (s : State) : State :=
  match args with
  | [action] =>
    if action = 1 then controlDone r (controlStart s)
    else if action = 2 then
      if s.stopped then refuse r requestBalancerControl .wrongState s else controlDone r (setBalancer .held s)
    else if action = 3 then controlDone r (setBalancer .stopped s)
    else refuse r requestBalancerControl .badValue s
  | _ => refuse r requestBalancerControl .badValue s

/-- RESTART (R197). -/
def performRestart (r : Request) (args : List Byte) (s : State) : State :=
  match args with
  | [] => { respond r requestRestart .done [] s with management.restartPending := true }
  | _ => refuse r requestRestart .badValue s

/-! ### Execution (R185, R187) -/

/-- The execution of a request, by its kind (R187, R188). -/
def perform (r : Request) (s : State) : State :=
  match r.payload with
  | [] => s
  | kind :: args =>
    match kind.toNat with
    | 0x01 => performReadStatus r args s
    | 0x02 => performReadPolicy r args s
    | 0x03 => performWritePolicy r args s
    | 0x04 => performReadSegment r args s
    | 0x05 => performWriteSegment r args s
    | 0x06 => performReadConsumer r args s
    | 0x07 => performWriteConsumer r args s
    | 0x08 => performClearConsumer r args s
    | 0x09 => performReadSums r args s
    | 0x0A => performSetLock r args s
    | 0x0B => performClearFault r args s
    | 0x0C => performManualMove r args s
    | 0x0D => performCancelMoves r args s
    | 0x0E => performBalancerControl r args s
    | 0x0F => performReadSchedule r args s
    | 0x10 => performRestart r args s
    | _ => refuse r kind .unknownKind s

/-- The request that R185 lets be executed now, if any. -/
def State.executable (s : State) : Option Request :=
  if !s.management.restartPending && s.ports.responses.length < Config.responseRoom then
    s.management.requests.head?
  else none

/-- The first request leaves the queue and is executed (R185). -/
def executeFirst (r : Request) (s : State) : State :=
  perform r { s with management.requests := s.management.requests.tail }

/-- The requests that the present event lets be executed, one after another, each an event of its own
(R185); at most `fuel` of them. -/
def serve : Nat → State → State
  | 0, s => s
  | fuel + 1, s =>
    match s.executable with
    | some r => serve fuel (finish (executeFirst r s))
    | none => s

/-- The end of an event that can free a place in the response queue, with the requests it lets be
executed (R185). -/
def finishServing (s : State) : State := serve s.management.requests.length (finish s)

/-- The end of an event in which a request arrived: the first request is executed in that event when
R185 lets it, and those behind it in turn. -/
def serveArrival (s : State) : State :=
  match s.executable with
  | some r => serve s.management.requests.length (finish (executeFirst r s))
  | none => finish s

end Sys2Proof.Machine
end

