-- ==== Sys2Proof/Machine/Arrivals.lean ====
section
/-!
DEFINITION. What the ports bring (chapter 9): the classification of arriving frames, the characters at the
receive lines, the ends of transmissions, and the management requests as commands.
-/

namespace Sys2Proof.Machine

/-! ### Receivers (R163) -/

/-- The receiver of a port. -/
def State.receiver (s : State) : Port → Receiver
  | .upstream => s.ports.up.receiver
  | .downstream => s.ports.down.receiver

/-- The receiver of a port takes a state. -/
def setReceiver (port : Port) (r : Receiver) (s : State) : State :=
  match port with
  | .upstream => { s with ports.up.receiver := r }
  | .downstream => { s with ports.down.receiver := r }

/-! ### Arrivals upstream (R166 to R168, R184) -/

/-- A request to the own address enters the request queue, or is dropped and counted (R167, R184). -/
def enterRequests (f : Frame) (s : State) : State :=
  if s.management.requests.length < Config.requestRoom then
    { s with management.requests := s.management.requests ++ [⟨f.src, f.tag, f.payload⟩] }
  else countRequestDrop s

/-- A foreign order is blocked: counted and noticed, not forwarded (R168). -/
def blockForeign (i : Nat) (f : Frame) (s : State) : State :=
  raiseNotice .foreignOrderBlocked [f.dest, byte i, f.src, f.tag] (countForeign s)

/-- A frame from upstream that is not addressed to the part: a foreign order is blocked, any other goes
downstream (R167, R168). -/
def passDown (f : Frame) (s : State) : State :=
  if f.kind = kindTransferOrder then
    match s.mapped f.dest with
    | some i => blockForeign i f s
    | none => forwardDown f s
  else forwardDown f s

/-- A good frame arrives upstream and is classified, in one event (R167). A payload above 48 bytes makes
it a bad frame (R163). -/
def arriveUpstream (f : Frame) (s : State) : State :=
  if Config.payloadRoom < f.payload.length then finish (countBad .upstream s)
  else if f.dest = s.ownAddress then
    if f.kind = kindManagementRequest && !f.payload.isEmpty then serveArrival (enterRequests f s)
    else finish (countMisaddressed s)
  else finish (passDown f s)

/-! ### Arrivals downstream (R166, R169, R170) -/

/-- A frame from downstream to the own address: answers and reports go to the Order Scheduler, any other
kind is misaddressed (R169). -/
def takeOwn (f : Frame) (s : State) : State :=
  if f.kind = kindTransferAnswer then takeTransferAnswer f.src f.tag f.payload s
  else if f.kind = kindTransferReport then takeTransferReport f.src f.tag f.payload s
  else if f.kind = kindPhaseAnswer then takePhaseAnswer f.src f.tag f.payload s
  else countMisaddressed s

/-- The reading and the supply field of a LOAD READING that is not malformed (R165, R166). -/
def readingOf (f : Frame) : Option (Word16 × Bool) :=
  match f.payload with
  | [high, low, supply, _] =>
    (boolOfCode supply.toNat).map fun supply => (BitVec.ofNat 16 (beNat [high, low]), supply)
  | _ => none

/-- A frame from downstream that is not addressed to the part (R169): a sound reading of a mapped source
goes to Measurement Intake, any other frame upstream. -/
def passUp (f : Frame) (s : State) : State :=
  if f.kind = kindLoadReading then
    match s.mapped f.src, readingOf f with
    | some i, some (reading, supply) => takeReading i f reading supply s
    | _, _ => forwardUp f s
  else forwardUp f s

/-- The path of a frame that arrives downstream (R163, R169). -/
def classifyDown (f : Frame) (s : State) : State :=
  if Config.payloadRoom < f.payload.length then countBad .downstream s
  else if f.dest = s.ownAddress then takeOwn f s
  else passUp f s

/-- A good frame arrives downstream and is classified, in one event (R169). -/
def arriveDownstream (f : Frame) (s : State) : State := finish (classifyDown f s)

/-- A good frame arrives on a port. -/
def arrive (port : Port) (f : Frame) (s : State) : State :=
  match port with
  | .upstream => arriveUpstream f s
  | .downstream => arriveDownstream f s

/-- A whole frame comes in on a port and leaves its receiver HUNTING (R163; log 11). -/
def frameComes (port : Port) (f : Frame) (s : State) : State := arrive port f (setReceiver port .hunting s)

/-! ### Frames and characters as commands -/

/-- LOAD_READING (R28, R169, R170). -/
def execLoadReading (dest src tag : Byte) (reading : Word16) (supply interval : Byte) (s : State) :
    Host.Outcome State Fault Refusal :=
  .next (whileRunning
    (frameComes .downstream (goodFrame dest src kindLoadReading tag (be2 reading.toNat ++ [supply, interval]))) s)

/-- TRANSFER_ANSWER to the own address (R116, R117, R169). -/
def execTransferAnswer (src tag verdict reason : Byte) (s : State) : Host.Outcome State Fault Refusal :=
  .next (whileRunning
    (frameComes .downstream (goodFrame s.ownAddress src kindTransferAnswer tag [verdict, reason])) s)

/-- TRANSFER_REPORT to the own address (R116, R120, R169). -/
def execTransferReport (src tag outcome reason phaseNow : Byte) (s : State) : Host.Outcome State Fault Refusal :=
  .next (whileRunning
    (frameComes .downstream (goodFrame s.ownAddress src kindTransferReport tag [outcome, reason, phaseNow])) s)

/-- PHASE_ANSWER to the own address (R138, R169). -/
def execPhaseAnswer (src tag phaseNow supply : Byte) (s : State) : Host.Outcome State Fault Refusal :=
  .next (whileRunning
    (frameComes .downstream (goodFrame s.ownAddress src kindPhaseAnswer tag [phaseNow, supply])) s)

/-- FOREIGN_ORDER: a TRANSFER ORDER from upstream (R167, R168). -/
def execForeignOrder (dest src tag target : Byte) (execute : Word16) (gap : Byte) (s : State) :
    Host.Outcome State Fault Refusal :=
  .next (whileRunning
    (frameComes .upstream
      (goodFrame dest src kindTransferOrder tag (target :: be2 execute.toNat ++ [gap]))) s)

/-- UPSTREAM_FRAME_ARRIVAL (R167). -/
def execUpstreamFrameArrival (dest src kind tag : Byte) (payload : List Byte) (s : State) :
    Host.Outcome State Fault Refusal :=
  .next (whileRunning (frameComes .upstream (goodFrame dest src kind tag payload)) s)

/-- DOWNSTREAM_FRAME_ARRIVAL (R169). -/
def execDownstreamFrameArrival (dest src kind tag : Byte) (payload : List Byte) (s : State) :
    Host.Outcome State Fault Refusal :=
  .next (whileRunning (frameComes .downstream (goodFrame dest src kind tag payload)) s)

/-- A frame being received is lost: counted, and the receiver HUNTING (R163). -/
def loseFrame (port : Port) (s : State) : State := finish (countBad port (setReceiver port .hunting s))

/-- FRAME_DROPPED (R163). -/
def execFrameDropped (port : Port) (s : State) : Host.Outcome State Fault Refusal :=
  .next (whileRunning (loseFrame port) s)

/-- A reception in progress is abandoned on an idle line; a HUNTING receiver takes no notice (R163). -/
def abandon (port : Port) (s : State) : State :=
  match s.receiver port with
  | .receiving _ => loseFrame port s
  | .hunting => s

/-- RECEPTION_ABANDONED (R163). -/
def execReceptionAbandoned (port : Port) (s : State) : Host.Outcome State Fault Refusal :=
  .next (whileRunning (abandon port) s)

/-- One character at a port, with the arrival or the drop it brings about (R163). -/
def takeCharacter (port : Port) (char : Byte) (framingError : Bool) (s : State) : State :=
  let r := receive (s.receiver port) char framingError
  let s := setReceiver port r.1 s
  match r.2 with
  | .nothing => finish s
  | .dropped => finish (countBad port s)
  | .arrived f => arrive port f s

/-- CHARACTER_RECEIVED (R163). -/
def execCharacterReceived (port : Port) (char : Byte) (framingError : Bool) (s : State) :
    Host.Outcome State Fault Refusal :=
  .next (whileRunning (takeCharacter port char framingError) s)

/-! ### Ends of transmissions (R113, R135, R172, R176) -/

/-- The end of an order's transmission, when one is being sent (R113, R176). -/
def orderEnds (s : State) : State :=
  match s.ports.down.transmitter with
  | .busy .order _ => finish (orderSent (endDown s))
  | _ => s

/-- ORDER_TRANSMISSION_END (R113). -/
def execOrderTransmissionEnd (s : State) : Host.Outcome State Fault Refusal := .next (whileRunning orderEnds s)

/-- The end of a query's transmission, when one is being sent (R135, R176). -/
def queryEnds (s : State) : State :=
  match s.ports.down.transmitter with
  | .busy .query f => finish (querySent f.tag (endDown s))
  | _ => s

/-- QUERY_TRANSMISSION_END (R135). -/
def execQueryTransmissionEnd (s : State) : Host.Outcome State Fault Refusal := .next (whileRunning queryEnds s)

/-- Whether a source is one whose ends TRANSMISSION_END stands for: they have no hand-over (R176). -/
def Source.silentEnd : Source → Bool
  | .mark | .notice | .forward => true
  | .order | .query | .response => false

/-- The end of a CYCLE MARK, a notice or a forwarded frame, when one is being sent (R176). -/
def transmissionEnds (port : Port) (s : State) : State :=
  match port with
  | .downstream =>
    match s.ports.down.transmitter with
    | .busy source _ => if source.silentEnd then finish (endDown s) else s
    | .idle => s
  | .upstream =>
    match s.ports.up.transmitter with
    | .busy source _ => if source.silentEnd then finishServing (endUp s) else s
    | .idle => s

/-- TRANSMISSION_END (R176). -/
def execTransmissionEnd (port : Port) (s : State) : Host.Outcome State Fault Refusal :=
  .next (whileRunning (transmissionEnds port) s)

/-- Whether a response is the DONE response of a RESTART (R172, R197). -/
def restartDone (f : Frame) : Bool := f.payload.take 2 == [requestRestart, Result.done.code]

/-- The end of a response's transmission, when one is being sent (R172): the commanded restart after the
DONE response of the RESTART that is pending (R197, R204), the next grant otherwise. -/
def responseEnds (straps : Straps) (s : State) : State :=
  match s.ports.up.transmitter with
  | .busy .response f =>
    if s.management.restartPending && restartDone f then
      finish (startWith { noSources with commanded := true } straps s)
    else finishServing (endUp s)
  | _ => s

/-- RESPONSE_TRANSMISSION_END (R172, R197). -/
def execResponseTransmissionEnd (straps : Straps) (s : State) : Host.Outcome State Fault Refusal :=
  .next (whileRunning (responseEnds straps) s)

/-! ### Management requests as commands (R184, R188; log 8) -/

/-- A MANAGEMENT REQUEST to the own address arrives upstream. -/
def requestArrives (src tag : Byte) (payload : List Byte) (s : State) : State :=
  frameComes .upstream (goodFrame s.ownAddress src kindManagementRequest tag payload) s

/-- MANAGEMENT_REQUEST (R184). -/
def execManagementRequest (src tag : Byte) (payload : List Byte) (s : State) : Host.Outcome State Fault Refusal :=
  .next (whileRunning (requestArrives src tag payload) s)

/-- READ_STATUS (R189). -/
def execReadStatus (src tag : Byte) (args : List Byte) (s : State) : Host.Outcome State Fault Refusal :=
  .next (whileRunning (requestArrives src tag (requestReadStatus :: args)) s)

/-- READ_POLICY (R190). -/
def execReadPolicy (src tag : Byte) (args : List Byte) (s : State) : Host.Outcome State Fault Refusal :=
  .next (whileRunning (requestArrives src tag (requestReadPolicy :: args)) s)

/-- WRITE_POLICY (R191, R192). -/
def execWritePolicy (src tag : Byte) (args : List Byte) (s : State) : Host.Outcome State Fault Refusal :=
  .next (whileRunning (requestArrives src tag (requestWritePolicy :: args)) s)

/-- READ_SEGMENT (R7). -/
def execReadSegment (src tag : Byte) (args : List Byte) (s : State) : Host.Outcome State Fault Refusal :=
  .next (whileRunning (requestArrives src tag (requestReadSegment :: args)) s)

/-- WRITE_SEGMENT (R4, R5). -/
def execWriteSegment (src tag : Byte) (args : List Byte) (s : State) : Host.Outcome State Fault Refusal :=
  .next (whileRunning (requestArrives src tag (requestWriteSegment :: args)) s)

/-- READ_CONSUMER (R21). -/
def execReadConsumer (src tag : Byte) (args : List Byte) (s : State) : Host.Outcome State Fault Refusal :=
  .next (whileRunning (requestArrives src tag (requestReadConsumer :: args)) s)

/-- WRITE_CONSUMER (R16 to R19). -/
def execWriteConsumer (src tag : Byte) (args : List Byte) (s : State) : Host.Outcome State Fault Refusal :=
  .next (whileRunning (requestArrives src tag (requestWriteConsumer :: args)) s)

/-- CLEAR_CONSUMER (R20). -/
def execClearConsumer (src tag : Byte) (args : List Byte) (s : State) : Host.Outcome State Fault Refusal :=
  .next (whileRunning (requestArrives src tag (requestClearConsumer :: args)) s)

/-- READ_SUMS (R194). -/
def execReadSums (src tag : Byte) (args : List Byte) (s : State) : Host.Outcome State Fault Refusal :=
  .next (whileRunning (requestArrives src tag (requestReadSums :: args)) s)

/-- SET_LOCK (R23). -/
def execSetLock (src tag : Byte) (args : List Byte) (s : State) : Host.Outcome State Fault Refusal :=
  .next (whileRunning (requestArrives src tag (requestSetLock :: args)) s)

/-- CLEAR_FAULT (R143). -/
def execClearFault (src tag : Byte) (args : List Byte) (s : State) : Host.Outcome State Fault Refusal :=
  .next (whileRunning (requestArrives src tag (requestClearFault :: args)) s)

/-- MANUAL_MOVE (R126). -/
def execManualMove (src tag : Byte) (args : List Byte) (s : State) : Host.Outcome State Fault Refusal :=
  .next (whileRunning (requestArrives src tag (requestManualMove :: args)) s)

/-- CANCEL_MOVES (R127). -/
def execCancelMoves (src tag : Byte) (args : List Byte) (s : State) : Host.Outcome State Fault Refusal :=
  .next (whileRunning (requestArrives src tag (requestCancelMoves :: args)) s)

/-- READ_SCHEDULE (R195). -/
def execReadSchedule (src tag : Byte) (args : List Byte) (s : State) : Host.Outcome State Fault Refusal :=
  .next (whileRunning (requestArrives src tag (requestReadSchedule :: args)) s)

/-- RESTART (R197). -/
def execRestart (src tag : Byte) (args : List Byte) (s : State) : Host.Outcome State Fault Refusal :=
  .next (whileRunning (requestArrives src tag (requestRestart :: args)) s)

/-- BALANCER_CONTROL_OTHER_ACTION (R79). -/
def execBalancerControlOtherAction (src tag : Byte) (args : List Byte) (s : State) : Host.Outcome State Fault Refusal :=
  .next (whileRunning (requestArrives src tag (requestBalancerControl :: args)) s)

/-- BALANCER_CONTROL_START: action 1 (R79). -/
def execBalancerControlStart (src tag : Byte) (s : State) : Host.Outcome State Fault Refusal :=
  .next (whileRunning (requestArrives src tag [requestBalancerControl, 1]) s)

/-- BALANCER_CONTROL_HOLD: action 2 (R79). -/
def execBalancerControlHold (src tag : Byte) (s : State) : Host.Outcome State Fault Refusal :=
  .next (whileRunning (requestArrives src tag [requestBalancerControl, 2]) s)

/-- BALANCER_CONTROL_STOP: action 3 (R79). -/
def execBalancerControlStop (src tag : Byte) (s : State) : Host.Outcome State Fault Refusal :=
  .next (whileRunning (requestArrives src tag [requestBalancerControl, 3]) s)

/-- UNKNOWN_KIND: a request of another kind (R187). -/
def execUnknownKind (src tag kind : Byte) (args : List Byte) (s : State) : Host.Outcome State Fault Refusal :=
  .next (whileRunning (requestArrives src tag (kind :: args)) s)

end Sys2Proof.Machine
end

