-- ==== Sys2Proof/Machine/Dispatch.lean ====
section
/-!
DEFINITION. The dispatch: one meaning for each command.
-/

namespace Sys2Proof.Machine

/-- What a command does to everything but the queue of waiting commands. -/
def exec (i : Instr) (s : State) : Host.Outcome State Fault Refusal :=
  match i with
  | .resetLineLow => Sys2Proof.Machine.execResetLineLow s
  | .supplyBelowThreshold belowPowerOn => Sys2Proof.Machine.execSupplyBelowThreshold belowPowerOn s
  | .start straps => Sys2Proof.Machine.execStart straps s
  | .zeroCrossingEdge line elapsed sag => Sys2Proof.Machine.execZeroCrossingEdge line elapsed sag s
  | .syntheticCycleEnd => Sys2Proof.Machine.execSyntheticCycleEnd s
  | .flywheelLimitReached => Sys2Proof.Machine.execFlywheelLimitReached s
  | .failover => Sys2Proof.Machine.execFailover s
  | .cycleMarkDue => Sys2Proof.Machine.execCycleMarkDue s
  | .sagSample sag => Sys2Proof.Machine.execSagSample sag s
  | .filteredSagLevelChange phase => Sys2Proof.Machine.execFilteredSagLevelChange phase s
  | .crossingPresenceChange phase => Sys2Proof.Machine.execCrossingPresenceChange phase s
  | .sagDelay phase => Sys2Proof.Machine.execSagDelay phase s
  | .holdComplete phase => Sys2Proof.Machine.execHoldComplete phase s
  | .loadReading dest src tag reading supply interval => Sys2Proof.Machine.execLoadReading dest src tag reading supply interval s
  | .windowClose => Sys2Proof.Machine.execWindowClose s
  | .foldOfRecord => Sys2Proof.Machine.execFoldOfRecord s
  | .foldCompletion => Sys2Proof.Machine.execFoldCompletion s
  | .budgetPeriodEnd => Sys2Proof.Machine.execBudgetPeriodEnd s
  | .passTrigger => Sys2Proof.Machine.execPassTrigger s
  | .search => Sys2Proof.Machine.execSearch s
  | .passCompletion => Sys2Proof.Machine.execPassCompletion s
  | .orderTransmissionEnd => Sys2Proof.Machine.execOrderTransmissionEnd s
  | .withdrawal => Sys2Proof.Machine.execWithdrawal s
  | .replyDeadline => Sys2Proof.Machine.execReplyDeadline s
  | .reportDeadline => Sys2Proof.Machine.execReportDeadline s
  | .latestExecuteCycleExpiry => Sys2Proof.Machine.execLatestExecuteCycleExpiry s
  | .transferAnswer src tag verdict reason => Sys2Proof.Machine.execTransferAnswer src tag verdict reason s
  | .transferReport src tag outcome reason phaseNow => Sys2Proof.Machine.execTransferReport src tag outcome reason phaseNow s
  | .queryTransmissionEnd => Sys2Proof.Machine.execQueryTransmissionEnd s
  | .queryDeadline => Sys2Proof.Machine.execQueryDeadline s
  | .phaseAnswer src tag phaseNow supply => Sys2Proof.Machine.execPhaseAnswer src tag phaseNow supply s
  | .managementRequest src tag payload => Sys2Proof.Machine.execManagementRequest src tag payload s
  | .foreignOrder dest src tag target execute gap => Sys2Proof.Machine.execForeignOrder dest src tag target execute gap s
  | .upstreamFrameArrival dest src kind tag payload => Sys2Proof.Machine.execUpstreamFrameArrival dest src kind tag payload s
  | .downstreamFrameArrival dest src kind tag payload => Sys2Proof.Machine.execDownstreamFrameArrival dest src kind tag payload s
  | .frameDropped port => Sys2Proof.Machine.execFrameDropped port s
  | .receptionAbandoned port => Sys2Proof.Machine.execReceptionAbandoned port s
  | .transmissionEnd port => Sys2Proof.Machine.execTransmissionEnd port s
  | .responseTransmissionEnd straps => Sys2Proof.Machine.execResponseTransmissionEnd straps s
  | .readStatus src tag args => Sys2Proof.Machine.execReadStatus src tag args s
  | .readPolicy src tag args => Sys2Proof.Machine.execReadPolicy src tag args s
  | .writePolicy src tag args => Sys2Proof.Machine.execWritePolicy src tag args s
  | .readSegment src tag args => Sys2Proof.Machine.execReadSegment src tag args s
  | .writeSegment src tag args => Sys2Proof.Machine.execWriteSegment src tag args s
  | .readConsumer src tag args => Sys2Proof.Machine.execReadConsumer src tag args s
  | .writeConsumer src tag args => Sys2Proof.Machine.execWriteConsumer src tag args s
  | .clearConsumer src tag args => Sys2Proof.Machine.execClearConsumer src tag args s
  | .readSums src tag args => Sys2Proof.Machine.execReadSums src tag args s
  | .setLock src tag args => Sys2Proof.Machine.execSetLock src tag args s
  | .clearFault src tag args => Sys2Proof.Machine.execClearFault src tag args s
  | .manualMove src tag args => Sys2Proof.Machine.execManualMove src tag args s
  | .cancelMoves src tag args => Sys2Proof.Machine.execCancelMoves src tag args s
  | .balancerControlStart src tag => Sys2Proof.Machine.execBalancerControlStart src tag s
  | .balancerControlHold src tag => Sys2Proof.Machine.execBalancerControlHold src tag s
  | .balancerControlStop src tag => Sys2Proof.Machine.execBalancerControlStop src tag s
  | .readSchedule src tag args => Sys2Proof.Machine.execReadSchedule src tag args s
  | .restart src tag args => Sys2Proof.Machine.execRestart src tag args s
  | .unknownKind src tag kind args => Sys2Proof.Machine.execUnknownKind src tag kind args s
  | .characterReceived port char framingError => Sys2Proof.Machine.execCharacterReceived port char framingError s
  | .balancerControlOtherAction src tag args => Sys2Proof.Machine.execBalancerControlOtherAction src tag args s

end Sys2Proof.Machine
end

