-- ==== Sys2Proof/Safety.lean ====
section
/-!
DEFINITION. What the spec says holds of the part between two events, in the terms the statements use; and
what the end of an event leaves alone.
-/

namespace Sys2Proof.Machine

/-! ### Sizes and ranges -/

/-- The Feeder Tables hold 16 segment records in each copy, 16 marks, 240 consumer records and a place for
each link address (R1, R4, R9, R15). -/
def FeederTables.Sized (t : FeederTables) : Prop :=
  t.active.length = Config.segments ∧ t.shadow.length = Config.segments ∧ t.marks.length = Config.segments
    ∧ t.consumers.length = Config.consumers ∧ t.addressMap.length = Config.addresses

/-- A policy whose fields lie in the ranges of R193, as WRITE POLICY stores it (R191). -/
def Policy.InRange (p : Policy) : Prop :=
  clampPolicy p = p ∧ filterDefined p.sagFilter = true ∧ p.mask &&& maskBits = p.mask

/-- The queues hold no more than their room (R101, R131, R171, R172, R179, R183). -/
def State.QueuesFit (s : State) : Prop :=
  s.scheduler.schedule.length ≤ Config.scheduleRoom ∧ s.scheduler.queries.length ≤ Config.queryRoom
    ∧ s.ports.up.forward.length ≤ Config.upForwardRoom ∧ s.ports.down.forward.length ≤ Config.downForwardRoom
    ∧ s.ports.notices.length ≤ Config.noticeRoom ∧ s.ports.responses.length ≤ Config.responseRoom
    ∧ s.management.requests.length ≤ Config.requestRoom

/-- The counts stay within their limits (R27, R41, R46, R108, R146, R173, R179, R180). -/
def State.CountsFit (s : State) : Prop :=
  (∀ n ∈ counterList s.ports.counters, n ≤ Config.counterTop) ∧ s.ports.lostNotices ≤ 255
    ∧ s.ports.up.burst ≤ 16 ∧ s.ports.down.burst ≤ 16
    ∧ s.rescue.rescued ≤ 255 ∧ s.rescue.unrescuable ≤ 255 ∧ s.rescue.restored ≤ 255
    ∧ 1 ≤ s.balancer.remaining ∧ s.balancer.remaining ≤ s.management.active.passDivider
    ∧ s.intake.windowCounter ≤ 255 ∧ s.timebase.markCounter ≤ 255 ∧ s.scheduler.tagCounter ≠ 0

/-- Every table, queue and count has the size the spec gives it, and both policies are in range. -/
def State.Bounded (s : State) : Prop :=
  s.tables.Sized ∧ s.balancer.sums.length = Config.segments ∧ s.management.active.InRange
    ∧ s.management.shadow.InRange ∧ s.QueuesFit ∧ s.CountsFit

/-! ### The segment tree and the Address Map -/

/-- The segment tree rule (R2), with absent parents and field ranges as R1 gives them: segment 0 is valid
without a parent, every other valid segment has a valid parent of lower index. -/
def TreeRule (t : List Segment) : Prop :=
  t.length = Config.segments
    ∧ (segmentAt t 0).valid = true
    ∧ ∀ i < Config.segments,
        (segmentAt t i).weight ≤ 15 ∧ (segmentAt t i).limit ≤ Config.noLimit
          ∧ match (segmentAt t i).parent with
            | none => i = 0 ∨ (segmentAt t i).valid = false
            | some p => p < i ∧ (segmentAt t i).valid = true ∧ (segmentAt t p).valid = true

/-- Both copies of the Segment Table keep to the tree rule (R2). -/
def State.TreesRight (s : State) : Prop := TreeRule s.tables.active ∧ TreeRule s.tables.shadow

/-- The Address Map names exactly the records that are not VACANT, whose addresses lie in 1..239 (R15). -/
def State.MapRight (s : State) : Prop :=
  (∀ i < Config.consumers, ∀ r, s.record i = some r →
      1 ≤ r.address.toNat ∧ r.address.toNat ≤ 239 ∧ s.mapped r.address = some i)
    ∧ ∀ a i, s.mapped a = some i → i < Config.consumers ∧ ∃ r, s.record i = some r ∧ r.address = a

/-! ### The Sum Table -/

/-- The Stable loads of the contributing records whose path passes a segment, on one projected phase. -/
def State.subtreeSum (s : State) (segment : Nat) (p : Phase) : Int :=
  ((s.contributions.filter fun c =>
    c.phase == p && (segmentPath s.tables.active c.segment).contains segment).map Contribution.load).sum

/-- Every entry of the Sum Table is the sum over its segment's subtree (R85); 0 for a segment that is not
valid, which no path passes (R84). -/
def State.SumsRight (s : State) : Prop :=
  ∀ i < Config.segments, ∀ p, sumAt s.balancer.sums i p = s.subtreeSum i p

/-! ### The exchanges -/

/-- The state of the record that an entry names, by the entry's stage (R103). -/
def Stage.recordState : Stage → RecordState
  | .accepted => .accepted
  | .queued _ | .sent | .unconfirmed => .ordered

/-- A record is ORDERED or ACCEPTED exactly when one Move Schedule entry names it, by the entry's stage,
and the entry's from phase is its assigned phase (R102, R103). -/
def State.ScheduleRight (s : State) : Prop :=
  (s.scheduler.schedule.map MoveEntry.consumer).Nodup
    ∧ (∀ e ∈ s.scheduler.schedule,
        ∃ r, s.record e.consumer = some r ∧ r.state = e.stage.recordState ∧ r.assigned = e.fromPhase)
    ∧ ∀ i r, s.record i = some r → r.state.moving = true → ∃ e ∈ s.scheduler.schedule, e.consumer = i

/-- A latest execute cycle that is present is ahead of now, and by at most 2,040 (R106, R107). -/
def State.LatestRight (s : State) : Prop :=
  ∀ x, s.scheduler.latestExecute = some x → ahead x s.now = true ∧ aheadBy x s.now ≤ Config.scheduleReach

/-- A record is in the query queue exactly while its query stage is QUEUED, no record twice, and only the
head can be in transmission (R131). -/
def State.QueriesRight (s : State) : Prop :=
  (s.scheduler.queries.map QueryEntry.consumer).Nodup
    ∧ (∀ e ∈ s.scheduler.queries,
        ∃ r q, s.record e.consumer = some r ∧ r.state.query = some q ∧ q.stage = .queued)
    ∧ (∀ i r q, s.record i = some r → r.state.query = some q → q.stage = .queued →
        ∃ e ∈ s.scheduler.queries, e.consumer = i)
    ∧ ∀ e ∈ s.scheduler.queries.tail, e.inTransmission = false

/-- The rescue list holds no record twice and only unlocked records in a drawable state whose projected
phase is LOST (R146, R148); a loss event is open exactly while rescue is active (R148, R157). -/
def State.RescueRight (s : State) : Prop :=
  s.rescue.list.Nodup
    ∧ (∀ i ∈ s.rescue.list,
        ∃ r, s.record i = some r ∧ r.lock = false ∧ r.state.drawable = true ∧ s.isLost (s.projectedOf i r) = true)
    ∧ (s.rescue.event.isSome = true ↔ s.rescueActive = true)

/-! ### Phases and cycles -/

/-- What a condition says of its phase (R69): HEALTHY and RECOVERING are crossing and above the threshold,
SAG is crossing and below it. -/
def PhaseWatch.Graded (w : PhaseWatch) : Prop :=
  match w.condition with
  | .healthy | .recovering _ => w.present = true ∧ w.sagActive = false
  | .sag _ => w.present = true ∧ w.sagActive = true
  | .lost => True

/-- Every phase is graded as its crossings and its filtered sag level say, with its runs in range (R64, R69). -/
def State.PhasesRight (s : State) : Prop :=
  ∀ p, (s.watch p).Graded ∧ (s.watch p).absenceRun ≤ 3 ∧ (s.watch p).presenceRun ≤ 3

/-- The active period lies between the limits and the tick counter below the late limit (R50, R51), the
runs stay in range (R46), and SYNCED stands on 4 accepted crossings with none missed since (R55). -/
def State.TimebaseRight (s : State) : Prop :=
  s.earlyLimit ≤ s.timebase.activePeriod ∧ s.timebase.activePeriod < s.lateLimit
    ∧ s.timebase.tickCounter < s.lateLimit
    ∧ s.timebase.acceptedRun ≤ 4 ∧ s.timebase.syntheticRun ≤ 255 ∧ s.timebase.referenceRun ≤ 1
    ∧ (s.timebase.sync = .synced →
        s.timebase.acceptedRun = 4 ∧ s.timebase.syntheticRun = 0 ∧ s.timebase.referenceRun = 0
          ∧ s.timebase.reanchorPending = false)

/-! ### Loads -/

/-- A bank of at most 255 clamped samples (R27, R30). -/
def Bank.InRange (b : Bank) : Prop := b.count ≤ 255 ∧ b.sum.natAbs ≤ 2000 * b.count

/-- Every record keeps its fields in the ranges of R9, with its assigned phase in its allowed set (R13), its
loads within -2000..+2000 (R27, R42, R86) and its rescue attempts at most 2, at most 1 while it waits in the
rescue list (R146, R152). -/
def State.RecordsRight (s : State) : Prop :=
  ∀ i r, s.record i = some r →
    r.segment < Config.segments ∧ r.allowed.get r.assigned = true ∧ r.priority ≤ 3 ∧ r.moveCount ≤ 15
      ∧ r.fresh.natAbs ≤ 2000 ∧ r.stable.natAbs ≤ 2000 ∧ r.firstBank.InRange ∧ r.secondBank.InRange
      ∧ r.silence ≤ 255 ∧ r.forward ≤ 7
      ∧ ∀ m, r.rescue = some m → m.attempts ≤ 2 ∧ (i ∈ s.rescue.list → m.attempts ≤ 1)

/-- The target of every move, scheduled or chosen by a pass, differs from its from phase, and the target of
a scheduled one is in its record's allowed set (R102, R109); so are the targets a pass may choose (R90). -/
def State.TargetsRight (s : State) : Prop :=
  (∀ e ∈ s.scheduler.schedule,
      e.target ≠ e.fromPhase ∧ ∃ r, s.record e.consumer = some r ∧ r.allowed.get e.target = true)
    ∧ ∀ pass, s.balancer.state = .evaluating pass →
      (∀ c ∈ pass.candidates, c.targets.get c.fromPhase = false)
        ∧ ∀ m ∈ pass.results, m.target ≠ m.fromPhase

/-! ### Requests -/

/-- A MANAGEMENT REQUEST that arrives now is executed in its arrival event (R185). -/
def State.TakesRequests (s : State) : Prop :=
  s.hold = none ∧ s.management.requests = [] ∧ s.management.restartPending = false
    ∧ s.ports.responses.length < Config.responseRoom

/-- A request to the own address has come in upstream and its response is placed in the response queue,
from the own address to the request's source with its tag (R172, R186). -/
def State.answered (s : State) (src tag : Byte) (payload : List Byte) : State :=
  { s with
    ports.up.receiver := .hunting
    ports.responses := s.ports.responses ++ [goodFrame src s.ownAddress kindManagementResponse tag payload] }

/-- The condition of a phase after its filtered sag level has become `level` (R70). -/
def PhaseWatch.conditionOnLevel (w : PhaseWatch) (level : Bool) : Condition :=
  match w.condition, level with
  | .healthy, true => .sag 0
  | .recovering _, true => .lost
  | .sag _, false => .healthy
  | .lost, false => if w.present then .recovering 0 else .lost
  | c, _ => c

/-! ### What a cycle end counts -/

/-- What a cycle end counts outside the Timebase's own runs: the budget period and its end (R24), the window with
its close or the postponement of it (R32, R33, R34), and the cycle marks (R59, R60). -/
structure State.CountsCycleEnd (s t : State) : Prop where
  budget : t.tables.budgetCounter
    = if s.management.active.budgetPeriod ≤ s.tables.budgetCounter + 1 then 0 else s.tables.budgetCounter + 1
  moves : ∀ i, (t.record i).map Consumer.moveCount = (s.record i).map fun r =>
    if s.management.active.budgetPeriod ≤ s.tables.budgetCounter + 1 then 0 else r.moveCount
  lastMoves : ∀ i, (t.record i).map Consumer.lastMove = (s.record i).map Consumer.lastMove
  close : s.intake.fold = .idle → s.management.active.window ≤ s.intake.windowCounter + 1 →
    t.intake = ⟨!s.intake.secondOpen, 0, .folding 0 s.management.active.shift s.management.active.silenceLimit⟩
  noClose : s.intake.fold ≠ .idle ∨ s.intake.windowCounter + 1 < s.management.active.window →
    t.intake = { s.intake with
      windowCounter :=
        if s.intake.windowCounter < s.management.active.window then s.intake.windowCounter + 1
        else s.intake.windowCounter }
  markCounter : t.timebase.markCounter
    = if s.management.active.markInterval ≤ s.timebase.markCounter + 1 then 0 else s.timebase.markCounter + 1
  markDue : s.management.active.markInterval ≤ s.timebase.markCounter + 1 → t.timebase.markWaiting = true
  noMark : s.timebase.markCounter + 1 < s.management.active.markInterval → s.timebase.markWaiting = false →
    t.timebase.markWaiting = false

/-- The presence update of a phase at a cycle end (R68): its runs by whether an edge was seen, its crossing
presence by its runs, and edge seen set to no. -/
def PhaseWatch.counted (w : PhaseWatch) : PhaseWatch :=
  let absence := if w.edgeSeen then 0 else if w.absenceRun < 3 then w.absenceRun + 1 else w.absenceRun
  let presence := if w.edgeSeen then if w.presenceRun < 3 then w.presenceRun + 1 else w.presenceRun else 0
  { w with
    edgeSeen := false, absenceRun := absence, presenceRun := presence
    present := if w.present then decide (absence ≠ 3) else decide (presence = 3) }

/-- The condition of a phase, its presence updated, after a cycle end by itself (R70, R71), under a sag-to-lost
delay and a recovery hold. -/
def PhaseWatch.conditionAtCycleEnd (delay hold : Nat) (w : PhaseWatch) : Condition :=
  if w.present then
    match w.condition with
    | .healthy => .healthy
    | .sag n => if delay ≤ n + 1 then .lost else .sag (n + 1)
    | .lost => if w.sagActive then .lost else .recovering 0
    | .recovering n => if w.sagActive then .recovering n else if hold ≤ n + 1 then .healthy else .recovering (n + 1)
  else .lost

/-- What a cycle end makes of a phase when no sample is taken in its event (R68, R70, R71). -/
def State.watchAtCycleEnd (s : State) (w : PhaseWatch) : PhaseWatch :=
  { w.counted with
    condition := w.counted.conditionAtCycleEnd s.management.active.sagDelay s.management.active.recoveryHold }

/-- Two phases with the same edge seen, runs and crossing presence. -/
def PhaseWatch.SameRuns (w x : PhaseWatch) : Prop :=
  w.edgeSeen = x.edgeSeen ∧ w.absenceRun = x.absenceRun ∧ w.presenceRun = x.presenceRun ∧ w.present = x.present

/-- What a cycle end that an edge on a line makes counts for the phases (R68): the edge itself counts once, for the
cycle that ends or for the one that begins. `Same` says how far a phase is compared. -/
def State.CountsPhases (line : Phase) (Same : Phase → PhaseWatch → PhaseWatch → Prop) (s t : State) : Prop :=
  (∀ p, p ≠ line → Same p (t.watch p) (s.watchAtCycleEnd (s.watch p)))
    ∧ (Same line (t.watch line) (s.watchAtCycleEnd { s.watch line with edgeSeen := true })
      ∨ Same line (t.watch line) { s.watchAtCycleEnd (s.watch line) with edgeSeen := true })

/-! ### What the end of an event leaves alone -/

/-- A record with its state and its rescue attempts set aside: what draws, fills and grants never write. -/
def Consumer.core (r : Consumer) : Consumer := { r with state := .settled, rescue := none }

/-- Two states that differ only in what draws, the query fill, withdrawals and grants may write: the
states and rescue attempts of records, the Sum Table, the schedule and the query queue, the Rescue Unit,
the transmitters with the queues they serve, the notices, and the waiting mark. -/
structure State.KeepsRest (s t : State) : Prop where
  active : t.tables.active = s.tables.active
  shadow : t.tables.shadow = s.tables.shadow
  marks : t.tables.marks = s.tables.marks
  addressMap : t.tables.addressMap = s.tables.addressMap
  budgetCounter : t.tables.budgetCounter = s.tables.budgetCounter
  records : ∀ i, (t.record i).map Consumer.core = (s.record i).map Consumer.core
  intake : t.intake = s.intake
  timebase : { t.timebase with markWaiting := s.timebase.markWaiting } = s.timebase
  supervision : t.supervision = s.supervision
  balancerState : t.balancer.state = s.balancer.state
  remaining : t.balancer.remaining = s.balancer.remaining
  upReceiver : t.ports.up.receiver = s.ports.up.receiver
  downReceiver : t.ports.down.receiver = s.ports.down.receiver
  counters : t.ports.counters = s.ports.counters
  management : t.management = s.management
  straps : t.straps = s.straps
  hold : t.hold = s.hold
  order : t.order = s.order
  drawn : t.drawn = s.drawn
  pending : t.pending = s.pending

end Sys2Proof.Machine
end

