-- ==== Sys2Proof/Certificates/Slice0/Obligations.lean ====
section
/-!
DEFINITION. The statements for the provers. An event of the part ends in `finish` (the draws, the query
fill and the grants that its body made due), so a statement of one event gives the state its body leaves.
-/

open Sys2Proof Sys2Proof.Machine

/-! ### The machine and its starts -/

/-- A step with a command at the front of the queue is `exec` of it on the state with the queue's rest. -/
def Obligations.StepTakesTheFrontCommand : Prop :=
  ∀ (c : Instr) (rest : List Instr) (s : State),
    step { s with pending := c :: rest } = exec c { s with pending := rest }

/-- How ticks pass. DESIGN CHOICE (log 1): a step on an empty queue is one tick, and an edge comes after
the ticks that its command says have passed. -/
def Obligations.TimeRunsByTicks : Prop :=
  (∀ s : State, s.pending = [] → s.hold ≠ none → step s = .next s)
    ∧ (∀ s : State, s.pending = [] → s.hold = none → s.timebase.tickCounter + 1 < s.lateLimit →
        (∀ point, s.timebase.nextSample = some point → s.timebase.tickCounter + 1 < point) →
        step s = .next { s with timebase.tickCounter := s.timebase.tickCounter + 1 })
    ∧ ∀ (line : Phase) (n : Nat) (sag : PhaseSet) (s : State), s.hold = none →
        exec (.zeroCrossingEdge line n sag) s = exec (.zeroCrossingEdge line 0 sag) (advance n s)

/-- While the part is held in reset every block is stopped (R201): no command but the reset line, the
supply and the end of the hold does anything (log 4). -/
def Obligations.HeldPartIsStopped : Prop :=
  ∀ (c : Instr) (s : State), s.hold ≠ none → c ≠ .resetLineLow → (∀ b, c ≠ .supplyBelowThreshold b) →
    (∀ straps, c ≠ .start straps) → exec c s = .next s

/-- What the reset line and the supply do (R201): the source is recorded, both transmitters and receivers
are quiet, the select lines are low, and everything else is held as it is. That a fall of the supply records one
source, and the quiet of the ports during the hold, are the model's reading (log 16, log 18). -/
def Obligations.ResetLineAndSupplyHold : Prop :=
  ∀ s : State,
    (exec .resetLineLow s = .next
      { s with
        hold := some { s.hold.getD ⟨false, false, false, false⟩ with resetLine := true }
        ports.up.transmitter := .idle, ports.up.receiver := .hunting
        ports.down.transmitter := .idle, ports.down.receiver := .hunting
        supervision.sla := false, supervision.slb := false })
      ∧ (exec (.supplyBelowThreshold false) s = .next
        { s with
          hold := some { s.hold.getD ⟨false, false, false, false⟩ with supplyDip := true }
          ports.up.transmitter := .idle, ports.up.receiver := .hunting
          ports.down.transmitter := .idle, ports.down.receiver := .hunting
          supervision.sla := false, supervision.slb := false })
      ∧ exec (.supplyBelowThreshold true) s = .next
        { s with
          hold := some { s.hold.getD ⟨false, false, false, false⟩ with powerOn := true }
          ports.up.transmitter := .idle, ports.up.receiver := .hunting
          ports.down.transmitter := .idle, ports.down.receiver := .hunting
          supervision.sla := false, supervision.slb := false }

/-- What every start, cold or warm, sets (R63, R76, R104, R160, R182, R199, R202): the start values of the
blocks, the start record, the START notice being sent upstream, and the tag counter at 1, which the first query,
granted in the start event, takes to 2 (R104, R134, R145). -/
def Obligations.StartTakesItsValues : Prop :=
  ∀ (straps : Straps) (sources : ResetSources) (s : State), s.hold = some sources →
    ∃ t, exec (.start straps) s = .next t
      ∧ t.hold = none ∧ t.straps = straps
      ∧ t.timebase = ⟨0, Config.nominalPeriod straps.mains60, 0, .l1, .unsynced, true, 0, 0, 0, 0, false⟩
      ∧ t.intake = ⟨false, 0, .idle⟩
      ∧ (∀ p, t.watch p = ⟨.recovering 0, false, 0, false, true, 0, 0⟩)
      ∧ (t.supervision.sla = true ↔ t.management.active.sagLevel = 1 ∨ t.management.active.sagLevel = 3)
      ∧ (t.supervision.slb = true ↔ t.management.active.sagLevel = 2 ∨ t.management.active.sagLevel = 3)
      ∧ t.balancer.remaining = t.management.active.passDivider
      ∧ t.scheduler.schedule = [] ∧ t.scheduler.latestExecute = none
      ∧ t.rescue = ⟨none, 0, 0, 0, []⟩
      ∧ t.ports.up.receiver = .hunting ∧ t.ports.down.receiver = .hunting
      ∧ t.ports.up.forward = [] ∧ t.ports.down.forward = []
      ∧ t.ports.up.burst = 0 ∧ t.ports.down.burst = 0
      ∧ (t.scheduler.queries = [] → t.scheduler.tagCounter = 1 ∧ t.ports.down.transmitter = .idle)
      ∧ (∀ e rest, t.scheduler.queries = e :: rest →
        e.inTransmission = true ∧ (∀ x ∈ rest, x.inTransmission = false) ∧ t.scheduler.tagCounter = 2
          ∧ t.ports.down.transmitter
            = .busy .query (goodFrame (t.addressOf e.consumer) (Config.ownAddress straps) 0x34 1 []))
      ∧ t.ports.responses = [] ∧ t.ports.notices = [] ∧ t.ports.lostNotices = 0
      ∧ t.ports.counters = ⟨0, 0, 0, 0, 0, 0, 0, 0, 0, 0, 0, 0⟩
      ∧ t.ports.up.transmitter = .busy .notice
          (goodFrame 255 (Config.ownAddress straps) 0x58 0 [1, 0, 0, 0, startRecordByte t.management.startRecord])
      ∧ t.management.requests = [] ∧ t.management.restartPending = false
      ∧ t.management.shadow = t.management.active ∧ t.management.policyPending = false
      ∧ t.management.startRecord = ⟨sources, sources.powerOn || sources.supplyDip⟩
      ∧ t.tables.shadow = t.tables.active ∧ t.tables.marks = List.replicate 16 false
      ∧ t.tables.budgetCounter = 0

/-- What a cold start loads (R8, R25, R99, R193) and what a warm start keeps and forgets (R8, R26, R100,
R145): the records return to UNVERIFIED, a FAULTED one stays so with its own fault reason, the first 8 enter the query queue, and the
Sum Table is rebuilt. -/
def Obligations.StartLoadsOrKeepsTheTables : Prop :=
  ∀ (straps : Straps) (sources : ResetSources) (s : State), s.hold = some sources →
    ((sources.powerOn = true ∨ sources.supplyDip = true) →
      ∃ t, exec (.start straps) s = .next t
        ∧ t.tables.active = ⟨true, none, 1, 65535⟩ :: List.replicate 15 ⟨false, none, 0, 65535⟩
        ∧ t.tables.consumers = List.replicate 240 none ∧ t.tables.addressMap = List.replicate 256 none
        ∧ t.management.active = Policy.cold ∧ t.scheduler.queries = []
        ∧ t.balancer = ⟨.stopped, 6, List.replicate 16 ⟨0, 0, 0⟩⟩)
      ∧ (sources.powerOn = false → sources.supplyDip = false →
        ∃ t, exec (.start straps) s = .next t
          ∧ t.tables.active = s.tables.active ∧ t.tables.addressMap = s.tables.addressMap
          ∧ t.management.active = s.management.active
          ∧ t.balancer.state = (if s.management.active.autoResume then .idle else .stopped)
          ∧ t.scheduler.queries.map QueryEntry.consumer
            = (s.indicesWhere fun i _ => !s.isFaulted i).take 8
          ∧ (∀ i, (t.record i).map Consumer.core
            = (s.record i).map fun r =>
                { r with
                  state := .settled, rescue := none, lastMove := none, silence := 0, forward := 0
                  firstBank := ⟨0, 0, false⟩, secondBank := ⟨0, 0, false⟩ })
          ∧ (∀ i r, t.record i = some r → r.rescue = none
              ∧ ((∃ reason, r.state = .faulted reason ∧ (s.record i).map Consumer.state = some (.faulted reason))
                ∨ ∃ q, r.state = .unverified q ∧ s.isFaulted i = false
                    ∧ q.tries = s.management.active.queryTries ∧ (q.stage = .waiting ∨ q.stage = .queued)))
          ∧ (TreeRule s.tables.active → t.SumsRight))

/-- The end of the DONE response of a pending RESTART is a start from the commanded restart alone, with no
hold before it (R197, R201, R204); the straps are those of the event (log 14). -/
def Obligations.CommandedRestartIsAWarmStart : Prop :=
  ∀ (straps : Straps) (f : Frame) (s : State), s.hold = none → s.ports.up.transmitter = .busy .response f →
    s.management.restartPending = true → f.payload.take 2 = [0x10, 0] →
    exec (.responseTransmissionEnd straps) s
      = exec (.start straps) { s with hold := some ⟨false, false, false, true⟩ }

/-- A power-on start with every strap low gives the state after reset. The straps and the sag inputs of that
state are the model's (log 5, log 6); and the state after reset meets every invariant stated below. -/
def Obligations.ResetIsAColdStartAndMeetsTheInvariants : Prop :=
  exec (.start ⟨0, false, 0⟩) { State.reset with hold := some ⟨true, false, false, false⟩ } = .next State.reset
    ∧ State.reset.Bounded ∧ State.reset.TreesRight ∧ State.reset.MapRight ∧ State.reset.ScheduleRight
    ∧ State.reset.QueriesRight ∧ State.reset.SumsRight ∧ State.reset.RescueRight ∧ State.reset.PhasesRight
    ∧ State.reset.TimebaseRight ∧ State.reset.RecordsRight ∧ State.reset.TargetsRight
    ∧ State.reset.LatestRight

/-! ### The Mains Timebase -/

/-- The nominal period and the limits by the mains strap (R47), read at a start and held until the next. -/
def Obligations.MainsStrapSetsTheLimits : Prop :=
  Config.nominalPeriod false = 20000 ∧ Config.earlyLimit false = 18750 ∧ Config.lateLimit false = 21250
    ∧ Config.nominalPeriod true = 16667 ∧ Config.earlyLimit true = 15626 ∧ Config.lateLimit true = 17708
    ∧ (∀ (straps : Straps) (s t : State), s.hold ≠ none → exec (.start straps) s = .next t →
        t.earlyLimit = Config.earlyLimit straps.mains60 ∧ t.lateLimit = Config.lateLimit straps.mains60)
    ∧ ∀ (c : Instr) (s t : State), (∀ x, c ≠ .start x) → (∀ x, c ≠ .responseTransmissionEnd x) →
        exec c s = .next t → t.earlyLimit = s.earlyLimit ∧ t.lateLimit = s.lateLimit

/-- How an edge is judged (R50, R51, R53, R54, R55, R68): below the early limit on the reference line a glitch;
on another line for Phase Supervision only; a crossing accepted between the limits; and one with a re-anchor
pending re-anchors, and ends the cycle in the second half of the active period. A cycle end so made is counted
by every block (R24, R32, R59, R68, R71), for each order that the spec leaves open (log 3, log 22). -/
def Obligations.EdgesAreJudged : Prop :=
  ∀ (line : Phase) (sag : PhaseSet) (s : State), s.hold = none →
    -- the runs and the presence of a phase; all of it where point 0 does not turn its filter; and a LOST phase
    -- whose filter turns inactive there
    let counted (p : Phase) (w x : PhaseWatch) : Prop :=
      let before := s.watch p
      w.SameRuns x
        ∧ (sag.get p = before.sagActive → w = { x with filterRun := 0 })
        ∧ (sag.get p ≠ before.sagActive → before.filterRun + 1 < s.management.active.sagFilter →
          w = { x with filterRun := before.filterRun + 1 })
        ∧ (before.condition = .lost → before.sagActive = true → sag.get p = false →
          s.management.active.sagFilter ≤ before.filterRun + 1 → x.present = true → w.condition = .recovering 0)
    (line = s.timebase.reference → s.timebase.reanchorPending = false →
        s.timebase.tickCounter < s.earlyLimit →
        exec (.zeroCrossingEdge line 0 sag) s = .next (finish
          { s with
            supervision.phases := s.supervision.phases.set line { s.watch line with edgeSeen := true }
            supervision.sagLines := sag
            ports.counters.glitches := bump s.ports.counters.glitches
            order := Config.openOrder s.drawn, drawn := s.drawn + 1 }))
      ∧ (line ≠ s.timebase.reference →
        exec (.zeroCrossingEdge line 0 sag) s = .next (finish
          { s with
            supervision.phases := s.supervision.phases.set line { s.watch line with edgeSeen := true }
            supervision.sagLines := sag
            order := Config.openOrder s.drawn, drawn := s.drawn + 1 }))
      ∧ (line = s.timebase.reference →
        (s.timebase.reanchorPending = false → s.earlyLimit ≤ s.timebase.tickCounter →
          ∃ u, exec (.zeroCrossingEdge line 0 sag) s = .next (finish u)
            ∧ u.timebase.tickCounter = 0 ∧ u.timebase.activePeriod = s.timebase.tickCounter
            ∧ u.timebase.cycleCount = s.timebase.cycleCount + 1
            ∧ u.timebase.acceptedRun = raise 4 s.timebase.acceptedRun
            ∧ u.timebase.syntheticRun = 0 ∧ u.timebase.referenceRun = 0
            ∧ u.timebase.reference = s.timebase.reference ∧ u.timebase.reanchorPending = false
            ∧ u.timebase.sync = (if 3 ≤ s.timebase.acceptedRun then .synced else s.timebase.sync)
            ∧ s.CountsCycleEnd u ∧ s.CountsPhases line counted u
            ∧ u.management = s.management ∧ u.straps = s.straps
            ∧ u.tables.active = s.tables.active ∧ u.tables.shadow = s.tables.shadow
            ∧ u.tables.addressMap = s.tables.addressMap)
        ∧ (s.timebase.reanchorPending = true →
          ∃ u, exec (.zeroCrossingEdge line 0 sag) s = .next (finish u)
            ∧ u.timebase.tickCounter = 0 ∧ u.timebase.activePeriod = s.timebase.activePeriod
            ∧ u.timebase.cycleCount
              = (if s.timebase.activePeriod / 2 ≤ s.timebase.tickCounter then s.timebase.cycleCount + 1
                else s.timebase.cycleCount)
            ∧ u.timebase.acceptedRun = 0 ∧ u.timebase.syntheticRun = 0 ∧ u.timebase.referenceRun = 0
            ∧ u.timebase.reference = s.timebase.reference ∧ u.timebase.reanchorPending = false
            ∧ u.timebase.sync = s.timebase.sync ∧ u.ports.counters.glitches = s.ports.counters.glitches
            ∧ (s.timebase.activePeriod / 2 ≤ s.timebase.tickCounter →
              s.CountsCycleEnd u ∧ s.CountsPhases line counted u)
            ∧ (s.timebase.tickCounter < s.timebase.activePeriod / 2 →
              u.tables.budgetCounter = s.tables.budgetCounter ∧ u.intake = s.intake
                ∧ u.timebase.markCounter = s.timebase.markCounter ∧ u.timebase.markWaiting = s.timebase.markWaiting
                ∧ (u.watch line).SameRuns { s.watch line with edgeSeen := true }
                ∧ ∀ p, p ≠ line → (u.watch p).SameRuns (s.watch p))
            ∧ u.management = s.management ∧ u.straps = s.straps
            ∧ u.tables.active = s.tables.active ∧ u.tables.shadow = s.tables.shadow
            ∧ u.tables.addressMap = s.tables.addressMap))

/-- A synthetic cycle end (R52, R55, R57): the counter reduced by the active period, the runs, the state, and
the reference run back at 0 where it reaches 2; and what each block counts (R24, R32, R59, R68, R71), the
conditions of the phases where no sample point comes before it. -/
def Obligations.SyntheticEndDatesTheCycle : Prop :=
  ∀ s : State, s.hold = none →
    ∃ u, exec .syntheticCycleEnd s = .next (finish u)
      ∧ u.timebase.tickCounter = s.lateLimit - s.timebase.activePeriod
      ∧ u.timebase.activePeriod = s.timebase.activePeriod
      ∧ u.timebase.cycleCount = s.timebase.cycleCount + 1
      ∧ u.timebase.acceptedRun = 0 ∧ u.timebase.syntheticRun = raise 255 s.timebase.syntheticRun
      ∧ u.timebase.referenceRun = (if 1 ≤ s.timebase.referenceRun then 0 else 1)
      ∧ (s.timebase.referenceRun = 0 → u.timebase.reference = s.timebase.reference)
      ∧ (s.timebase.sync = .unsynced → u.timebase.sync = .unsynced)
      ∧ (s.timebase.sync = .synced → u.timebase.sync = .flywheel)
      ∧ (s.timebase.sync = .flywheel →
          u.timebase.sync
            = (if s.management.active.flywheelLimit ≤ raise 255 s.timebase.syntheticRun then .unsynced
              else .flywheel))
      ∧ s.CountsCycleEnd u ∧ (∀ p, (u.watch p).SameRuns (s.watchAtCycleEnd (s.watch p)))
      ∧ (s.timebase.nextSample = none → ∀ p, u.watch p = s.watchAtCycleEnd (s.watch p))
      ∧ u.management = s.management ∧ u.straps = s.straps
      ∧ u.tables.active = s.tables.active ∧ u.tables.shadow = s.tables.shadow
      ∧ u.tables.addressMap = s.tables.addressMap

/-- What comes due by a count, commanded where its condition holds: the flywheel limit (R55), a failover
(R57, R58), a CYCLE MARK (R59), a budget period end (R24), the latest execute cycle (R107). Where it does not
hold the row changes nothing: the model's choice (log 2). -/
def Obligations.CountsThatComeDue : Prop :=
  ∀ s : State, s.hold = none →
    exec .flywheelLimitReached s = .next (finish
        (if s.timebase.sync = .flywheel ∧ s.management.active.flywheelLimit ≤ s.timebase.syntheticRun then
          raiseNotice .timebase [0, phaseCode s.timebase.reference]
            { s with timebase.sync := .unsynced, timebase.reanchorPending := true }
        else s))
      ∧ (∀ p, s.timebase.reference.next ≠ p → s.timebase.reference ≠ p → 2 ≤ s.timebase.referenceRun →
          (s.isLost s.timebase.reference.next = false →
            exec .failover s = .next (finish
              (raiseNotice .timebase [s.timebase.sync.code, phaseCode s.timebase.reference.next]
                { s with
                  timebase.reference := s.timebase.reference.next, timebase.referenceRun := 0
                  timebase.reanchorPending := true })))
          ∧ (s.isLost s.timebase.reference.next = true → s.isLost p = false →
            exec .failover s = .next (finish
              (raiseNotice .timebase [s.timebase.sync.code, phaseCode p]
                { s with
                  timebase.reference := p, timebase.referenceRun := 0, timebase.reanchorPending := true })))
          ∧ (s.isLost s.timebase.reference.next = true → s.isLost p = true →
            exec .failover s = .next (finish { s with timebase.referenceRun := 0 })))
      ∧ (s.timebase.referenceRun < 2 → exec .failover s = .next (finish s))
      ∧ exec .cycleMarkDue s = .next (finish
        (if s.management.active.markInterval ≤ s.timebase.markCounter then
          { s with timebase.markCounter := 0, timebase.markWaiting := true }
        else s))
      ∧ exec .budgetPeriodEnd s = .next (finish
        (if s.management.active.budgetPeriod ≤ s.tables.budgetCounter then
          { s with
            tables.budgetCounter := 0
            tables.consumers := s.tables.consumers.map (Option.map fun r => { r with moveCount := 0 }) }
        else s))
      ∧ exec .latestExecuteCycleExpiry s = .next (finish
        { s with
          scheduler.latestExecute := s.scheduler.latestExecute.filter fun x => ahead x s.now })

/-- The cycle count is changed by cycle ends and starts alone (R48): by no command but those that can make
one. -/
def Obligations.CycleCountChangesAtCycleEndsOnly : Prop :=
  ∀ (c : Instr) (s t : State), (∀ l n g, c ≠ .zeroCrossingEdge l n g) → c ≠ .syntheticCycleEnd →
    (∀ x, c ≠ .start x) → (∀ x, c ≠ .responseTransmissionEnd x) → exec c s = .next t →
    t.timebase.cycleCount = s.timebase.cycleCount

/-! ### Phase Supervision and the Rescue Unit -/

/-- A sample of the three sag lines through their filters (R66, R67), with the condition machine's answer to
a change of filtered level (R70). -/
def Obligations.SagSampleFilters : Prop :=
  ∀ (sag : PhaseSet) (point : Nat) (s : State), s.hold = none → s.timebase.nextSample = some point →
    ∃ u, exec (.sagSample sag) s = .next (finish u)
      ∧ u.timebase = { s.timebase with tickCounter := point } ∧ u.supervision.sagLines = sag
      ∧ u.management = s.management ∧ u.intake = s.intake
      ∧ ∀ p, u.watch p
          = (if sag.get p = (s.watch p).sagActive then { s.watch p with filterRun := 0 }
            else if s.management.active.sagFilter ≤ (s.watch p).filterRun + 1 then
              { s.watch p with
                sagActive := sag.get p, filterRun := 0
                condition := (s.watch p).conditionOnLevel (sag.get p) }
            else { s.watch p with filterRun := (s.watch p).filterRun + 1 })

/-- The condition machine (R67, R68, R70, R71), each change commanded where its condition holds (log 2). -/
def Obligations.ConditionMachine : Prop :=
  ∀ (p : Phase) (s : State), s.hold = none →
    (s.management.active.sagFilter ≤ (s.watch p).filterRun →
        ∃ u, exec (.filteredSagLevelChange p) s = .next (finish u)
          ∧ u.supervision.phases = s.supervision.phases.set p
            { s.watch p with
              sagActive := !(s.watch p).sagActive, filterRun := 0
              condition := (s.watch p).conditionOnLevel (!(s.watch p).sagActive) }
          ∧ u.timebase = s.timebase ∧ u.management = s.management ∧ u.intake = s.intake)
      ∧ ((s.watch p).present = true → (s.watch p).absenceRun = 3 →
        ∃ u, exec (.crossingPresenceChange p) s = .next (finish u)
          ∧ u.supervision.phases = s.supervision.phases.set p { s.watch p with present := false, condition := .lost }
          ∧ u.timebase = s.timebase ∧ u.management = s.management ∧ u.intake = s.intake)
      ∧ ((s.watch p).present = false → (s.watch p).presenceRun = 3 →
        ∃ u, exec (.crossingPresenceChange p) s = .next (finish u)
          ∧ u.supervision.phases = s.supervision.phases.set p
            { s.watch p with
              present := true
              condition :=
                if (s.watch p).condition = .lost ∧ (s.watch p).sagActive = false then .recovering 0
                else (s.watch p).condition }
          ∧ u.timebase = s.timebase ∧ u.management = s.management ∧ u.intake = s.intake)
      ∧ (∀ delay, (s.watch p).condition = .sag delay → s.management.active.sagDelay ≤ delay →
        ∃ u, exec (.sagDelay p) s = .next (finish u)
          ∧ u.supervision.phases = s.supervision.phases.set p { s.watch p with condition := .lost }
          ∧ u.timebase = s.timebase ∧ u.management = s.management ∧ u.intake = s.intake)
      ∧ ∀ hold, (s.watch p).condition = .recovering hold → s.management.active.recoveryHold ≤ hold →
        (s.watch p).present = true → (s.watch p).sagActive = false →
        ∃ u, exec (.holdComplete p) s = .next (finish u)
          ∧ u.supervision.phases = s.supervision.phases.set p { s.watch p with condition := .healthy }
          ∧ u.timebase = s.timebase ∧ u.management = s.management ∧ u.intake = s.intake
          ∧ u.tables = s.tables ∧ u.rescue = s.rescue ∧ u.scheduler = s.scheduler ∧ u.balancer = s.balancer

/-- A loss that triggers rescue lists the drawable unlocked records on the lost phase (R148), and a recovery
takes the records of that phase off the list (R155). -/
def Obligations.LossListsAndRecoveryUnlists : Prop :=
  ∀ (p : Phase) (s : State), s.hold = none →
    (∀ delay, (s.watch p).condition = .sag delay → s.management.active.sagDelay ≤ delay →
        s.management.active.rescueEnable = true →
        ∃ u, exec (.sagDelay p) s = .next (finish u) ∧ u.scheduler = s.scheduler
          ∧ (∀ i, i ∈ u.rescue.list ↔ i ∈ s.rescue.list
              ∨ ∃ r, s.record i = some r ∧ r.state.drawable = true ∧ s.projectedOf i r = p ∧ r.lock = false)
          ∧ (u.rescue.list ≠ [] → ∃ ev, u.rescue.event = some ev ∧ ev.covered.get p = true))
      ∧ ((s.watch p).condition = .lost → (s.watch p).present = false → (s.watch p).presenceRun = 3 →
        (s.watch p).sagActive = false →
        ∃ u, exec (.crossingPresenceChange p) s = .next (finish u) ∧ u.scheduler = s.scheduler
          ∧ (∀ i, i ∈ u.rescue.list ↔ i ∈ s.rescue.list ∧ s.projected i ≠ some p)
          ∧ (∀ i r, u.record i = some r → ∀ m, r.rescue = some m → m.phase ≠ p))

/-- A draw (R151): the record leaves the list and gets a RESCUE entry to the HEALTHY allowed phase of lowest
sum in its segment, the lower phase where two share it; with no such phase it is counted unrescuable. That a
record without rescue attempts has 1 after its draw is the model's choice (log 21). -/
def Obligations.DrawTakesTheLowestSum : Prop :=
  ∀ (i : Nat) (r : Consumer) (s : State), s.record i = some r → s.isLost r.assigned = true →
    ((∀ q, r.allowed.get q = true → s.healthy q = false) →
        draw i s = closeTest
          { s with
            rescue.list := s.rescue.list.filter fun j => j != i
            rescue.unrescuable := raise 255 s.rescue.unrescuable })
      ∧ ((segmentAt s.tables.active r.segment).valid = true →
        ∀ q, r.allowed.get q = true → s.healthy q = true →
          (∀ x, r.allowed.get x = true → s.healthy x = true →
            sumAt s.balancer.sums r.segment q ≤ sumAt s.balancer.sums r.segment x
              ∧ (sumAt s.balancer.sums r.segment q = sumAt s.balancer.sums r.segment x →
                (phaseCode q).toNat ≤ (phaseCode x).toNat)) →
          (draw i s).scheduler.schedule = s.scheduler.schedule ++ [s.newEntry .rescue i r.assigned q]
            ∧ (draw i s).rescue.list = s.rescue.list.filter (fun j => j != i)
            ∧ (draw i s).record i
              = some { r with
                  state := .ordered
                  rescue := some (match r.rescue with
                    | some m => { m with attempts := m.attempts + 1 }
                    | none => ⟨1, r.assigned⟩) }
            ∧ ∀ j, j ≠ i → (draw i s).record j = s.record j)

/-! ### Measurement Intake -/

/-- A sound LOAD READING of a managed consumer that is not SILENT (R28, R30, R31): the sample in the open
bank, the forward count, and the frame forwarded as the divider decides. -/
def Obligations.ReadingTaken : Prop :=
  ∀ (dest src tag interval : Byte) (reading : Word16) (supply : Bool) (i : Nat) (r : Consumer) (s : State),
    s.hold = none → dest ≠ s.ownAddress → s.mapped src = some i → s.record i = some r → r.state ≠ .silent →
    let n := s.management.active.divider
    let x : Int := max (-2000) (min 2000 reading.toInt)
    let bank (b : Bank) : Bank :=
      if supply = true ∧ b.count < 255 then ⟨b.sum + x, b.count + 1, true⟩ else ⟨b.sum, b.count, true⟩
    let forward := if n = 0 then r.forward else if r.forward + 1 < n then r.forward + 1 else 0
    let r' : Consumer :=
      if s.intake.secondOpen then { r with secondBank := bank r.secondBank, forward := forward }
      else { r with firstBank := bank r.firstBank, forward := forward }
    let s' : State :=
      { s with ports.down.receiver := .hunting, tables.consumers := s.tables.consumers.set i (some r') }
    let f := goodFrame dest src 0x21 tag (be2 reading.toNat ++ [flagByte supply, interval])
    exec (.loadReading dest src tag reading (flagByte supply) interval) s = .next (finish
      (if n = 0 ∨ r.forward ≠ 0 then s'
      else if s.ports.up.forward.length < 32 then { s' with ports.up.forward := s.ports.up.forward ++ [f] }
      else { s' with ports.counters.upDrops := bump s.ports.counters.upDrops }))

/-- A reading returns a SILENT record to service before it is accumulated (R29), with the hand-over to an
open loss event (R152). -/
def Obligations.SilentUnitReturns : Prop :=
  ∀ (dest src tag interval : Byte) (reading : Word16) (supply : Bool) (i : Nat) (r : Consumer) (s : State),
    s.hold = none → dest ≠ s.ownAddress → s.mapped src = some i → s.record i = some r → r.state = .silent →
    s.Bounded → TreeRule s.tables.active → r.segment < 16 →
    ∃ u t, exec (.loadReading dest src tag reading (flagByte supply) interval) s = .next (finish u)
      ∧ u.record i = some t ∧ t.state = .unverified ⟨.waiting, s.management.active.queryTries⟩ ∧ t.silence = 0
      ∧ t.assigned = r.assigned ∧ t.stable = r.stable ∧ t.fresh = r.fresh ∧ t.seeded = r.seeded
      ∧ t.address = r.address ∧ t.segment = r.segment ∧ t.allowed = r.allowed ∧ t.lastTag = r.lastTag
      ∧ (if s.intake.secondOpen then t.secondBank.heard = true ∧ t.firstBank = r.firstBank
        else t.firstBank.heard = true ∧ t.secondBank = r.secondBank)
      ∧ (∀ j, j ≠ i → u.record j = s.record j) ∧ u.tables.active = s.tables.active
      ∧ u.scheduler = s.scheduler ∧ u.timebase = s.timebase ∧ u.management = s.management
      ∧ (∀ k < 16, ∀ q, sumAt u.balancer.sums k q = sumAt s.balancer.sums k q
          + (if (segmentAt s.tables.active r.segment).valid = true ∧ q = r.assigned
              ∧ k ∈ segmentPath s.tables.active r.segment then r.stable else 0))
      ∧ (s.management.active.mask.getLsbD 6 = true → s.ports.notices.length < 16 →
          u.ports.notices = s.ports.notices ++ [⟨7, s.ports.lostNotices, s.now, [byte i, r.address]⟩])
      ∧ (s.rescue.event = none → u.rescue = s.rescue ∧ t.rescue = r.rescue)
      ∧ (∀ ev, s.rescue.event = some ev → ev.covered.get r.assigned = true →
          s.management.active.rescueEnable = true → r.lock = false → s.isLost r.assigned = true →
          i ∉ s.rescue.list → r.rescue = none →
          (∀ j, j ∈ u.rescue.list ↔ j = i ∨ j ∈ s.rescue.list) ∧ t.rescue = some ⟨0, r.assigned⟩)

/-- A window close (R33) and a fold completion (R40, R34), commanded where they are due; where they are not,
nothing happens: the model's choice (log 2). The fold of index 239 is the completion (R40), and a completion
that leaves no folds remaining is the pass trigger, which a close that was postponed and is due under the window
then active follows. -/
def Obligations.WindowCloseAndFoldCompletion : Prop :=
  ∀ s : State, s.hold = none →
    (s.intake.fold = .idle → s.management.active.window ≤ s.intake.windowCounter →
        exec .windowClose s = .next (finish
          { s with
            intake := ⟨!s.intake.secondOpen, 0, .folding 0 s.management.active.shift s.management.active.silenceLimit⟩ }))
      ∧ (s.intake.fold = .idle → s.intake.windowCounter < s.management.active.window →
        exec .windowClose s = .next (finish s))
      ∧ (s.intake.fold ≠ .idle → exec .windowClose s = .next (finish s))
      ∧ (∀ i k l, s.intake.fold = .folding i k l → i < 240 → exec .foldCompletion s = .next (finish s))
      ∧ (s.intake.fold = .idle → exec .foldCompletion s = .next (finish s))
      ∧ (∀ k l, s.intake.fold = .folding 239 k l → s.record 239 = none →
        exec .foldOfRecord s = exec .foldCompletion { s with intake.fold := .folding 240 k l })
      ∧ (∀ i k l, s.intake.fold = .folding i k l → 240 ≤ i → s.balancer.remaining = 1 →
        s.intake.windowCounter < s.management.shadow.window →
        exec .foldCompletion s = exec .passTrigger { s with intake.fold := .idle, balancer.remaining := 0 })
      ∧ (∀ i k l, s.intake.fold = .folding i k l → 240 ≤ i → s.balancer.remaining = 1 →
        s.management.shadow.window ≤ s.intake.windowCounter →
        ∃ u, exec .passTrigger { s with intake.fold := .idle, balancer.remaining := 0 } = .next (finish u)
          ∧ u.intake = { s.intake with fold := .idle } ∧ u.management.active = s.management.shadow
          ∧ u.balancer.remaining = s.management.shadow.passDivider
          ∧ exec .foldCompletion s = .next (finish
            { u with
              intake := ⟨!s.intake.secondOpen, 0, .folding 0 s.management.shadow.shift s.management.shadow.silenceLimit⟩ }))
      ∧ ∀ i k l, s.intake.fold = .folding i k l → 240 ≤ i → 2 ≤ s.balancer.remaining →
        (s.intake.windowCounter < s.management.active.window →
            exec .foldCompletion s = .next (finish
              { s with intake.fold := .idle, balancer.remaining := s.balancer.remaining - 1 }))
          ∧ (s.management.active.window ≤ s.intake.windowCounter →
            exec .foldCompletion s = .next (finish
              { s with
                intake := ⟨!s.intake.secondOpen, 0, .folding 0 s.management.active.shift s.management.active.silenceLimit⟩
                balancer.remaining := s.balancer.remaining - 1 }))

/-- The fold of one record (R35 to R39): the mean and the smoothing toward it, the silence count, and the record
made SILENT; at index 239 the fold completion follows (R40). That one FOLD_OF_RECORD passes one index, a VACANT
one among them, and that the completion comes in the command of index 239, is the model's choice (log 15). -/
def Obligations.FoldOfOneRecord : Prop :=
  ∀ (i k l : Nat) (s : State), s.hold = none → s.intake.fold = .folding i k l → i < 240 →
    -- the event that the body `t` leaves: past index 239 the fold completes in it
    let folds (t : State) : Prop :=
      (i < 239 → exec .foldOfRecord s = .next (finish t))
        ∧ (i = 239 → exec .foldOfRecord s = exec .foldCompletion t)
    (s.record i = none → folds { s with intake.fold := .folding (i + 1) k l })
      ∧ ∀ r, s.record i = some r →
        let b := if s.intake.secondOpen then r.firstBank else r.secondBank
        let z : Consumer :=
          if s.intake.secondOpen then { r with firstBank := ⟨0, 0, false⟩ }
          else { r with secondBank := ⟨0, 0, false⟩ }
        let after (t : Consumer) : State :=
          { s with intake.fold := .folding (i + 1) k l, tables.consumers := s.tables.consumers.set i (some t) }
        (0 < b.count → r.seeded = false →
            folds (after { z with silence := 0, fresh := b.sum.tdiv b.count, seeded := true }))
          ∧ (0 < b.count → r.seeded = true →
            folds (after { z with silence := 0, fresh := r.fresh + (b.sum.tdiv b.count - r.fresh).tdiv (2 ^ k) }))
          ∧ (b.count = 0 → b.heard = true → folds (after { z with silence := 0 }))
          ∧ (b.count = 0 → b.heard = false →
            (raise 255 r.silence < l ∨ r.state ≠ .settled ∧ ∀ q, r.state ≠ .unverified q) →
            folds (after { z with silence := raise 255 r.silence }))
          ∧ (b.count = 0 → b.heard = false → l ≤ raise 255 r.silence →
            (r.state = .settled ∨ ∃ q, r.state = .unverified q) →
            ∃ u, folds u
              ∧ u.intake = { s.intake with fold := .folding (i + 1) k l }
              ∧ u.record i = some { z with silence := raise 255 r.silence, state := .silent }
              ∧ (∀ j, j ≠ i → u.record j = s.record j) ∧ u.tables.active = s.tables.active
              ∧ (∀ e, e ∈ u.scheduler.queries ↔ e ∈ s.scheduler.queries ∧ e.consumer ≠ i)
              ∧ u.scheduler.schedule = s.scheduler.schedule
              ∧ (∀ j, j ∈ u.rescue.list ↔ j ∈ s.rescue.list ∧ j ≠ i)
              ∧ (i ∈ s.rescue.list → u.rescue.unrescuable = raise 255 s.rescue.unrescuable)
              ∧ u.timebase = s.timebase ∧ u.management = s.management
              ∧ (s.SumsRight → TreeRule s.tables.active → s.balancer.sums.length = 16 → u.SumsRight)
              ∧ (s.management.active.mask.getLsbD 5 = true → s.ports.notices.length < 16 → i ∉ s.rescue.list →
                u.ports.notices = s.ports.notices ++ [⟨6, s.ports.lostNotices, s.now, [byte i, r.address, 1]⟩]))

/-! ### The Balancer -/

/-- A pass trigger in IDLE with rescue inactive and the timebase SYNCED (R81, R82, R86, R87, R89, R90): both
shadows adopted, the Fresh loads copied, the Sum Table rebuilt, the working copy taken. -/
def Obligations.PassTriggerStartsAPass : Prop :=
  ∀ s : State, s.hold = none → s.balancer.remaining = 0 → s.balancer.state = .idle → s.rescueActive = false →
    s.timebase.sync = .synced →
    ∃ u pass, exec .passTrigger s = .next (finish u)
      ∧ u.balancer.state = .evaluating pass
      ∧ u.tables.active = s.tables.shadow ∧ u.tables.shadow = s.tables.shadow
      ∧ u.tables.marks = List.replicate 16 false ∧ u.management.active = s.management.shadow
      ∧ u.management.shadow = s.management.shadow ∧ u.management.policyPending = false
      ∧ u.balancer.remaining = s.management.shadow.passDivider
      ∧ (∀ i, u.record i = (s.record i).map fun r => { r with stable := r.fresh })
      ∧ (TreeRule s.tables.shadow → u.SumsRight)
      ∧ u.scheduler = s.scheduler ∧ u.timebase = s.timebase ∧ u.intake = s.intake
      ∧ u.ports.counters = s.ports.counters ∧ u.supervision.phases = s.supervision.phases
      ∧ pass.sums = u.balancer.sums ∧ pass.segments = s.tables.shadow
      ∧ pass.costBefore = cost s.tables.shadow u.balancer.sums ∧ pass.results = [] ∧ pass.searched = false
      ∧ (let p := s.management.shadow
        pass.policy = ⟨p.threshold, p.movesPerPass, p.minimumLoad, p.budget, p.dwell⟩
          ∧ (pass.candidates.map Candidate.consumer).Pairwise (· < ·)
          ∧ ∀ c, c ∈ pass.candidates ↔ ∃ r, u.record c.consumer = some r ∧ c.segment = r.segment
              ∧ c.fromPhase = r.assigned ∧ c.load = r.stable
              ∧ (∀ q, c.targets.get q = true ↔
                q ≠ r.assigned ∧ r.allowed.get q = true ∧ s.healthy q = true)
              ∧ r.state = .settled ∧ r.lock = false ∧ (segmentAt s.tables.shadow r.segment).valid = true
              ∧ p.minimumLoad ≤ r.stable.natAbs ∧ r.moveCount < p.budget
              ∧ ∀ x, r.lastMove = some x → p.dwell * 64 ≤ (s.timebase.cycleCount - x).toNat)

/-- A pass trigger that starts no pass (R82): suppressed, counted as an overrun, or nothing further; the
shadows are adopted and the remaining count reloaded in each. A remaining count above 0 is no trigger; that
PASS_TRIGGER commanded then does nothing is the model's choice (log 2). -/
def Obligations.PassTriggerCounts : Prop :=
  ∀ s : State, s.hold = none →
    (s.balancer.remaining ≠ 0 → exec .passTrigger s = .next (finish s))
      ∧ (s.balancer.remaining = 0 →
        (s.balancer.state = .idle →
            s.timebase.sync ≠ .synced ∨ s.rescueActive = true ∧ s.management.shadow.rescueEnable = true) →
        ∃ u, exec .passTrigger s = .next (finish u)
          ∧ u.balancer.state = s.balancer.state ∧ u.tables.active = s.tables.shadow
          ∧ u.tables.consumers = s.tables.consumers
          ∧ u.tables.marks = List.replicate 16 false ∧ u.management.active = s.management.shadow
          ∧ u.balancer.remaining = s.management.shadow.passDivider
          ∧ (s.tables.shadow = s.tables.active → u.balancer.sums = s.balancer.sums)
          ∧ (s.tables.shadow ≠ s.tables.active → TreeRule s.tables.shadow → u.SumsRight)
          ∧ u.scheduler = s.scheduler ∧ u.timebase = s.timebase ∧ u.intake = s.intake
          ∧ u.ports.counters
            = (match s.balancer.state with
              | .idle => { s.ports.counters with suppressed := bump s.ports.counters.suppressed }
              | .evaluating _ => { s.ports.counters with overruns := bump s.ports.counters.overruns }
              | .held | .stopped => s.ports.counters))

/-- The trials of a search (R92): every unchosen candidate on each of its candidate targets that no segment
excludes, by ascending consumer index and then by phase. -/
def Obligations.TrialsInOrder : Prop :=
  ∀ pass : Pass, (pass.candidates.map Candidate.consumer).Pairwise (· < ·) →
    (∀ m, m ∈ pass.trials ↔ ∃ c ∈ pass.candidates,
        m.consumer = c.consumer ∧ m.fromPhase = c.fromPhase ∧ m.segment = c.segment
          ∧ c.targets.get m.target = true ∧ trialGain pass c m.target = some m.gain
          ∧ ∀ x ∈ pass.results, x.consumer ≠ c.consumer)
      ∧ pass.trials.Pairwise fun a b =>
        a.consumer < b.consumer
          ∨ a.consumer = b.consumer ∧ (phaseCode a.target).toNat < (phaseCode b.target).toNat

/-- One search (R92): the first of the trials with the greatest gain is chosen when its gain reaches the
latched threshold; otherwise the searches end. That SEARCH commanded outside a pass with searches left does
nothing is the model's choice (log 2). -/
def Obligations.SearchChooses : Prop :=
  ∀ s : State, s.hold = none →
    ((∀ pass, s.balancer.state ≠ .evaluating pass) → exec .search s = .next (finish s))
      ∧ ∀ pass, s.balancer.state = .evaluating pass →
        (pass.searched = true → exec .search s = .next (finish s))
          ∧ (pass.searched = false → (∀ m ∈ pass.trials, m.gain < pass.policy.threshold) →
            exec .search s = .next (finish { s with balancer.state := .evaluating { pass with searched := true } }))
          ∧ ∀ before m after c, pass.searched = false → pass.trials = before ++ m :: after →
            (∀ x ∈ before, x.gain < m.gain) → (∀ x ∈ after, x.gain ≤ m.gain) →
            (pass.policy.threshold : Int) ≤ m.gain →
            c ∈ pass.candidates → c.consumer = m.consumer → (pass.candidates.map Candidate.consumer).Nodup →
            ∃ sums,
              exec .search s = .next (finish
                { s with
                  balancer.state := .evaluating
                    { pass with
                      sums := sums
                      results := pass.results ++ [m]
                      searched := decide (pass.policy.movesPerPass ≤ pass.results.length + 1) } })
              ∧ (TreeRule pass.segments → pass.sums.length = 16 → m.segment < 16 → ∀ k < 16, ∀ q,
                sumAt sums k q = sumAt pass.sums k q
                  + (if k ∈ segmentPath pass.segments m.segment then
                      (if q = m.target then c.load else 0) - (if q = m.fromPhase then c.load else 0)
                    else 0))

/-- The gain of a trial is by how much the working cost would fall (R91), and a trial that no segment
excludes keeps each changed phase of its path within the limit or no further out. -/
def Obligations.GainIsTheFallOfCost : Prop :=
  ∀ (pass : Pass) (c : Candidate) (q : Phase), TreeRule pass.segments → pass.sums.length = 16 →
    c.segment < 16 → (segmentAt pass.segments c.segment).valid = true → q ≠ c.fromPhase →
    let path := segmentPath pass.segments c.segment
    let trial := addAlong path q c.load (addAlong path c.fromPhase (-c.load) pass.sums)
    (∀ g, trialGain pass c q = some g → g = cost pass.segments pass.sums - cost pass.segments trial)
      ∧ ((trialGain pass c q).isSome = true ↔ ∀ k ∈ path, ∀ x, x = c.fromPhase ∨ x = q →
        (segmentAt pass.segments k).limit = 65535
          ∨ (sumAt trial k x).natAbs ≤ (segmentAt pass.segments k).limit
          ∨ (sumAt trial k x).natAbs ≤ (sumAt pass.sums k x).natAbs)

/-- A pass completion (R94, R95, R97): the chosen moves are kept or dropped as stale one after another, each
against the state that the ones before it left (`st`), the PASS SUMMARY is queued, and the balancer is IDLE. That
PASS_COMPLETION commanded without a pass whose searches have ended does nothing is the model's choice (log 2). -/
def Obligations.PassCompletionSchedules : Prop :=
  ∀ s : State, s.hold = none →
    ((∀ pass, s.balancer.state = .evaluating pass → pass.searched = false) →
        exec .passCompletion s = .next (finish s))
      ∧ (∀ (m : ChosenMove) (t : State), t.keepsMove m = true ↔ ∃ r, t.record m.consumer = some r
        ∧ r.state = .settled ∧ r.lock = false ∧ r.assigned = m.fromPhase ∧ r.segment = m.segment
        ∧ r.allowed.get m.target = true ∧ t.healthy m.target = true ∧ r.moveCount < t.management.active.budget
        ∧ (∀ x, r.lastMove = some x → t.management.active.dwell * 64 ≤ (t.timebase.cycleCount - x).toNat)
        ∧ t.timebase.sync = .synced ∧ t.scheduler.schedule.length < t.management.active.inFlightLimit
        ∧ aheadBy (t.executeCycle .balance) t.now ≤ 2040)
      ∧ ∀ pass, s.balancer.state = .evaluating pass → pass.searched = true →
        s.ports.counters.staleMoves + pass.results.length ≤ 65535 →
        ∃ (u : State) (made : List MoveEntry) (st : Nat → State), exec .passCompletion s = .next (finish u)
          ∧ st 0 = s
          ∧ (∀ k m, pass.results[k]? = some m → st (k + 1)
            = if (st k).keepsMove m then makeEntry .balance m.consumer m.target (st k)
              else { st k with ports.counters.staleMoves := (st k).ports.counters.staleMoves + 1 })
          ∧ u.scheduler = (st pass.results.length).scheduler ∧ u.tables = (st pass.results.length).tables
          ∧ u.balancer.sums = (st pass.results.length).balancer.sums
          ∧ u.rescue = (st pass.results.length).rescue
          ∧ u.ports.counters = (st pass.results.length).ports.counters
          ∧ u.balancer.state = .idle ∧ u.balancer.remaining = s.balancer.remaining
          ∧ u.scheduler.schedule = s.scheduler.schedule ++ made ∧ u.scheduler.queries = s.scheduler.queries
          ∧ u.ports.counters.staleMoves + made.length = s.ports.counters.staleMoves + pass.results.length
          ∧ (made.map fun e => (e.consumer, e.fromPhase, e.target)).Sublist
            (pass.results.map fun m => (m.consumer, m.fromPhase, m.target))
          ∧ (∀ e ∈ made, e.origin = .balance ∧ e.stage = .queued false
            ∧ ∃ r, s.record e.consumer = some r ∧ r.state = .settled ∧ r.lock = false
              ∧ r.assigned = e.fromPhase ∧ r.allowed.get e.target = true ∧ s.healthy e.target = true
              ∧ r.moveCount < s.management.active.budget)
          ∧ (s.timebase.sync ≠ .synced → made = [])
          ∧ (made.length ≤ s.management.active.inFlightLimit - s.scheduler.schedule.length)
          ∧ u.tables.active = s.tables.active ∧ u.management = s.management ∧ u.timebase = s.timebase
          ∧ u.intake = s.intake ∧ u.supervision = s.supervision
          ∧ (s.management.active.mask.getLsbD 10 = true → s.ports.notices.length < 16 → s.rescue.list = [] →
            u.ports.notices = s.ports.notices
              ++ [⟨11, s.ports.lostNotices, s.now,
                signed4 pass.costBefore ++ signed4 (pass.costBefore - (pass.results.map ChosenMove.gain).sum)
                  ++ [byte pass.results.length, byte made.length]⟩])
          ∧ ∀ m, pass.results = [m] → (made = [] ↔ s.keepsMove m = false)

/-- What a rebuild makes of the Sum Table (R84): in each entry the sum over the segment's subtree. -/
def Obligations.RebuildGivesTheSubtreeSums : Prop :=
  ∀ s : State, TreeRule s.tables.active →
    (rebuild s).SumsRight ∧ ∀ i < 16, (segmentAt s.tables.active i).valid = false → ∀ p,
      sumAt (rebuild s).balancer.sums i p = 0

/-! ### Moves -/

/-- The execute cycle of a new entry (R106): ahead of now by the lead, or by the spacing beyond the latest
execute cycle, whichever lies further; and what making an entry sets (R108, R109). -/
def Obligations.MakingAnEntry : Prop :=
  (∀ (o : Origin) (s : State), s.scheduler.latestExecute = none → s.management.active.InRange →
      aheadBy (s.executeCycle o) s.now = s.management.active.lead)
    ∧ (∀ (o : Origin) (x : Word16) (s : State), s.scheduler.latestExecute = some x →
      ahead x s.now = true → aheadBy x s.now ≤ 2040 → s.management.active.InRange →
      aheadBy (s.executeCycle o) s.now
        = max s.management.active.lead (aheadBy x s.now
          + match o with
            | .rescue => s.management.active.rescueSpacing
            | .balance | .manual => s.management.active.spacing))
    ∧ ∀ (o : Origin) (i : Nat) (r : Consumer) (q : Phase) (s : State), s.record i = some r → r.state = .settled →
      (makeEntry o i q s).scheduler
          = { s.scheduler with
              schedule := s.scheduler.schedule
                ++ [⟨i, s.scheduler.tagCounter, o, r.assigned, q, s.executeCycle o,
                  s.executeCycle o + BitVec.ofNat 16 s.management.active.reportGrace, .queued false⟩]
              latestExecute := some (s.executeCycle o)
              tagCounter := if s.scheduler.tagCounter = 255 then 1 else s.scheduler.tagCounter + 1 }
        ∧ (makeEntry o i q s).record i = some { r with state := .ordered }
        ∧ (∀ j, j ≠ i → (makeEntry o i q s).record j = s.record j)
        ∧ (∀ j, j ∈ (makeEntry o i q s).rescue.list ↔ j ∈ s.rescue.list ∧ j ≠ i)
        ∧ (makeEntry o i q s).management = s.management ∧ (makeEntry o i q s).timebase = s.timebase
        ∧ (s.ScheduleRight → s.SumsRight → TreeRule s.tables.active → s.balancer.sums.length = 16 →
          (makeEntry o i q s).SumsRight)

/-- Tags (R108): a new entry and a PHASE QUERY take the tag counter, which goes up by 1 and from 255 to 1,
never to 0; 255 tags are given before a value comes round. -/
def Obligations.TagsComeRound : Prop :=
  (∀ (o : Origin) (i : Nat) (a q : Phase) (s : State),
      (s.newEntry o i a q).tag = s.scheduler.tagCounter
        ∧ (appendEntry (s.newEntry o i a q) s).scheduler.tagCounter = nextTag s.scheduler.tagCounter)
    ∧ (∀ (e : QueryEntry) (s : State),
      (grantQuery e s).ports.down.transmitter
          = .busy .query (goodFrame (s.addressOf e.consumer) s.ownAddress 0x34 s.scheduler.tagCounter [])
        ∧ (grantQuery e s).scheduler.tagCounter = nextTag s.scheduler.tagCounter)
    ∧ (∀ (i : Nat) (tag : Byte) (e : MoveEntry) (s : State),
      s.matchedEntry i tag = some e → e ∈ s.scheduler.schedule ∧ e.consumer = i ∧ e.tag = tag)
    ∧ (∀ t : Byte, t ≠ 0 → nextTag t ≠ 0 ∧ nextTag t = (if t = 255 then 1 else t + 1))
    ∧ ∀ t : Byte, t ≠ 0 → nextTag^[255] t = t ∧ ∀ n, 0 < n → n < 255 → nextTag^[n] t ≠ t

/-- MANUAL MOVE (R126) with its checks in order, and CANCEL MOVES (R127, R115): every QUEUED entry not in
transmission is withdrawn. -/
def Obligations.ManualMoveAndCancel : Prop :=
  ∀ (src tag : Byte) (s : State), s.TakesRequests →
    (∀ i t : Byte,
        let no (code : Byte) : Prop :=
          exec (.manualMove src tag [i, t]) s = .next (finish (s.answered src tag [0x0C, code]))
        (240 ≤ i.toNat → no 2)
          ∧ (i.toNat < 240 → (∀ r, s.record i.toNat = some r → r.state ≠ .settled) → no 5)
          ∧ ∀ r, i.toNat < 240 → s.record i.toNat = some r → r.state = .settled →
            ((∀ q, phaseCode q = t → q = r.assigned ∨ r.allowed.get q = false ∨ s.healthy q = false) → no 3)
              ∧ ∀ q, phaseCode q = t → q ≠ r.assigned → r.allowed.get q = true → s.healthy q = true →
                (s.timebase.sync ≠ .synced → no 4)
                  ∧ (s.timebase.sync = .synced →
                    8 ≤ s.scheduler.schedule.length ∨ 2040 < aheadBy (s.executeCycle .manual) s.now → no 8)
                  ∧ (s.timebase.sync = .synced → s.scheduler.schedule.length < 8 →
                    aheadBy (s.executeCycle .manual) s.now ≤ 2040 →
                    exec (.manualMove src tag [i, t]) s = .next (finish
                      ((makeEntry .manual i.toNat q s).answered src tag
                        (0x0C :: 0 :: s.scheduler.tagCounter :: be2 (s.executeCycle .manual).toNat)))))
      ∧ (∀ args, args.length ≠ 2 → args.length < 48 →
        exec (.manualMove src tag args) s = .next (finish (s.answered src tag [0x0C, 3])))
      ∧ (∀ args, args ≠ [] → args.length < 48 →
        exec (.cancelMoves src tag args) s = .next (finish (s.answered src tag [0x0D, 3])))
      ∧ (s.ScheduleRight →
        let gone := s.scheduler.schedule.filter fun e => e.stage == .queued false
        ∃ u : State, exec (.cancelMoves src tag []) s = .next (finish (u.answered src tag [0x0D, 0, byte gone.length]))
          ∧ u.scheduler = { s.scheduler with
              schedule := s.scheduler.schedule.filter fun e => e.stage != .queued false }
          ∧ (∀ i, (u.record i).map (fun r => { r with rescue := none })
            = (s.record i).map fun r =>
              { r with
                rescue := none, state := if gone.any (fun e => e.consumer == i) then .settled else r.state })
          ∧ u.tables.active = s.tables.active ∧ u.timebase = s.timebase ∧ u.management = s.management
          ∧ u.balancer.state = s.balancer.state
          ∧ (s.SumsRight → TreeRule s.tables.active → s.balancer.sums.length = 16 → u.SumsRight)
          ∧ (s.management.active.mask.getLsbD 2 = true → s.rescue.event = none →
            s.ports.notices.length + gone.length ≤ 16 →
            u.ports.notices.map Notice.fields = s.ports.notices.map Notice.fields ++ gone.map fun e =>
              [byte e.consumer, s.addressOf e.consumer, e.tag, e.origin.code, phaseCode e.fromPhase,
                phaseCode e.target, 1, 10, 0]))

/-- Withdrawals (R114, R115), reply deadlines (R119) and report deadlines (R123), each commanded at the cycle
number that now is. -/
def Obligations.EntriesEndAtTheirCycles : Prop :=
  ∀ s : State, s.hold = none → s.ScheduleRight →
    (let gone := s.scheduler.schedule.filter fun e => e.stage == .queued false && tooNear e.execute s.now
      ∃ u, exec .withdrawal s = .next (finish u)
        ∧ (∀ e, e ∈ u.scheduler.schedule ↔ e ∈ s.scheduler.schedule ∧ e ∉ gone)
        ∧ u.scheduler.latestExecute = s.scheduler.latestExecute ∧ u.scheduler.queries = s.scheduler.queries
        ∧ u.scheduler.tagCounter = s.scheduler.tagCounter
        ∧ (∀ i, (u.record i).map (fun r => { r with rescue := none })
          = (s.record i).map fun r =>
            { r with
              rescue := none, state := if gone.any (fun e => e.consumer == i) then .settled else r.state })
        ∧ u.tables.active = s.tables.active ∧ u.timebase = s.timebase ∧ u.management = s.management
        ∧ (s.SumsRight → TreeRule s.tables.active → s.balancer.sums.length = 16 → u.SumsRight)
        ∧ (s.management.active.mask.getLsbD 2 = true → s.rescue.event = none →
          s.ports.notices.length + gone.length ≤ 16 →
          u.ports.notices.map Notice.fields = s.ports.notices.map Notice.fields ++ gone.map fun e =>
            [byte e.consumer, s.addressOf e.consumer, e.tag, e.origin.code, phaseCode e.fromPhase,
              phaseCode e.target, 1, 9, 0]))
      ∧ exec .replyDeadline s = .next (finish
        { s with
          scheduler.schedule := s.scheduler.schedule.map fun e =>
            if e.stage = .sent ∧ e.execute = s.now then { e with stage := .unconfirmed } else e })
      ∧ (let gone := s.scheduler.schedule.filter fun e =>
          e.deadline == s.now && (e.stage == .sent || e.stage == .accepted || e.stage == .unconfirmed)
        ∃ u, exec .reportDeadline s = .next (finish u)
          ∧ (∀ e, e ∈ u.scheduler.schedule ↔ e ∈ s.scheduler.schedule ∧ e ∉ gone)
          ∧ u.scheduler.latestExecute = s.scheduler.latestExecute ∧ u.scheduler.queries = s.scheduler.queries
          ∧ u.scheduler.tagCounter = s.scheduler.tagCounter
          ∧ (∀ e ∈ gone, ∀ r, s.record e.consumer = some r →
            (u.record e.consumer).map (fun r => { r with rescue := none })
              = some { r with
                  rescue := none, state := .querying ⟨.waiting, s.management.active.queryTries⟩
                  assigned := if e.stage = .accepted then e.target else e.fromPhase })
          ∧ (∀ i, (∀ e ∈ gone, e.consumer ≠ i) →
            (u.record i).map (fun r => { r with rescue := none })
              = (s.record i).map fun r => { r with rescue := none })
          ∧ u.tables.active = s.tables.active ∧ u.timebase = s.timebase ∧ u.management = s.management
          ∧ (s.SumsRight → TreeRule s.tables.active → s.balancer.sums.length = 16 → u.SumsRight)
          ∧ (s.management.active.mask.getLsbD 2 = true → s.rescue.event = none →
            s.ports.notices.length + gone.length ≤ 16 →
            u.ports.notices.map Notice.fields = s.ports.notices.map Notice.fields ++ gone.map fun e =>
              [byte e.consumer, s.addressOf e.consumer, e.tag, e.origin.code, phaseCode e.fromPhase,
                phaseCode e.target, 4, 11, 0]))

/-- A TRANSFER ANSWER taken by an entry in SENT or UNCONFIRMED: an ACCEPT (R117), and a REFUSE with the phase
it may teach to be unwired (R118). -/
def Obligations.AnswerTaken : Prop :=
  ∀ (src tag reason : Byte) (i : Nat) (e : MoveEntry) (r : Consumer) (s : State), s.hold = none →
    s.ScheduleRight → s.mapped src = some i → e ∈ s.scheduler.schedule → e.consumer = i → e.tag = tag →
    (e.stage = .sent ∨ e.stage = .unconfirmed) → s.record i = some r → e.target ≠ e.fromPhase →
    exec (.transferAnswer src tag 1 reason) s = .next (finish
        { s with
          ports.down.receiver := .hunting
          scheduler.schedule := s.scheduler.schedule.map fun x =>
            if x.consumer = i then { x with stage := .accepted } else x
          tables.consumers := s.tables.consumers.set i (some { r with state := .accepted }) })
      ∧ (1 ≤ reason.toNat → reason.toNat ≤ 4 →
        ∃ u, exec (.transferAnswer src tag 2 reason) s = .next (finish u)
          ∧ u.scheduler = { s.scheduler with
              schedule := s.scheduler.schedule.filter fun x => x.consumer != i }
          ∧ (u.record i).map (fun r => { r with rescue := none })
            = some { r with
                rescue := none, state := .settled
                allowed := if reason = 2 then r.allowed.set e.target false else r.allowed }
          ∧ (∀ j, j ≠ i → u.record j = s.record j)
          ∧ u.tables.active = s.tables.active ∧ u.timebase = s.timebase ∧ u.management = s.management
          ∧ (s.SumsRight → TreeRule s.tables.active → s.balancer.sums.length = 16 → u.SumsRight)
          ∧ (s.management.active.mask.getLsbD 2 = true → s.management.active.mask.getLsbD 3 = true →
            s.rescue.event = none → s.ports.notices.length ≤ 14 →
            u.ports.notices = s.ports.notices
              ++ [⟨3, s.ports.lostNotices, s.now,
                [byte i, r.address, tag, e.origin.code, phaseCode e.fromPhase, phaseCode e.target, 2, reason, 0]⟩]
              ++ (if reason = 2 then
                  [⟨4, 0, s.now,
                    [byte i, r.address, phaseCode e.target, phaseSetCode (r.allowed.set e.target false)]⟩]
                else [])))

/-- A TRANSFER REPORT taken by an entry (R121, R122), and a late report of a QUERYING record with its last
move tag (R124). That CONSUMER FAULT carries the fields of R129 and no origin is the model's choice (log 23). -/
def Obligations.ReportTaken : Prop :=
  ∀ (src tag outcome reason phaseNow : Byte) (i : Nat) (r : Consumer) (s : State), s.hold = none →
    s.ScheduleRight → s.mapped src = some i → s.record i = some r →
    (outcome = 1 ∨ outcome = 2 ∧ 1 ≤ reason.toNat ∧ reason.toNat ≤ 4) →
    (∀ e, e ∈ s.scheduler.schedule → e.consumer = i → e.tag = tag →
        (e.stage = .sent ∨ e.stage = .accepted ∨ e.stage = .unconfirmed) →
        (phaseNow = 0 →
          ∃ u, exec (.transferReport src tag outcome reason phaseNow) s = .next (finish u)
            ∧ u.scheduler = { s.scheduler with
                schedule := s.scheduler.schedule.filter fun x => x.consumer != i }
            ∧ u.record i = some { r with state := .faulted .contactFault }
            ∧ (∀ j, j ≠ i → u.record j = s.record j)
            ∧ u.tables.active = s.tables.active ∧ u.timebase = s.timebase ∧ u.management = s.management
            ∧ (s.SumsRight → TreeRule s.tables.active → s.balancer.sums.length = 16 → u.SumsRight)
            ∧ (s.management.active.mask.getLsbD 4 = true → s.rescue.event = none → s.ports.notices.length < 16 →
              u.ports.notices = s.ports.notices
                ++ [⟨5, s.ports.lostNotices, s.now, [byte i, r.address, 2, tag]⟩]))
          ∧ ∀ p, phaseCode p = phaseNow →
            ∃ u, exec (.transferReport src tag outcome reason phaseNow) s = .next (finish u)
              ∧ u.scheduler = { s.scheduler with
                  schedule := s.scheduler.schedule.filter fun x => x.consumer != i }
              ∧ (u.record i).map (fun r => { r with rescue := none })
                = some { r with
                    rescue := none, state := .settled, assigned := p, allowed := r.allowed.set p true
                    moveCount := if p = e.fromPhase then r.moveCount else raise 15 r.moveCount
                    lastMove := if p = e.fromPhase then r.lastMove else some s.timebase.cycleCount }
              ∧ (∀ j, j ≠ i → u.record j = s.record j)
              ∧ u.tables.active = s.tables.active ∧ u.timebase = s.timebase ∧ u.management = s.management
              ∧ (s.SumsRight → TreeRule s.tables.active → s.balancer.sums.length = 16 → u.SumsRight)
              ∧ (s.management.active.mask.getLsbD 1 = true → s.management.active.mask.getLsbD 2 = true →
                s.rescue.event = none → s.ports.notices.length < 16 →
                u.ports.notices = s.ports.notices
                  ++ [if p = e.target then
                      ⟨2, s.ports.lostNotices, s.now,
                        [byte i, r.address, tag, e.origin.code, phaseCode e.fromPhase, phaseCode e.target,
                          phaseCode p, outcome]⟩
                    else
                      ⟨3, s.ports.lostNotices, s.now,
                        [byte i, r.address, tag, e.origin.code, phaseCode e.fromPhase, phaseCode e.target, 3,
                          if outcome = 1 then 8 else if reason = 1 then 5 else if reason = 2 then 6
                            else if reason = 3 then 7 else 4, phaseCode p]⟩]))
      ∧ ((∀ e ∈ s.scheduler.schedule, e.consumer = i → e.tag ≠ tag) → r.lastTag = some tag →
        (∃ q, r.state = .querying q) →
        (phaseNow = 0 →
          ∃ u, exec (.transferReport src tag outcome reason phaseNow) s = .next (finish u)
            ∧ u.scheduler = { s.scheduler with
                queries := s.scheduler.queries.filter fun x => x.consumer != i }
            ∧ u.record i = some { r with state := .faulted .contactFault }
            ∧ (∀ j, j ≠ i → u.record j = s.record j)
            ∧ (s.SumsRight → TreeRule s.tables.active → s.balancer.sums.length = 16 → u.SumsRight))
          ∧ ∀ p, phaseCode p = phaseNow →
            ∃ u, exec (.transferReport src tag outcome reason phaseNow) s = .next (finish u)
              ∧ u.scheduler = { s.scheduler with
                  queries := s.scheduler.queries.filter fun x => x.consumer != i }
              ∧ (u.record i).map (fun r => { r with rescue := none })
                = some { r with
                    rescue := none, state := .settled, assigned := p, allowed := r.allowed.set p true }
              ∧ (∀ j, j ≠ i → u.record j = s.record j)
              ∧ (s.SumsRight → TreeRule s.tables.active → s.balancer.sums.length = 16 → u.SumsRight))

/-- A stale frame (R116, R117, R120, R124, R138) changes no entry, no record and no queue: the stale frames
counter goes up by 1 and nothing else happens. -/
def Obligations.StaleFrames : Prop :=
  ∀ (src tag : Byte) (s : State), s.hold = none →
    let stale (c : Instr) : Prop :=
      exec c s = .next (finish
        { s with ports.down.receiver := .hunting, ports.counters.staleFrames := bump s.ports.counters.staleFrames })
    (s.mapped src = none → ∀ a b c : Byte,
        stale (.transferAnswer src tag a b) ∧ stale (.transferReport src tag a b c) ∧ stale (.phaseAnswer src tag a b))
      ∧ (∀ verdict reason : Byte,
        verdict ≠ 1 → ¬ (verdict = 2 ∧ 1 ≤ reason.toNat ∧ reason.toNat ≤ 4) →
        stale (.transferAnswer src tag verdict reason))
      ∧ (∀ outcome reason phaseNow : Byte,
        3 < phaseNow.toNat ∨ outcome ≠ 1 ∧ ¬ (outcome = 2 ∧ 1 ≤ reason.toNat ∧ reason.toNat ≤ 4) →
        stale (.transferReport src tag outcome reason phaseNow))
      ∧ ∀ i, s.mapped src = some i → s.ScheduleRight →
        ((∀ e ∈ s.scheduler.schedule, e.consumer = i → e.tag = tag →
            e.stage = .accepted ∨ ∃ b, e.stage = .queued b) →
          ∀ a b, stale (.transferAnswer src tag a b))
          ∧ (∀ e ∈ s.scheduler.schedule, e.consumer = i → e.tag = tag → (∃ b, e.stage = .queued b) →
            ∀ a b c, stale (.transferReport src tag a b c))
          ∧ ((∀ e ∈ s.scheduler.schedule, e.consumer = i → e.tag ≠ tag) →
            (∀ r q, s.record i = some r → r.state = .querying q → r.lastTag ≠ some tag) →
            ∀ a b c, stale (.transferReport src tag a b c))
          ∧ (∀ a b : Byte,
            3 < a.toNat ∨ 1 < b.toNat
              ∨ (∀ r q left, s.record i = some r → r.state.query = some q → q.stage ≠ .asked tag left) →
            stale (.phaseAnswer src tag a b))

/-- The ends of an order's (R113), a query's (R135), a CYCLE MARK's, a notice's and a forwarded frame's
transmission (R176); an upstream end whose grant makes room for a response lets a request that waits be executed
(R172, R185). That an end commanded while no transmission lasts changes nothing is the model's choice (log 2). -/
def Obligations.TransmissionsEnd : Prop :=
  ∀ s : State, s.hold = none →
    (∀ f e r, s.ports.down.transmitter = .busy .order f → s.ScheduleRight →
        (s.scheduler.schedule.filter fun x => x.stage == .queued true) = [e] → s.record e.consumer = some r →
        exec .orderTransmissionEnd s = .next (finish
          { s with
            ports.down.transmitter := .idle
            scheduler.schedule := s.scheduler.schedule.map fun x =>
              if x.consumer = e.consumer then
                { x with stage := if ahead e.execute s.now then .sent else .unconfirmed }
              else x
            tables.consumers := s.tables.consumers.set e.consumer (some { r with lastTag := some e.tag }) }))
      ∧ (∀ f e rest r q, s.ports.down.transmitter = .busy .query f →
        s.scheduler.queries = ⟨e, true⟩ :: rest → s.record e = some r → r.state.query = some q →
        exec .queryTransmissionEnd s = .next (finish
          { s with
            ports.down.transmitter := .idle
            scheduler.queries := rest
            tables.consumers := s.tables.consumers.set e
              (some { r with
                state := r.state.withQuery ⟨.asked f.tag s.management.active.queryInterval, q.tries⟩ }) }))
      ∧ (∀ f, s.ports.down.transmitter = .busy .query f →
        (∀ e, s.scheduler.queries.head? = some e → e.inTransmission = false) →
        exec .queryTransmissionEnd s = .next (finish { s with ports.down.transmitter := .idle }))
      ∧ (∀ f source, s.ports.down.transmitter = .busy source f → (source = .mark ∨ source = .forward) →
        exec (.transmissionEnd .downstream) s = .next (finish { s with ports.down.transmitter := .idle }))
      ∧ (∀ f source, s.ports.up.transmitter = .busy source f → (source = .notice ∨ source = .forward) →
        s.management.requests = [] →
        exec (.transmissionEnd .upstream) s = .next (finish { s with ports.up.transmitter := .idle }))
      ∧ (∀ f straps, s.ports.up.transmitter = .busy .response f → s.management.restartPending = false →
        s.management.requests = [] →
        exec (.responseTransmissionEnd straps) s = .next (finish { s with ports.up.transmitter := .idle }))
      ∧ (∀ (c : Instr) (f : Frame) (source : Source), s.ports.up.transmitter = .busy source f →
        ((source = .notice ∨ source = .forward) ∧ c = .transmissionEnd .upstream
          ∨ source = .response ∧ s.management.restartPending = false ∧ ∃ straps, c = .responseTransmissionEnd straps) →
        let t := finish { s with ports.up.transmitter := .idle }
        (s.management.restartPending = true ∨ 4 ≤ t.ports.responses.length → exec c s = .next t)
          ∧ ∀ r, s.management.requests = [r] → s.management.restartPending = false → t.ports.responses.length < 4 →
            exec c s = .next (finish (perform r { t with management.requests := [] })))
      ∧ (s.ports.down.transmitter = .idle → exec .orderTransmissionEnd s = .next s
        ∧ exec .queryTransmissionEnd s = .next s ∧ exec (.transmissionEnd .downstream) s = .next s)
      ∧ (s.ports.up.transmitter = .idle → exec (.transmissionEnd .upstream) s = .next s
        ∧ ∀ straps, exec (.responseTransmissionEnd straps) s = .next s)

/-- A taken PHASE ANSWER settles its record or faults it (R139, R140), and a query deadline spends a try, the
last of them making the record SILENT (R136, R137). That CONSUMER FAULT carries the fields of R129 and no origin is
the model's choice (log 23), and so is that an answer with phase now none leaves the open bank unmarked (log 25). -/
def Obligations.QueriesEnd : Prop :=
  ∀ s : State, s.hold = none →
    (∀ (src tag a b : Byte) (i left tries : Nat) (r : Consumer), s.mapped src = some i → s.record i = some r →
        r.state.query = some ⟨.asked tag left, tries⟩ → b.toNat ≤ 1 →
        (∀ p, phaseCode p = a →
          ∃ u, exec (.phaseAnswer src tag a b) s = .next (finish u)
            ∧ (u.record i).map (fun r => { r with rescue := none })
              = some (let r' : Consumer :=
                  { r with rescue := none, state := .settled, assigned := p, allowed := r.allowed.set p true }
                if s.intake.secondOpen then { r' with secondBank := { r.secondBank with heard := true } }
                else { r' with firstBank := { r.firstBank with heard := true } })
            ∧ (∀ j, j ≠ i → u.record j = s.record j)
            ∧ u.scheduler = { s.scheduler with queries := s.scheduler.queries.filter fun x => x.consumer != i }
            ∧ u.ports.counters = s.ports.counters ∧ u.intake = s.intake ∧ u.management = s.management
            ∧ (s.rescue.event = none → s.rescue.list = [] → u.rescue = s.rescue ∧ u.ports.notices = s.ports.notices)
            ∧ (s.SumsRight → TreeRule s.tables.active → s.balancer.sums.length = 16 → u.SumsRight))
          ∧ (a = 0 →
            ∃ u, exec (.phaseAnswer src tag a b) s = .next (finish u)
              ∧ u.record i = some { r with state := .faulted .openContact }
              ∧ (∀ j, j ≠ i → u.record j = s.record j)
              ∧ u.scheduler = { s.scheduler with queries := s.scheduler.queries.filter fun x => x.consumer != i }
              ∧ (∀ j, j ∈ u.rescue.list ↔ j ∈ s.rescue.list ∧ j ≠ i)
              ∧ (s.management.active.mask.getLsbD 4 = true → s.ports.notices.length < 16 → s.rescue.event = none →
                u.ports.notices = s.ports.notices
                  ++ [⟨5, s.ports.lostNotices, s.now, [byte i, r.address, 1, tag]⟩])
              ∧ (s.SumsRight → TreeRule s.tables.active → s.balancer.sums.length = 16 → u.SumsRight)))
      ∧ ∃ u, exec .queryDeadline s = .next (finish u)
        ∧ (∀ i r, s.record i = some r →
          (∀ tag tries, r.state.query = some ⟨.asked tag 0, tries⟩ →
              (2 ≤ tries → u.record i = some { r with state := r.state.withQuery ⟨.waiting, tries - 1⟩ })
                ∧ (tries ≤ 1 → u.record i = some { r with state := .silent }))
            ∧ ((∀ tag tries, r.state.query ≠ some ⟨.asked tag 0, tries⟩) → u.record i = some r))
        ∧ u.scheduler.schedule = s.scheduler.schedule ∧ u.timebase = s.timebase ∧ u.management = s.management
        ∧ (s.SumsRight → TreeRule s.tables.active → s.balancer.sums.length = 16 → u.SumsRight)

/-- What a cycle end does to the exchanges (R107, R114, R119, R123, R136, R137), whichever of the orders that
R49 leaves open is taken: at an accepted crossing, and at a synthetic end with no sample point before it. -/
def Obligations.CycleEndRunsTheExchanges : Prop :=
  ∀ (c : Instr) (s : State), s.hold = none → s.ScheduleRight →
    ((∃ line sag, c = .zeroCrossingEdge line 0 sag ∧ line = s.timebase.reference
        ∧ s.timebase.reanchorPending = false ∧ s.earlyLimit ≤ s.timebase.tickCounter)
      ∨ c = .syntheticCycleEnd ∧ s.timebase.nextSample = none) →
    let now := s.now + 1
    ∃ u, exec c s = .next (finish u) ∧ u.now = now
      ∧ u.scheduler.schedule
        = (s.scheduler.schedule.filter fun e =>
            !(e.stage == .queued false && tooNear e.execute now)
              && !(e.deadline == now && (e.stage == .sent || e.stage == .accepted || e.stage == .unconfirmed))).map
          (fun e => if e.stage = .sent ∧ e.execute = now then { e with stage := .unconfirmed } else e)
      ∧ u.scheduler.latestExecute = s.scheduler.latestExecute.filter (fun x => ahead x now)
      ∧ u.scheduler.tagCounter = s.scheduler.tagCounter
      ∧ (∀ i r tag left tries, s.record i = some r → r.state.query = some ⟨.asked tag left, tries⟩ →
        ∃ t, u.record i = some t ∧ t.assigned = r.assigned ∧ t.allowed = r.allowed ∧ t.lastTag = r.lastTag
          ∧ t.state = (if 2 ≤ left then r.state.withQuery ⟨.asked tag (left - 1), tries⟩
            else if 2 ≤ tries then r.state.withQuery ⟨.waiting, tries - 1⟩
            else .silent))
      ∧ (∀ e ∈ s.scheduler.schedule, ∀ r, s.record e.consumer = some r →
        ∃ t, u.record e.consumer = some t
          ∧ t.state = (if e.stage = .queued false ∧ tooNear e.execute now = true then .settled
            else if e.deadline = now ∧ (e.stage = .sent ∨ e.stage = .accepted ∨ e.stage = .unconfirmed) then
              .querying ⟨.waiting, s.management.active.queryTries⟩
            else r.state))
      ∧ u.management = s.management ∧ u.tables.active = s.tables.active

/-! ### The ports -/

/-- The receiver takes the characters of a frame (R161, R162, R163): nothing comes of them before the last,
which brings the arrival of a frame whose check is right and the drop of one whose check is not; a length byte
above 48 and a framing error drop the frame; in HUNTING all but a start byte is discarded. -/
def Obligations.ReceiverTakesFrames : Prop :=
  let run (bytes : List Byte) : Receiver × Reception :=
    bytes.foldl (fun r c => receive r.1 c false) (.hunting, .nothing)
  (∀ f : Frame, f.payload.length ≤ 48 →
      run (frameBytes f)
          = (.hunting, if f.check = crc (checkedBytes f.dest f.src f.kind f.tag f.payload) then .arrived f else .dropped)
        ∧ ∀ n, 0 < n → n < (frameBytes f).length →
          run ((frameBytes f).take n) = (.receiving ((frameBytes f).take n), .nothing))
    ∧ (∀ dest src kind tag length : Byte, 48 < length.toNat →
      run [0xA5, dest, src, kind, tag, length] = (.hunting, .dropped))
    ∧ (∀ (collected : List Byte) (char : Byte), receive (.receiving collected) char true = (.hunting, .dropped))
    ∧ ∀ char : Byte, receive .hunting char true = (.hunting, .nothing)
      ∧ receive .hunting char false = (if char = 0xA5 then .receiving [0xA5] else .hunting, .nothing)

/-- What the characters of a port and the losses of a frame do (R163). What FRAME_DROPPED and RECEPTION_ABANDONED
find at the receiver is the model's choice (log 11). -/
def Obligations.CharactersAndDrops : Prop :=
  ∀ (char : Byte) (error : Bool) (s : State), s.hold = none →
    (∀ r, receive s.ports.up.receiver char error = (r, .nothing) →
        exec (.characterReceived .upstream char error) s = .next (finish { s with ports.up.receiver := r }))
      ∧ (∀ r, receive s.ports.down.receiver char error = (r, .nothing) →
        exec (.characterReceived .downstream char error) s = .next (finish { s with ports.down.receiver := r }))
      ∧ (∀ r, receive s.ports.up.receiver char error = (r, .dropped) →
        exec (.characterReceived .upstream char error) s = .next (finish
          { s with ports.up.receiver := r, ports.counters.badUp := bump s.ports.counters.badUp }))
      ∧ (∀ r, receive s.ports.down.receiver char error = (r, .dropped) →
        exec (.characterReceived .downstream char error) s = .next (finish
          { s with ports.down.receiver := r, ports.counters.badDown := bump s.ports.counters.badDown }))
      ∧ (∀ f, receive s.ports.up.receiver char error = (.hunting, .arrived f) →
        f = goodFrame f.dest f.src f.kind f.tag f.payload →
        exec (.characterReceived .upstream char error) s
          = exec (.upstreamFrameArrival f.dest f.src f.kind f.tag f.payload) s)
      ∧ (∀ f, receive s.ports.down.receiver char error = (.hunting, .arrived f) →
        f = goodFrame f.dest f.src f.kind f.tag f.payload →
        exec (.characterReceived .downstream char error) s
          = exec (.downstreamFrameArrival f.dest f.src f.kind f.tag f.payload) s)
      ∧ exec (.frameDropped .upstream) s = .next (finish
        { s with ports.up.receiver := .hunting, ports.counters.badUp := bump s.ports.counters.badUp })
      ∧ exec (.frameDropped .downstream) s = .next (finish
        { s with ports.down.receiver := .hunting, ports.counters.badDown := bump s.ports.counters.badDown })
      ∧ (s.ports.up.receiver ≠ .hunting →
        exec (.receptionAbandoned .upstream) s = .next (finish
          { s with ports.up.receiver := .hunting, ports.counters.badUp := bump s.ports.counters.badUp }))
      ∧ (s.ports.down.receiver ≠ .hunting →
        exec (.receptionAbandoned .downstream) s = .next (finish
          { s with ports.down.receiver := .hunting, ports.counters.badDown := bump s.ports.counters.badDown }))
      ∧ (s.ports.up.receiver = .hunting → exec (.receptionAbandoned .upstream) s = .next s)
      ∧ (s.ports.down.receiver = .hunting → exec (.receptionAbandoned .downstream) s = .next s)

/-- The path of a frame from upstream (R167, R168, R171). -/
def Obligations.FramesFromUpstream : Prop :=
  ∀ (dest src kind tag : Byte) (payload : List Byte) (s : State), s.hold = none → payload.length ≤ 48 →
    let f := goodFrame dest src kind tag payload
    let h : State := { s with ports.up.receiver := .hunting }
    (dest = s.ownAddress → kind = 0x50 → payload ≠ [] →
        exec (.upstreamFrameArrival dest src kind tag payload) s = exec (.managementRequest src tag payload) s)
      ∧ (dest = s.ownAddress → kind ≠ 0x50 ∨ payload = [] →
        exec (.upstreamFrameArrival dest src kind tag payload) s = .next (finish
          { h with ports.counters.misaddressed := bump s.ports.counters.misaddressed }))
      ∧ (∀ i, dest ≠ s.ownAddress → s.mapped dest = some i →
        let u : State := { h with ports.counters.foreignOrders := bump s.ports.counters.foreignOrders }
        let blocked : State :=
          if s.management.active.mask.getLsbD 11 then
            if s.ports.notices.length < 16 then
              { u with
                ports.notices := s.ports.notices ++ [⟨12, s.ports.lostNotices, s.now, [dest, byte i, src, tag]⟩]
                ports.lostNotices := 0 }
            else { u with ports.lostNotices := raise 255 s.ports.lostNotices }
          else u
        (kind = 0x30 → exec (.upstreamFrameArrival dest src kind tag payload) s = .next (finish blocked))
          ∧ ∀ (target gap : Byte) (execute : Word16),
            exec (.foreignOrder dest src tag target execute gap) s = .next (finish blocked))
      ∧ (dest ≠ s.ownAddress → kind ≠ 0x30 ∨ s.mapped dest = none →
        exec (.upstreamFrameArrival dest src kind tag payload) s = .next (finish
          (if s.ports.down.forward.length < 16 then { h with ports.down.forward := s.ports.down.forward ++ [f] }
          else { h with ports.counters.downDrops := bump s.ports.counters.downDrops })))
      ∧ ∀ (target gap : Byte) (execute : Word16), dest = s.ownAddress ∨ s.mapped dest = none →
        exec (.foreignOrder dest src tag target execute gap) s
          = exec (.upstreamFrameArrival dest src 0x30 tag (target :: be2 execute.toNat ++ [gap])) s

/-- The path of a frame from downstream (R166, R169, R171). -/
def Obligations.FramesFromDownstream : Prop :=
  ∀ (dest src kind tag : Byte) (payload : List Byte) (s : State), s.hold = none → payload.length ≤ 48 →
    let f := goodFrame dest src kind tag payload
    let h : State := { s with ports.down.receiver := .hunting }
    let arrival := exec (.downstreamFrameArrival dest src kind tag payload) s
    (dest = s.ownAddress → kind ≠ 0x31 → kind ≠ 0x32 → kind ≠ 0x35 →
        arrival = .next (finish { h with ports.counters.misaddressed := bump s.ports.counters.misaddressed }))
      ∧ (∀ a b : Byte, dest = s.ownAddress → kind = 0x31 → payload = [a, b] →
        arrival = exec (.transferAnswer src tag a b) s)
      ∧ (∀ a b c : Byte, dest = s.ownAddress → kind = 0x32 → payload = [a, b, c] →
        arrival = exec (.transferReport src tag a b c) s)
      ∧ (∀ a b : Byte, dest = s.ownAddress → kind = 0x35 → payload = [a, b] →
        arrival = exec (.phaseAnswer src tag a b) s)
      ∧ (dest = s.ownAddress →
        (kind = 0x31 ∨ kind = 0x35) ∧ payload.length ≠ 2 ∨ kind = 0x32 ∧ payload.length ≠ 3 →
        arrival = .next (finish { h with ports.counters.staleFrames := bump s.ports.counters.staleFrames }))
      ∧ (∀ (reading : Word16) (supply interval : Byte), kind = 0x21 →
        payload = be2 reading.toNat ++ [supply, interval] →
        arrival = exec (.loadReading dest src tag reading supply interval) s)
      ∧ (dest ≠ s.ownAddress →
        (kind ≠ 0x21 ∨ s.mapped src = none ∨ payload.length ≠ 4 ∨ ∃ supply, payload[2]? = some supply ∧ 1 < supply.toNat) →
        arrival = .next (finish
          (if s.ports.up.forward.length < 32 then { h with ports.up.forward := s.ports.up.forward ++ [f] }
          else { h with ports.counters.upDrops := bump s.ports.counters.upDrops })))

/-- The grants of the two arbiters, by rank and burst count, with the frame each starts (R61, R112, R134, R173,
R174, R179). A grant to the order source withdraws the entries too near before anything else, and is then the grant
that the state so left asks for, with an order source that has nothing left among those that do not wait (R111,
R175). -/
def Obligations.GrantsFollowRank : Prop :=
  ∀ s : State,
    (s.ports.down.transmitter = .idle →
        let full : Prop := 2 ^ s.management.active.burstLimit ≤ s.ports.down.burst ∧ s.ports.down.forward ≠ []
        let burst := if s.ports.down.forward = [] then 0 else raise 16 s.ports.down.burst
        let order : Prop := s.timebase.sync = .synced ∧ ∃ e ∈ s.scheduler.schedule, e.stage = .queued false
        let query : Prop := ∃ e rest, s.scheduler.queries = ⟨e, false⟩ :: rest
        (s.timebase.markWaiting = true →
            grantDown s
              = { s with
                  timebase.markWaiting := false
                  ports.down.transmitter := .busy .mark (goodFrame 0 s.ownAddress 0x40 0
                    (be2 s.now.toNat ++ be2 s.timebase.tickCounter ++ [flagByte s.synced])) })
          ∧ (s.timebase.markWaiting = false → ∀ f rest, s.ports.down.forward = f :: rest →
            full ∨ ¬ order ∧ ¬ query →
            grantDown s
              = { s with ports.down := { s.ports.down with transmitter := .busy .forward f, burst := 0, forward := rest } })
          ∧ (s.timebase.markWaiting = false → ¬ full → s.timebase.sync = .synced →
            ∀ before e after r, s.scheduler.schedule = before ++ e :: after → e.stage = .queued false →
            s.ScheduleRight → s.record e.consumer = some r →
            (∀ x ∈ before, x.stage ≠ .queued false) →
            (∀ x ∈ e :: after, x.stage = .queued false → tooNear x.execute s.now = false) →
            grantDown s
              = { s with
                  scheduler.schedule := before ++ { e with stage := .queued true } :: after
                  ports.down.transmitter := .busy .order (goodFrame r.address s.ownAddress 0x30 e.tag
                    (phaseCode e.target :: be2 e.execute.toNat ++ [byte s.management.active.transferGap]))
                  ports.down.burst := burst })
          ∧ (s.timebase.markWaiting = false → ¬ full → ¬ order →
            ∀ i rest r, s.scheduler.queries = ⟨i, false⟩ :: rest → s.record i = some r →
            grantDown s
              = { s with
                  scheduler.queries := ⟨i, true⟩ :: rest
                  scheduler.tagCounter := nextTag s.scheduler.tagCounter
                  ports.down.transmitter := .busy .query
                    (goodFrame r.address s.ownAddress 0x34 s.scheduler.tagCounter [])
                  ports.down.burst := burst })
          ∧ (s.timebase.markWaiting = false → ¬ full → order → s.ScheduleRight →
            let gone := s.scheduler.schedule.filter fun e => e.stage == .queued false && tooNear e.execute s.now
            ∃ u, grantDown s = grantDown u
              ∧ u.scheduler = { s.scheduler with schedule := s.scheduler.schedule.filter fun e => !gone.contains e }
              ∧ u.ScheduleRight
              ∧ (∀ i, (u.record i).map (fun r => { r with rescue := none })
                = (s.record i).map fun r =>
                  { r with
                    rescue := none, state := if gone.any (fun e => e.consumer == i) then .settled else r.state })
              ∧ u.ports.down = s.ports.down ∧ u.timebase = s.timebase ∧ u.management = s.management
              ∧ u.straps = s.straps ∧ u.tables.active = s.tables.active
              ∧ (s.management.active.mask.getLsbD 2 = true → s.rescue.event = none →
                s.ports.notices.length + gone.length ≤ 16 →
                u.ports.notices.map Notice.fields = s.ports.notices.map Notice.fields ++ gone.map fun e =>
                  [byte e.consumer, s.addressOf e.consumer, e.tag, e.origin.code, phaseCode e.fromPhase,
                    phaseCode e.target, 1, 9, 0])
              ∧ ((∀ e ∈ s.scheduler.schedule, e.stage = .queued false → tooNear e.execute s.now = true) →
                ¬ query → s.ports.down.forward = [] → grantDown s = u))
          ∧ (s.timebase.markWaiting = false → ¬ order → ¬ query → s.ports.down.forward = [] → grantDown s = s))
      ∧ (s.ports.up.transmitter = .idle →
        let full : Prop := 2 ^ s.management.active.burstLimit ≤ s.ports.up.burst ∧ s.ports.up.forward ≠ []
        let burst := if s.ports.up.forward = [] then 0 else raise 16 s.ports.up.burst
        (∀ f rest, s.ports.up.forward = f :: rest → full ∨ s.ports.responses = [] ∧ s.ports.notices = [] →
            grantUp s
              = { s with ports.up := { s.ports.up with transmitter := .busy .forward f, burst := 0, forward := rest } })
          ∧ (∀ f rest, ¬ full → s.ports.responses = f :: rest →
            grantUp s
              = { s with
                  ports.responses := rest, ports.up.transmitter := .busy .response f, ports.up.burst := burst })
          ∧ (∀ n rest, ¬ full → s.ports.responses = [] → s.ports.notices = n :: rest →
            grantUp s
              = { s with
                  ports.notices := rest, ports.up.burst := burst
                  ports.up.transmitter := .busy .notice (goodFrame 255 s.ownAddress 0x58 0
                    (n.kind :: byte n.lost :: be2 n.cycle.toNat ++ n.fields)) })
          ∧ (s.ports.responses = [] → s.ports.notices = [] → s.ports.up.forward = [] → grantUp s = s))

/-- The end of an event leaves no source waiting at an idle transmitter (R173), no query to fill in while the
queue has room (R132), and no draw that could be made (R150); and it leaves all else as it is. -/
def Obligations.TheEndOfAnEventServesAll : Prop :=
  ∀ s : State, s.KeepsRest (finish s)
    ∧ ((finish s).ports.up.transmitter = .idle →
      (finish s).ports.responses = [] ∧ (finish s).ports.notices = [] ∧ (finish s).ports.up.forward = [])
    ∧ ((finish s).ports.down.transmitter = .idle →
      (finish s).timebase.markWaiting = false ∧ (finish s).ports.down.forward = []
        ∧ (finish s).orderWaiting = false ∧ (finish s).queryHead = none)
    ∧ ((finish s).scheduler.queries.length < 8 → ∀ i r q, (finish s).record i = some r →
      r.state.query = some q → q.stage ≠ .waiting)
    ∧ (s.Bounded → (finish s).drawsAllowed = true → ∀ i ∈ (finish s).rescue.list, ∀ r,
      (finish s).record i = some r → r.state ≠ .settled)

/-! ### Management requests -/

/-- A request of each kind is a MANAGEMENT REQUEST that carries its kind's code (R188) and arrives upstream, which
is the model's choice (log 8); it is executed in its arrival event, or waits, or is dropped (R184, R185); and
one that waits is executed in the event that frees a place for its response (R172, R185). -/
def Obligations.RequestsAreExecutedInTurn : Prop :=
  (∀ (src tag : Byte) (args : List Byte) (s : State),
      let is (c : Instr) (payload : List Byte) : Prop := exec c s = exec (.managementRequest src tag payload) s
      is (.readStatus src tag args) (0x01 :: args) ∧ is (.readPolicy src tag args) (0x02 :: args)
        ∧ is (.writePolicy src tag args) (0x03 :: args) ∧ is (.readSegment src tag args) (0x04 :: args)
        ∧ is (.writeSegment src tag args) (0x05 :: args) ∧ is (.readConsumer src tag args) (0x06 :: args)
        ∧ is (.writeConsumer src tag args) (0x07 :: args) ∧ is (.clearConsumer src tag args) (0x08 :: args)
        ∧ is (.readSums src tag args) (0x09 :: args) ∧ is (.setLock src tag args) (0x0A :: args)
        ∧ is (.clearFault src tag args) (0x0B :: args) ∧ is (.manualMove src tag args) (0x0C :: args)
        ∧ is (.cancelMoves src tag args) (0x0D :: args) ∧ is (.balancerControlStart src tag) [0x0E, 1]
        ∧ is (.balancerControlHold src tag) [0x0E, 2] ∧ is (.balancerControlStop src tag) [0x0E, 3]
        ∧ is (.balancerControlOtherAction src tag args) (0x0E :: args)
        ∧ is (.readSchedule src tag args) (0x0F :: args) ∧ is (.restart src tag args) (0x10 :: args)
        ∧ ∀ kind, is (.unknownKind src tag kind args) (kind :: args))
    ∧ ∀ s : State, s.hold = none →
        (∀ (src tag : Byte) (payload : List Byte), payload ≠ [] → payload.length ≤ 48 →
            (s.TakesRequests → exec (.managementRequest src tag payload) s = .next (finish
              (perform ⟨src, tag, payload⟩ { s with ports.up.receiver := .hunting })))
              ∧ (s.management.restartPending = true ∨ 4 ≤ s.ports.responses.length →
                exec (.managementRequest src tag payload) s = .next (finish
                  (if s.management.requests.length < 4 then
                    { s with
                      ports.up.receiver := .hunting
                      management.requests := s.management.requests ++ [⟨src, tag, payload⟩] }
                  else
                    { s with
                      ports.up.receiver := .hunting
                      ports.counters.requestDrops := bump s.ports.counters.requestDrops }))))
          ∧ ∀ (straps : Straps) (f g : Frame) (rest : List Frame) (r : Request),
            s.ports.up.transmitter = .busy .response f → s.management.restartPending = false →
            s.management.requests = [r] → s.ports.responses = g :: rest → rest.length ≤ 3 →
            s.ports.up.forward = [] →
            ∃ t, t = finish { s with ports.up.transmitter := .idle }
              ∧ t.ports.responses = rest ∧ t.ports.up.transmitter = .busy .response g
              ∧ exec (.responseTransmissionEnd straps) s = .next (finish
                (perform r { t with management.requests := [] }))

/-- The reads answer with what stands when they are executed and change nothing but the response queue (R7,
R21, R188, R189, R190, R194). The two bytes after the tries-left of READ CONSUMER are 0 in WAITING and QUEUED by the
model's choice (log 24). -/
def Obligations.ReadsAnswer : Prop :=
  ∀ (src tag : Byte) (s : State), s.TakesRequests →
    let answers (c : Instr) (payload : List Byte) : Prop := exec c s = .next (finish (s.answered src tag payload))
    (∀ args : List Byte, args.length ≠ 1 → args.length < 48 →
        answers (.readStatus src tag args) [0x01, 3] ∧ answers (.readPolicy src tag args) [0x02, 3]
          ∧ answers (.readSegment src tag args) [0x04, 3] ∧ answers (.readConsumer src tag args) [0x06, 3]
          ∧ answers (.readSums src tag args) [0x09, 3])
      ∧ (∀ i : Byte, 3 < i.toNat → answers (.readStatus src tag [i]) [0x01, 2])
      ∧ answers (.readStatus src tag [0]) ([0x01, 0, startRecordByte s.management.startRecord]
        ++ be4 s.timebase.cycleCount.toNat ++ [s.timebase.sync.code, phaseCode s.timebase.reference]
        ++ be2 s.timebase.activePeriod ++ [byte s.timebase.markCounter, byte s.intake.windowCounter]
        ++ (match s.intake.fold with
          | .idle => [0, 0]
          | .folding i _ _ => [1, byte i])
        ++ [byte s.balancer.remaining, s.balancer.state.code])
      ∧ answers (.readStatus src tag [1]) (([0x01, 0] : List Byte) ++ [Phase.l1, Phase.l2, Phase.l3].flatMap fun p =>
        [(s.watch p).condition.code, flagByte (s.watch p).sagActive, flagByte (s.watch p).present]
          ++ be2 (match (s.watch p).condition with
            | .sag n => n
            | .recovering n => n
            | .healthy | .lost => 0))
      ∧ answers (.readStatus src tag [2]) (([0x01, 0] : List Byte) ++ (counterList s.ports.counters).flatMap be2
        ++ [byte s.ports.down.forward.length, byte s.ports.up.forward.length, byte s.ports.notices.length,
          byte s.ports.responses.length, 0, byte s.ports.lostNotices])
      ∧ (∃ data, answers (.readStatus src tag [3]) (([0x01, 0] : List Byte) ++ data) ∧ (s.QueuesFit → data.length = 18)
        ∧ data.head? = some (byte s.scheduler.queries.length)
        ∧ (∀ k < 8, data[1 + k]? = some (match s.scheduler.queries[k]? with
          | some e => byte e.consumer
          | none => 255))
        ∧ data[9]? = some (flagByte (s.scheduler.queries.any fun (e : QueryEntry) => e.inTransmission))
        ∧ data[10]? = some (flagByte s.rescue.event.isSome)
        ∧ data[11]? = some (match s.rescue.event with
          | some ev => phaseSetCode ev.covered
          | none => 0)
        ∧ (data.drop 12).take 4 = [byte s.rescue.rescued, byte s.rescue.unrescuable, byte s.rescue.restored,
          byte s.rescue.list.length]
        ∧ data.drop 16 = (match s.rescue.list.find? s.isSettled with
          | some i => [1, byte i]
          | none => [0, 0]))
      ∧ (∀ copy : Byte, 1 < copy.toNat → answers (.readPolicy src tag [copy]) [0x02, 3])
      ∧ answers (.readPolicy src tag [0])
        ([0x02, 0, flagByte s.management.policyPending] ++ policyBytes s.management.active)
      ∧ answers (.readPolicy src tag [1])
        ([0x02, 0, flagByte s.management.policyPending] ++ policyBytes s.management.shadow)
      ∧ (∀ i : Byte, 16 ≤ i.toNat →
        answers (.readSegment src tag [i]) [0x04, 2] ∧ answers (.readSums src tag [i]) [0x09, 2])
      ∧ (∀ i : Byte, i.toNat < 16 → s.tables.marks[i.toNat]? = some false →
        answers (.readSegment src tag [i])
          ([0x04, 0] ++ segmentBytes (segmentAt s.tables.active i.toNat) ++ [0, 0, 0, 0, 0, 0]))
      ∧ (∀ i : Byte, i.toNat < 16 → s.tables.marks[i.toNat]? = some true →
        answers (.readSegment src tag [i])
          ([0x04, 0] ++ segmentBytes (segmentAt s.tables.active i.toNat) ++ [1]
            ++ segmentBytes (segmentAt s.tables.shadow i.toNat)))
      ∧ (∀ i : Byte, i.toNat < 16 → (segmentAt s.tables.active i.toNat).valid = false →
        answers (.readSums src tag [i]) [0x09, 5])
      ∧ (∀ i : Byte, i.toNat < 16 → (segmentAt s.tables.active i.toNat).valid = true →
        let e (p : Phase) : Int := sumAt s.balancer.sums i.toNat p
        answers (.readSums src tag [i]) ([0x09, 0] ++ signed4 (e .l1) ++ signed4 (e .l2) ++ signed4 (e .l3)
          ++ signed4 (max (e .l1) (max (e .l2) (e .l3)) - min (e .l1) (min (e .l2) (e .l3)))
          ++ signed4 (cost s.tables.active s.balancer.sums)))
      ∧ (∀ i : Byte, 240 ≤ i.toNat → answers (.readConsumer src tag [i]) [0x06, 2])
      ∧ (∀ i : Byte, i.toNat < 240 → s.record i.toNat = none → answers (.readConsumer src tag [i]) [0x06, 0, 0])
      ∧ ∀ (i : Byte) (r : Consumer), i.toNat < 240 → s.record i.toNat = some r →
        ∃ data : List Byte, answers (.readConsumer src tag [i]) ([0x06, 0] ++ data) ∧ data.length = 34
          ∧ data.take 8 = [r.state.code, r.address, byte r.segment, phaseSetCode r.allowed, phaseCode r.assigned,
            flagByte r.lock, byte r.priority, byte r.moveCount]
          ∧ (data.drop 8).take 5 = (match r.lastMove with
            | some c => 1 :: be4 c.toNat
            | none => [0, 0, 0, 0, 0])
          ∧ (data.drop 13).take 6 = signed2 r.fresh ++ [flagByte r.seeded] ++ signed2 r.stable ++ [byte r.silence]
          ∧ (r.state.moving = false → (data.drop 19).take 5 = [0, 0, 0, 0, 0])
          ∧ (∀ e, r.state.moving = true → (s.scheduler.schedule.filter fun x => x.consumer == i.toNat) = [e] →
            (data.drop 19).take 5 = 1 :: phaseCode e.target :: be2 e.execute.toNat ++ [e.tag])
          ∧ (data.drop 24).take 2 = (match r.lastTag with
            | some tag => [1, tag]
            | none => [0, 0])
          ∧ (data.drop 26).take 5 = (match r.state.query with
            | some ⟨.waiting, tries⟩ => [1, 1, byte tries, 0, 0]
            | some ⟨.queued, tries⟩ => [1, 2, byte tries, 0, 0]
            | some ⟨.asked tag left, tries⟩ => [1, 3, byte tries, tag, byte left]
            | none => [0, 0, 0, 0, 0])
          ∧ (data.drop 31).take 1 = (match r.state with
            | .faulted .openContact => [1]
            | .faulted .contactFault => [2]
            | _ => [0])
          ∧ data.drop 32 = (match r.rescue with
            | some m => [1, byte m.attempts]
            | none => [0, 0])

/-- READ SCHEDULE (R195): the header and up to 3 entries from the first position on. -/
def Obligations.ReadScheduleAnswers : Prop :=
  ∀ (src tag first : Byte) (s : State), s.TakesRequests →
    (7 < first.toNat →
        exec (.readSchedule src tag [first]) s = .next (finish (s.answered src tag [0x0F, 2])))
      ∧ (first.toNat ≤ 7 →
        let entries := (s.scheduler.schedule.drop first.toNat).take 3
        exec (.readSchedule src tag [first]) s = .next (finish (s.answered src tag
          ([0x0F, 0, byte s.scheduler.schedule.length, first, byte entries.length]
            ++ (match s.scheduler.latestExecute with
              | some x => 1 :: be2 x.toNat
              | none => [0, 0, 0])
            ++ [s.scheduler.tagCounter] ++ be2 s.now.toNat
            ++ entries.flatMap fun e =>
              ([byte e.consumer, e.tag, match e.origin with
                | .balance => 1
                | .rescue => 2
                | .manual => 3, phaseCode e.fromPhase, phaseCode e.target] : List Byte)
              ++ be2 e.execute.toNat ++ be2 e.deadline.toNat
              ++ (match e.stage with
                | .queued false => ([1, 0] : List Byte)
                | .queued true => [1, 1]
                | .sent => [2, 0]
                | .accepted => [3, 0]
                | .unconfirmed => [4, 0])))))

/-- WRITE POLICY (R191, R192) and WRITE SEGMENT (R4, R5, R196), and the adoption that follows an accepted write
while STOPPED (R83, R41). -/
def Obligations.PolicyAndSegmentWrites : Prop :=
  ∀ (src tag : Byte) (s : State), s.TakesRequests →
    let refused (c : Instr) (payload : List Byte) : Prop := exec c s = .next (finish (s.answered src tag payload))
    let written (c : Instr) (t : State) (payload : List Byte) : Prop :=
      (s.balancer.state ≠ .stopped → exec c s = .next (finish (t.answered src tag payload)))
        ∧ (s.balancer.state = .stopped →
          ∃ u : State, exec c s = .next (finish (u.answered src tag payload))
            ∧ u.tables.active = t.tables.shadow ∧ u.tables.shadow = t.tables.shadow
            ∧ u.tables.marks = List.replicate 16 false ∧ u.management.active = t.management.shadow
            ∧ u.management.shadow = t.management.shadow ∧ u.management.policyPending = false
            ∧ u.balancer.state = .stopped
            ∧ u.balancer.remaining = min s.balancer.remaining t.management.shadow.passDivider
            ∧ u.tables.consumers = s.tables.consumers ∧ u.scheduler = s.scheduler ∧ u.timebase = s.timebase
            ∧ u.intake = s.intake ∧ u.supervision.phases = s.supervision.phases
            ∧ (t.tables.shadow ≠ s.tables.active → TreeRule t.tables.shadow → u.SumsRight)
            ∧ (t.tables.shadow = s.tables.active → u.balancer.sums = s.balancer.sums))
    (∀ args : List Byte, args.length ≠ 40 → args.length < 48 → refused (.writePolicy src tag args) [0x03, 3])
      ∧ (∀ args : List Byte, args.length = 40 → policyOfBytes args = none →
        refused (.writePolicy src tag args) [0x03, 3])
      ∧ (∀ (args : List Byte) (p : Policy), args.length = 40 → policyOfBytes args = some p →
        written (.writePolicy src tag args)
          { s with management.shadow := clampPolicy p, management.policyPending := true }
          [0x03, if clampPolicy p = p then 0 else 1])
      ∧ (∀ args : List Byte, args.length ≠ 8 → args.length < 48 → refused (.writeSegment src tag args) [0x05, 3])
      ∧ ∀ i valid parent weight l0 l1 l2 l3 : Byte,
        let c : Instr := .writeSegment src tag [i, valid, parent, weight, l0, l1, l2, l3]
        let limit := beNat [l0, l1, l2, l3]
        let accepted : Prop := written c
          { s with
            tables.shadow := s.tables.shadow.set i.toNat
              ⟨decide (valid = 1), if i = 0 ∨ valid = 0 then none else some parent.toNat, min weight.toNat 15,
                min limit 65535⟩
            tables.marks := s.tables.marks.set i.toNat true }
          [0x05, if weight.toNat ≤ 15 ∧ limit ≤ 65535 then 0 else 1]
        (16 ≤ i.toNat → refused c [0x05, 2])
          ∧ (i.toNat < 16 → 1 < valid.toNat → refused c [0x05, 3])
          ∧ (i = 0 → valid = 0 → refused c [0x05, 6])
          ∧ (i = 0 → valid = 1 → accepted)
          ∧ (1 ≤ i.toNat → i.toNat < 16 → valid = 1 →
            (i.toNat ≤ parent.toNat ∨ (segmentAt s.tables.shadow parent.toNat).valid = false → refused c [0x05, 6])
              ∧ (parent.toNat < i.toNat → (segmentAt s.tables.shadow parent.toNat).valid = true → accepted))
          ∧ (1 ≤ i.toNat → i.toNat < 16 → valid = 0 →
            let used : Prop := (∃ j r, s.record j = some r ∧ r.segment = i.toNat)
              ∨ ∃ seg ∈ s.tables.shadow, seg.valid = true ∧ seg.parent = some i.toNat
            (used → refused c [0x05, 6]) ∧ (¬ used → accepted))

/-- The policy record (R193): its 40 bytes hold every field of a policy in range, and the clamped write of any
other lies in range (R191). -/
def Obligations.PolicyRecordRoundTrip : Prop :=
  (∀ p : Policy, p.InRange → (policyBytes p).length = 40 ∧ policyOfBytes (policyBytes p) = some p)
    ∧ (∀ (args : List Byte) (p : Policy), args.length = 40 → policyOfBytes args = some p → (clampPolicy p).InRange)
    ∧ Policy.cold.InRange
    ∧ (policyOfBytes (policyBytes Policy.cold)).map policyBytes = some
      [50, 2, 6, 1, 0, 0, 1, 0x90, 0, 20, 2, 25, 50, 5, 25, 2, 25, 3, 0x0A, 0xFD, 4, 0, 0x41, 0xEB, 0, 6, 1, 50,
        1, 4, 10, 0x0B, 0xB8, 8, 2, 1, 0, 3, 0x0F, 0xFF]

/-- WRITE CONSUMER (R16 to R19, R196): its refusals in order, the record it makes, and the neighbouring state it
keeps in step. -/
def Obligations.WriteConsumer : Prop :=
  ∀ (src tag i address segment allowed assigned lock priority : Byte) (s : State), s.TakesRequests →
    let c : Instr := .writeConsumer src tag [i, address, segment, allowed, assigned, lock, priority]
    let no (code : Byte) : Prop := exec c s = .next (finish (s.answered src tag [0x07, code]))
    let busy : Prop := ∃ r, s.record i.toNat = some r ∧
      (r.state = .ordered ∨ r.state = .accepted ∨ ∃ q, r.state = .querying q)
    let bad : Prop := address.toNat < 1 ∨ 239 < address.toNat ∨ 16 ≤ segment.toNat
      ∨ (segmentAt s.tables.shadow segment.toNat).valid = false ∨ 1 < lock.toNat
      ∨ allowed = 0 ∨ 7 < allowed.toNat ∨ assigned = 0 ∨ 3 < assigned.toNat
      ∨ allowed.getLsbD (assigned.toNat - 1) = false
    let taken : Prop := ∃ j, s.mapped address = some j ∧ j ≠ i.toNat
    (240 ≤ i.toNat → no 2)
      ∧ (i.toNat < 240 → busy → no 4)
      ∧ (i.toNat < 240 → ¬ busy → bad → no 3)
      ∧ (i.toNat < 240 → ¬ busy → ¬ bad → taken → no 7)
      ∧ (i.toNat < 240 → ¬ busy → ¬ bad → ¬ taken → s.Bounded →
        ∃ u t, exec c s = .next (finish (State.answered u src tag [0x07, if priority.toNat ≤ 3 then 0 else 1]))
          ∧ u.record i.toNat = some t
          ∧ t.state = .unverified ⟨.waiting, s.management.active.queryTries⟩ ∧ t.address = address
          ∧ t.segment = segment.toNat ∧ phaseSetCode t.allowed = allowed ∧ phaseCode t.assigned = assigned
          ∧ flagByte t.lock = lock ∧ t.priority = min priority.toNat 3 ∧ t.silence = 0 ∧ t.rescue = none
          ∧ (∀ r, s.record i.toNat = some r → r.address = address →
            t.fresh = r.fresh ∧ t.stable = r.stable ∧ t.seeded = r.seeded ∧ t.firstBank = r.firstBank
              ∧ t.secondBank = r.secondBank ∧ t.forward = r.forward ∧ t.moveCount = r.moveCount
              ∧ t.lastMove = r.lastMove ∧ t.lastTag = r.lastTag)
          ∧ ((∀ r, s.record i.toNat = some r → r.address ≠ address) →
            t.fresh = 0 ∧ t.stable = 0 ∧ t.seeded = false ∧ t.firstBank = ⟨0, 0, false⟩
              ∧ t.secondBank = ⟨0, 0, false⟩ ∧ t.forward = 0 ∧ t.moveCount = 0 ∧ t.lastMove = none
              ∧ t.lastTag = none)
          ∧ (∀ j, j ≠ i.toNat → u.record j = s.record j)
          ∧ u.mapped address = some i.toNat
          ∧ (∀ r, s.record i.toNat = some r → r.address ≠ address → u.mapped r.address = none)
          ∧ (∀ a, a ≠ address → (∀ r, s.record i.toNat = some r → a ≠ r.address) → u.mapped a = s.mapped a)
          ∧ u.scheduler = { s.scheduler with
              queries := s.scheduler.queries.filter fun x => x.consumer != i.toNat }
          ∧ (∀ j, j ∈ u.rescue.list ↔ j ∈ s.rescue.list ∧ j ≠ i.toNat)
          ∧ u.rescue.unrescuable = s.rescue.unrescuable ∧ u.management = s.management
          ∧ u.tables.active = s.tables.active ∧ u.tables.shadow = s.tables.shadow ∧ u.timebase = s.timebase
          ∧ (s.SumsRight → TreeRule s.tables.active → u.SumsRight))

/-- CLEAR CONSUMER (R20), SET LOCK (R23, R196) and CLEAR FAULT (R143). -/
def Obligations.ClearsAndLocks : Prop :=
  ∀ (src tag i : Byte) (s : State), s.TakesRequests →
    let answers (c : Instr) (t : State) (payload : List Byte) : Prop :=
      exec c s = .next (finish (t.answered src tag payload))
    (240 ≤ i.toNat → answers (.clearConsumer src tag [i]) s [0x08, 2]
        ∧ (∀ lock, answers (.setLock src tag [i, lock]) s [0x0A, 2]) ∧ answers (.clearFault src tag [i]) s [0x0B, 2])
      ∧ (∀ args : List Byte, args.length ≠ 1 → args.length < 48 →
        answers (.clearConsumer src tag args) s [0x08, 3] ∧ answers (.clearFault src tag args) s [0x0B, 3])
      ∧ (∀ args : List Byte, args.length ≠ 2 → args.length < 48 → answers (.setLock src tag args) s [0x0A, 3])
      ∧ (i.toNat < 240 → s.record i.toNat = none →
        answers (.clearConsumer src tag [i]) s [0x08, 0] ∧ answers (.clearFault src tag [i]) s [0x0B, 5]
          ∧ ∀ lock : Byte, lock.toNat ≤ 1 → answers (.setLock src tag [i, lock]) s [0x0A, 5])
      ∧ (i.toNat < 240 → ∀ lock : Byte, 1 < lock.toNat → answers (.setLock src tag [i, lock]) s [0x0A, 3])
      ∧ ∀ r, i.toNat < 240 → s.record i.toNat = some r →
        ((r.state = .ordered ∨ r.state = .accepted ∨ ∃ q, r.state = .querying q) →
            answers (.clearConsumer src tag [i]) s [0x08, 4])
          ∧ (r.state ≠ .ordered → r.state ≠ .accepted → (∀ q, r.state ≠ .querying q) → s.MapRight → s.Bounded →
            ∃ u : State, answers (.clearConsumer src tag [i]) u [0x08, 0]
              ∧ u.record i.toNat = none ∧ (∀ j, j ≠ i.toNat → u.record j = s.record j)
              ∧ u.mapped r.address = none ∧ (∀ a, a ≠ r.address → u.mapped a = s.mapped a)
              ∧ u.scheduler = { s.scheduler with
                  queries := s.scheduler.queries.filter fun x => x.consumer != i.toNat }
              ∧ (∀ j, j ∈ u.rescue.list ↔ j ∈ s.rescue.list ∧ j ≠ i.toNat)
              ∧ u.rescue.unrescuable = s.rescue.unrescuable ∧ u.management = s.management
              ∧ (s.SumsRight → TreeRule s.tables.active → u.SumsRight))
          ∧ answers (.setLock src tag [i, 0])
            { s with tables.consumers := s.tables.consumers.set i.toNat (some { r with lock := false }) } [0x0A, 0]
          ∧ (∃ u : State, answers (.setLock src tag [i, 1]) u [0x0A, 0]
            ∧ u.tables
              = { s.tables with
                  consumers := s.tables.consumers.set i.toNat (some { r with lock := true, rescue := none }) }
            ∧ (∀ j, j ∈ u.rescue.list ↔ j ∈ s.rescue.list ∧ j ≠ i.toNat)
            ∧ u.rescue.unrescuable = s.rescue.unrescuable ∧ u.scheduler = s.scheduler
            ∧ u.balancer = s.balancer ∧ u.management = s.management ∧ u.timebase = s.timebase)
          ∧ ((∀ x, r.state ≠ .faulted x) → answers (.clearFault src tag [i]) s [0x0B, 5])
          ∧ ∀ x, r.state = .faulted x →
            ∃ u : State, answers (.clearFault src tag [i]) u [0x0B, 0]
              ∧ (u.record i.toNat).map (fun r => { r with rescue := none })
                = some { r with
                    rescue := none, state := .unverified ⟨.waiting, s.management.active.queryTries⟩ }
              ∧ (∀ j, j ≠ i.toNat → u.record j = s.record j) ∧ u.scheduler = s.scheduler
              ∧ u.ports.notices = s.ports.notices ∧ u.management = s.management
              ∧ (s.rescue.event = none → u.rescue = s.rescue)
              ∧ (s.SumsRight → TreeRule s.tables.active → s.balancer.sums.length = 16 → u.SumsRight)

/-- BALANCER CONTROL (R79, R80), RESTART (R197) and the unknown kinds (R187). -/
def Obligations.ControlRestartAndUnknownKinds : Prop :=
  ∀ (src tag : Byte) (s : State), s.TakesRequests →
    let answers (c : Instr) (t : State) (payload : List Byte) : Prop :=
      exec c s = .next (finish (t.answered src tag payload))
    ((∀ pass, s.balancer.state ≠ .evaluating pass) →
        answers (.balancerControlStart src tag) { s with balancer.state := .idle } [0x0E, 0, 1])
      ∧ (∀ pass, s.balancer.state = .evaluating pass → answers (.balancerControlStart src tag) s [0x0E, 0, 2])
      ∧ (s.balancer.state ≠ .stopped →
        answers (.balancerControlHold src tag) { s with balancer.state := .held } [0x0E, 0, 3])
      ∧ (s.balancer.state = .stopped → answers (.balancerControlHold src tag) s [0x0E, 5])
      ∧ answers (.balancerControlStop src tag) { s with balancer.state := .stopped } [0x0E, 0, 0]
      ∧ (∀ args : List Byte, args ≠ [1] → args ≠ [2] → args ≠ [3] → args.length < 48 →
        answers (.balancerControlOtherAction src tag args) s [0x0E, 3])
      ∧ answers (.restart src tag []) { s with management.restartPending := true } [0x10, 0]
      ∧ (∀ args : List Byte, args ≠ [] → args.length < 48 → answers (.restart src tag args) s [0x10, 3])
      ∧ ∀ (kind : Byte) (args : List Byte), knownRequest kind = false → args.length < 48 →
        answers (.unknownKind src tag kind args) s [kind, 9]

/-! ### What every step keeps -/

/-- Every step keeps every table, queue and count within its size, and both policies in range. -/
def Obligations.BoundedIsKept : Prop := ∀ s t : State, s.Bounded → step s = .next t → t.Bounded

/-- Every step keeps the segment tree rule in both copies (R2), and with it every valid segment's path reaches
segment 0 in at most 15 steps, each to a lower index. -/
def Obligations.TreeRuleIsKept : Prop :=
  (∀ s t : State, s.TreesRight → step s = .next t → t.TreesRight)
    ∧ ∀ (table : List Segment) (i : Nat), TreeRule table → i < 16 → (segmentAt table i).valid = true →
      (segmentPath table i).getLast? = some 0 ∧ (segmentPath table i).length ≤ 16
        ∧ (segmentPath table i).Pairwise (· > ·)
        ∧ ∀ k ∈ segmentPath table i, k < 16 ∧ (segmentAt table k).valid = true

/-- Every step keeps the Address Map naming exactly the records that are not VACANT (R15). -/
def Obligations.AddressMapIsKept : Prop :=
  ∀ s t : State, s.Bounded → s.MapRight → step s = .next t →
    t.MapRight ∧ (∀ i j r q, t.record i = some r → t.record j = some q → r.address = q.address → i = j)
      ∧ t.mapped 0 = none ∧ ∀ a : Byte, 240 ≤ a.toNat → t.mapped a = none

/-- Every step keeps each ORDERED or ACCEPTED record named by exactly one entry of the Move Schedule (R102,
R103), the query queue in step with the query stages (R131), and the latest execute cycle ahead of now
(R107). -/
def Obligations.ExchangesAreKept : Prop :=
  ∀ s t : State, s.Bounded → s.ScheduleRight → s.QueriesRight → s.LatestRight → step s = .next t →
    t.ScheduleRight ∧ t.QueriesRight ∧ t.LatestRight

/-- Every step keeps the Sum Table at the sums over the subtrees (R85). -/
def Obligations.SumTableIsKept : Prop :=
  ∀ s t : State, s.Bounded → s.TreesRight → s.ScheduleRight → s.SumsRight → step s = .next t → t.SumsRight

/-- Every step keeps the rescue list on unlocked drawable records of LOST phases, and a loss event open exactly
while rescue is active (R146, R148, R157). -/
def Obligations.RescueIsKept : Prop :=
  ∀ s t : State, s.Bounded → s.ScheduleRight → s.RescueRight → step s = .next t → t.RescueRight

/-- Every step keeps the records in their ranges with the assigned phase in the allowed set (R9, R13, R42), and
the targets of moves off the from phase and within the allowed set (R102, R109). -/
def Obligations.RecordsAreKept : Prop :=
  ∀ s t : State, s.Bounded → s.ScheduleRight → s.RecordsRight → s.TargetsRight → step s = .next t →
    t.RecordsRight ∧ t.TargetsRight

/-- Every step keeps the phases graded as their crossings and sag levels say (R69), the timebase's counts within
their limits, and SYNCED standing on 4 accepted crossings with none missed since (R46, R50, R55). -/
def Obligations.PhasesAndTimebaseAreKept : Prop :=
  (∀ s t : State, s.PhasesRight → step s = .next t → t.PhasesRight)
    ∧ ∀ s t : State, s.TimebaseRight → step s = .next t → t.TimebaseRight
end

