-- ==== Sys2Proof/Laws/PerInstr.lean ====
section
/-!
SUPPORT. Statements about every command, one lemma for each constructor.
-/

namespace Sys2Proof.Laws

open Sys2Proof.Machine

/-- The payload of the frame that a command brings to the part, for the commands that bring one (R161, R165,
R188). -/
def framePayload : Instr → Option (List Byte)
  | .loadReading _ _ _ reading supply interval => some (be2 reading.toNat ++ [supply, interval])
  | .transferAnswer _ _ verdict reason => some [verdict, reason]
  | .transferReport _ _ outcome reason phaseNow => some [outcome, reason, phaseNow]
  | .phaseAnswer _ _ phaseNow supply => some [phaseNow, supply]
  | .managementRequest _ _ payload => some payload
  | .foreignOrder _ _ _ target execute gap => some (target :: be2 execute.toNat ++ [gap])
  | .upstreamFrameArrival _ _ _ _ payload => some payload
  | .downstreamFrameArrival _ _ _ _ payload => some payload
  | .readStatus _ _ args => some (0x01 :: args)
  | .readPolicy _ _ args => some (0x02 :: args)
  | .writePolicy _ _ args => some (0x03 :: args)
  | .readSegment _ _ args => some (0x04 :: args)
  | .writeSegment _ _ args => some (0x05 :: args)
  | .readConsumer _ _ args => some (0x06 :: args)
  | .writeConsumer _ _ args => some (0x07 :: args)
  | .clearConsumer _ _ args => some (0x08 :: args)
  | .readSums _ _ args => some (0x09 :: args)
  | .setLock _ _ args => some (0x0A :: args)
  | .clearFault _ _ args => some (0x0B :: args)
  | .manualMove _ _ args => some (0x0C :: args)
  | .cancelMoves _ _ args => some (0x0D :: args)
  | .balancerControlStart _ _ => some [0x0E, 1]
  | .balancerControlHold _ _ => some [0x0E, 2]
  | .balancerControlStop _ _ => some [0x0E, 3]
  | .readSchedule _ _ args => some (0x0F :: args)
  | .restart _ _ args => some (0x10 :: args)
  | .unknownKind _ _ kind args => some (kind :: args)
  | .balancerControlOtherAction _ _ args => some (0x0E :: args)
  | .resetLineLow | .supplyBelowThreshold _ | .start _ | .zeroCrossingEdge _ _ _ | .syntheticCycleEnd
  | .flywheelLimitReached | .failover | .cycleMarkDue | .sagSample _ | .filteredSagLevelChange _
  | .crossingPresenceChange _ | .sagDelay _ | .holdComplete _ | .windowClose | .foldOfRecord
  | .foldCompletion | .budgetPeriodEnd | .passTrigger | .search | .passCompletion | .orderTransmissionEnd
  | .withdrawal | .replyDeadline | .reportDeadline | .latestExecuteCycleExpiry | .queryTransmissionEnd
  | .queryDeadline | .frameDropped _ | .receptionAbandoned _ | .transmissionEnd _
  | .responseTransmissionEnd _ | .characterReceived _ _ _ => none

/-- A command that can be sent brings no payload above 48 bytes (R161). -/
def PayloadFits.Statement (i : Instr) : Prop :=
  ∀ bytes, i.wellFormed = true → framePayload i = some bytes → bytes.length ≤ 48

/-- Arguments that fit leave room for the kind byte (R165). -/
theorem fits_request {kind : Byte} {args bytes : List Byte} (h : argsFit args = true)
    (e : some (kind :: args) = some bytes) : bytes.length ≤ 48 := by
  cases e
  exact of_decide_eq_true (p := args.length < 48) h

theorem PayloadFits.resetLineLow : PayloadFits.Statement .resetLineLow :=
  fun _ _ e => nomatch e

theorem PayloadFits.supplyBelowThreshold (belowPowerOn : Bool) : PayloadFits.Statement (.supplyBelowThreshold belowPowerOn) :=
  fun _ _ e => nomatch e

theorem PayloadFits.start (straps : Straps) : PayloadFits.Statement (.start straps) :=
  fun _ _ e => nomatch e

theorem PayloadFits.zeroCrossingEdge (line : Phase) (elapsed : Nat) (sag : PhaseSet) : PayloadFits.Statement (.zeroCrossingEdge line elapsed sag) :=
  fun _ _ e => nomatch e

theorem PayloadFits.syntheticCycleEnd : PayloadFits.Statement .syntheticCycleEnd :=
  fun _ _ e => nomatch e

theorem PayloadFits.flywheelLimitReached : PayloadFits.Statement .flywheelLimitReached :=
  fun _ _ e => nomatch e

theorem PayloadFits.failover : PayloadFits.Statement .failover :=
  fun _ _ e => nomatch e

theorem PayloadFits.cycleMarkDue : PayloadFits.Statement .cycleMarkDue :=
  fun _ _ e => nomatch e

theorem PayloadFits.sagSample (sag : PhaseSet) : PayloadFits.Statement (.sagSample sag) :=
  fun _ _ e => nomatch e

theorem PayloadFits.filteredSagLevelChange (phase : Phase) : PayloadFits.Statement (.filteredSagLevelChange phase) :=
  fun _ _ e => nomatch e

theorem PayloadFits.crossingPresenceChange (phase : Phase) : PayloadFits.Statement (.crossingPresenceChange phase) :=
  fun _ _ e => nomatch e

theorem PayloadFits.sagDelay (phase : Phase) : PayloadFits.Statement (.sagDelay phase) :=
  fun _ _ e => nomatch e

theorem PayloadFits.holdComplete (phase : Phase) : PayloadFits.Statement (.holdComplete phase) :=
  fun _ _ e => nomatch e

theorem PayloadFits.loadReading (dest src tag : Byte) (reading : Word16) (supply interval : Byte) : PayloadFits.Statement (.loadReading dest src tag reading supply interval) :=
  fun _ _ e => by cases e; simp [be2]

theorem PayloadFits.windowClose : PayloadFits.Statement .windowClose :=
  fun _ _ e => nomatch e

theorem PayloadFits.foldOfRecord : PayloadFits.Statement .foldOfRecord :=
  fun _ _ e => nomatch e

theorem PayloadFits.foldCompletion : PayloadFits.Statement .foldCompletion :=
  fun _ _ e => nomatch e

theorem PayloadFits.budgetPeriodEnd : PayloadFits.Statement .budgetPeriodEnd :=
  fun _ _ e => nomatch e

theorem PayloadFits.passTrigger : PayloadFits.Statement .passTrigger :=
  fun _ _ e => nomatch e

theorem PayloadFits.search : PayloadFits.Statement .search :=
  fun _ _ e => nomatch e

theorem PayloadFits.passCompletion : PayloadFits.Statement .passCompletion :=
  fun _ _ e => nomatch e

theorem PayloadFits.orderTransmissionEnd : PayloadFits.Statement .orderTransmissionEnd :=
  fun _ _ e => nomatch e

theorem PayloadFits.withdrawal : PayloadFits.Statement .withdrawal :=
  fun _ _ e => nomatch e

theorem PayloadFits.replyDeadline : PayloadFits.Statement .replyDeadline :=
  fun _ _ e => nomatch e

theorem PayloadFits.reportDeadline : PayloadFits.Statement .reportDeadline :=
  fun _ _ e => nomatch e

theorem PayloadFits.latestExecuteCycleExpiry : PayloadFits.Statement .latestExecuteCycleExpiry :=
  fun _ _ e => nomatch e

theorem PayloadFits.transferAnswer (src tag verdict reason : Byte) : PayloadFits.Statement (.transferAnswer src tag verdict reason) :=
  fun _ _ e => by cases e; simp

theorem PayloadFits.transferReport (src tag outcome reason phaseNow : Byte) : PayloadFits.Statement (.transferReport src tag outcome reason phaseNow) :=
  fun _ _ e => by cases e; simp

theorem PayloadFits.queryTransmissionEnd : PayloadFits.Statement .queryTransmissionEnd :=
  fun _ _ e => nomatch e

theorem PayloadFits.queryDeadline : PayloadFits.Statement .queryDeadline :=
  fun _ _ e => nomatch e

theorem PayloadFits.phaseAnswer (src tag phaseNow supply : Byte) : PayloadFits.Statement (.phaseAnswer src tag phaseNow supply) :=
  fun _ _ e => by cases e; simp

theorem PayloadFits.managementRequest (src tag : Byte) (payload : List Byte) : PayloadFits.Statement (.managementRequest src tag payload) :=
  fun _ h e => by
  cases e; exact of_decide_eq_true (p := payload.length ≤ 48) (Bool.and_eq_true_iff.mp h).2

theorem PayloadFits.foreignOrder (dest src tag target : Byte) (execute : Word16) (gap : Byte) : PayloadFits.Statement (.foreignOrder dest src tag target execute gap) :=
  fun _ _ e => by cases e; simp [be2]

theorem PayloadFits.upstreamFrameArrival (dest src kind tag : Byte) (payload : List Byte) : PayloadFits.Statement (.upstreamFrameArrival dest src kind tag payload) :=
  fun _ h e => by
  cases e; exact of_decide_eq_true (p := payload.length ≤ 48) h

theorem PayloadFits.downstreamFrameArrival (dest src kind tag : Byte) (payload : List Byte) : PayloadFits.Statement (.downstreamFrameArrival dest src kind tag payload) :=
  fun _ h e => by
  cases e; exact of_decide_eq_true (p := payload.length ≤ 48) h

theorem PayloadFits.frameDropped (port : Port) : PayloadFits.Statement (.frameDropped port) :=
  fun _ _ e => nomatch e

theorem PayloadFits.receptionAbandoned (port : Port) : PayloadFits.Statement (.receptionAbandoned port) :=
  fun _ _ e => nomatch e

theorem PayloadFits.transmissionEnd (port : Port) : PayloadFits.Statement (.transmissionEnd port) :=
  fun _ _ e => nomatch e

theorem PayloadFits.responseTransmissionEnd (straps : Straps) : PayloadFits.Statement (.responseTransmissionEnd straps) :=
  fun _ _ e => nomatch e

theorem PayloadFits.readStatus (src tag : Byte) (args : List Byte) : PayloadFits.Statement (.readStatus src tag args) :=
  fun _ h e => fits_request h e

theorem PayloadFits.readPolicy (src tag : Byte) (args : List Byte) : PayloadFits.Statement (.readPolicy src tag args) :=
  fun _ h e => fits_request h e

theorem PayloadFits.writePolicy (src tag : Byte) (args : List Byte) : PayloadFits.Statement (.writePolicy src tag args) :=
  fun _ h e => fits_request h e

theorem PayloadFits.readSegment (src tag : Byte) (args : List Byte) : PayloadFits.Statement (.readSegment src tag args) :=
  fun _ h e => fits_request h e

theorem PayloadFits.writeSegment (src tag : Byte) (args : List Byte) : PayloadFits.Statement (.writeSegment src tag args) :=
  fun _ h e => fits_request h e

theorem PayloadFits.readConsumer (src tag : Byte) (args : List Byte) : PayloadFits.Statement (.readConsumer src tag args) :=
  fun _ h e => fits_request h e

theorem PayloadFits.writeConsumer (src tag : Byte) (args : List Byte) : PayloadFits.Statement (.writeConsumer src tag args) :=
  fun _ h e => fits_request h e

theorem PayloadFits.clearConsumer (src tag : Byte) (args : List Byte) : PayloadFits.Statement (.clearConsumer src tag args) :=
  fun _ h e => fits_request h e

theorem PayloadFits.readSums (src tag : Byte) (args : List Byte) : PayloadFits.Statement (.readSums src tag args) :=
  fun _ h e => fits_request h e

theorem PayloadFits.setLock (src tag : Byte) (args : List Byte) : PayloadFits.Statement (.setLock src tag args) :=
  fun _ h e => fits_request h e

theorem PayloadFits.clearFault (src tag : Byte) (args : List Byte) : PayloadFits.Statement (.clearFault src tag args) :=
  fun _ h e => fits_request h e

theorem PayloadFits.manualMove (src tag : Byte) (args : List Byte) : PayloadFits.Statement (.manualMove src tag args) :=
  fun _ h e => fits_request h e

theorem PayloadFits.cancelMoves (src tag : Byte) (args : List Byte) : PayloadFits.Statement (.cancelMoves src tag args) :=
  fun _ h e => fits_request h e

theorem PayloadFits.balancerControlStart (src tag : Byte) : PayloadFits.Statement (.balancerControlStart src tag) :=
  fun _ _ e => by cases e; simp

theorem PayloadFits.balancerControlHold (src tag : Byte) : PayloadFits.Statement (.balancerControlHold src tag) :=
  fun _ _ e => by cases e; simp

theorem PayloadFits.balancerControlStop (src tag : Byte) : PayloadFits.Statement (.balancerControlStop src tag) :=
  fun _ _ e => by cases e; simp

theorem PayloadFits.readSchedule (src tag : Byte) (args : List Byte) : PayloadFits.Statement (.readSchedule src tag args) :=
  fun _ h e => fits_request h e

theorem PayloadFits.restart (src tag : Byte) (args : List Byte) : PayloadFits.Statement (.restart src tag args) :=
  fun _ h e => fits_request h e

theorem PayloadFits.unknownKind (src tag kind : Byte) (args : List Byte) : PayloadFits.Statement (.unknownKind src tag kind args) :=
  fun _ h e => fits_request (Bool.and_eq_true_iff.mp h).2 e

theorem PayloadFits.characterReceived (port : Port) (char : Byte) (framingError : Bool) : PayloadFits.Statement (.characterReceived port char framingError) :=
  fun _ _ e => nomatch e

theorem PayloadFits.balancerControlOtherAction (src tag : Byte) (args : List Byte) : PayloadFits.Statement (.balancerControlOtherAction src tag args) :=
  fun _ h e => by
  simp only [Instr.wellFormed, Bool.and_eq_true] at h
  exact fits_request h.1.1.1 e

end Sys2Proof.Laws
end

