-- ==== Sys2Proof/Laws/State.lean ====
section
/-!
SUPPORT. The plain updates of the state, field by field: each leaves every block it does not name as it was.
-/

namespace Sys2Proof.Machine

/-! ### State.setRecord -/

@[simp] theorem State.setRecord_intake (s : State) (i : Nat) (r : Option Consumer) : (s.setRecord i r).intake = s.intake := rfl
@[simp] theorem State.setRecord_timebase (s : State) (i : Nat) (r : Option Consumer) : (s.setRecord i r).timebase = s.timebase := rfl
@[simp] theorem State.setRecord_supervision (s : State) (i : Nat) (r : Option Consumer) : (s.setRecord i r).supervision = s.supervision := rfl
@[simp] theorem State.setRecord_balancer (s : State) (i : Nat) (r : Option Consumer) : (s.setRecord i r).balancer = s.balancer := rfl
@[simp] theorem State.setRecord_scheduler (s : State) (i : Nat) (r : Option Consumer) : (s.setRecord i r).scheduler = s.scheduler := rfl
@[simp] theorem State.setRecord_rescue (s : State) (i : Nat) (r : Option Consumer) : (s.setRecord i r).rescue = s.rescue := rfl
@[simp] theorem State.setRecord_ports (s : State) (i : Nat) (r : Option Consumer) : (s.setRecord i r).ports = s.ports := rfl
@[simp] theorem State.setRecord_management (s : State) (i : Nat) (r : Option Consumer) : (s.setRecord i r).management = s.management := rfl
@[simp] theorem State.setRecord_straps (s : State) (i : Nat) (r : Option Consumer) : (s.setRecord i r).straps = s.straps := rfl
@[simp] theorem State.setRecord_hold (s : State) (i : Nat) (r : Option Consumer) : (s.setRecord i r).hold = s.hold := rfl
@[simp] theorem State.setRecord_order (s : State) (i : Nat) (r : Option Consumer) : (s.setRecord i r).order = s.order := rfl
@[simp] theorem State.setRecord_drawn (s : State) (i : Nat) (r : Option Consumer) : (s.setRecord i r).drawn = s.drawn := rfl
@[simp] theorem State.setRecord_pending (s : State) (i : Nat) (r : Option Consumer) : (s.setRecord i r).pending = s.pending := rfl

/-! ### State.setMap -/

@[simp] theorem State.setMap_intake (s : State) (a : Byte) (i : Option Nat) : (s.setMap a i).intake = s.intake := rfl
@[simp] theorem State.setMap_timebase (s : State) (a : Byte) (i : Option Nat) : (s.setMap a i).timebase = s.timebase := rfl
@[simp] theorem State.setMap_supervision (s : State) (a : Byte) (i : Option Nat) : (s.setMap a i).supervision = s.supervision := rfl
@[simp] theorem State.setMap_balancer (s : State) (a : Byte) (i : Option Nat) : (s.setMap a i).balancer = s.balancer := rfl
@[simp] theorem State.setMap_scheduler (s : State) (a : Byte) (i : Option Nat) : (s.setMap a i).scheduler = s.scheduler := rfl
@[simp] theorem State.setMap_rescue (s : State) (a : Byte) (i : Option Nat) : (s.setMap a i).rescue = s.rescue := rfl
@[simp] theorem State.setMap_ports (s : State) (a : Byte) (i : Option Nat) : (s.setMap a i).ports = s.ports := rfl
@[simp] theorem State.setMap_management (s : State) (a : Byte) (i : Option Nat) : (s.setMap a i).management = s.management := rfl
@[simp] theorem State.setMap_straps (s : State) (a : Byte) (i : Option Nat) : (s.setMap a i).straps = s.straps := rfl
@[simp] theorem State.setMap_hold (s : State) (a : Byte) (i : Option Nat) : (s.setMap a i).hold = s.hold := rfl
@[simp] theorem State.setMap_order (s : State) (a : Byte) (i : Option Nat) : (s.setMap a i).order = s.order := rfl
@[simp] theorem State.setMap_drawn (s : State) (a : Byte) (i : Option Nat) : (s.setMap a i).drawn = s.drawn := rfl
@[simp] theorem State.setMap_pending (s : State) (a : Byte) (i : Option Nat) : (s.setMap a i).pending = s.pending := rfl

/-! ### State.count -/

@[simp] theorem State.count_tables (s : State) (f : Counters → Counters) : (s.count f).tables = s.tables := rfl
@[simp] theorem State.count_intake (s : State) (f : Counters → Counters) : (s.count f).intake = s.intake := rfl
@[simp] theorem State.count_timebase (s : State) (f : Counters → Counters) : (s.count f).timebase = s.timebase := rfl
@[simp] theorem State.count_supervision (s : State) (f : Counters → Counters) : (s.count f).supervision = s.supervision := rfl
@[simp] theorem State.count_balancer (s : State) (f : Counters → Counters) : (s.count f).balancer = s.balancer := rfl
@[simp] theorem State.count_scheduler (s : State) (f : Counters → Counters) : (s.count f).scheduler = s.scheduler := rfl
@[simp] theorem State.count_rescue (s : State) (f : Counters → Counters) : (s.count f).rescue = s.rescue := rfl
@[simp] theorem State.count_management (s : State) (f : Counters → Counters) : (s.count f).management = s.management := rfl
@[simp] theorem State.count_straps (s : State) (f : Counters → Counters) : (s.count f).straps = s.straps := rfl
@[simp] theorem State.count_hold (s : State) (f : Counters → Counters) : (s.count f).hold = s.hold := rfl
@[simp] theorem State.count_order (s : State) (f : Counters → Counters) : (s.count f).order = s.order := rfl
@[simp] theorem State.count_drawn (s : State) (f : Counters → Counters) : (s.count f).drawn = s.drawn := rfl
@[simp] theorem State.count_pending (s : State) (f : Counters → Counters) : (s.count f).pending = s.pending := rfl

/-! ### State.setWatch -/

@[simp] theorem State.setWatch_tables (s : State) (p : Phase) (w : PhaseWatch) : (s.setWatch p w).tables = s.tables := rfl
@[simp] theorem State.setWatch_intake (s : State) (p : Phase) (w : PhaseWatch) : (s.setWatch p w).intake = s.intake := rfl
@[simp] theorem State.setWatch_timebase (s : State) (p : Phase) (w : PhaseWatch) : (s.setWatch p w).timebase = s.timebase := rfl
@[simp] theorem State.setWatch_balancer (s : State) (p : Phase) (w : PhaseWatch) : (s.setWatch p w).balancer = s.balancer := rfl
@[simp] theorem State.setWatch_scheduler (s : State) (p : Phase) (w : PhaseWatch) : (s.setWatch p w).scheduler = s.scheduler := rfl
@[simp] theorem State.setWatch_rescue (s : State) (p : Phase) (w : PhaseWatch) : (s.setWatch p w).rescue = s.rescue := rfl
@[simp] theorem State.setWatch_ports (s : State) (p : Phase) (w : PhaseWatch) : (s.setWatch p w).ports = s.ports := rfl
@[simp] theorem State.setWatch_management (s : State) (p : Phase) (w : PhaseWatch) : (s.setWatch p w).management = s.management := rfl
@[simp] theorem State.setWatch_straps (s : State) (p : Phase) (w : PhaseWatch) : (s.setWatch p w).straps = s.straps := rfl
@[simp] theorem State.setWatch_hold (s : State) (p : Phase) (w : PhaseWatch) : (s.setWatch p w).hold = s.hold := rfl
@[simp] theorem State.setWatch_order (s : State) (p : Phase) (w : PhaseWatch) : (s.setWatch p w).order = s.order := rfl
@[simp] theorem State.setWatch_drawn (s : State) (p : Phase) (w : PhaseWatch) : (s.setWatch p w).drawn = s.drawn := rfl
@[simp] theorem State.setWatch_pending (s : State) (p : Phase) (w : PhaseWatch) : (s.setWatch p w).pending = s.pending := rfl

/-! ### unlist -/

@[simp] theorem unlist_tables (i : Nat) (s : State) : (unlist i s).tables = s.tables := rfl
@[simp] theorem unlist_intake (i : Nat) (s : State) : (unlist i s).intake = s.intake := rfl
@[simp] theorem unlist_timebase (i : Nat) (s : State) : (unlist i s).timebase = s.timebase := rfl
@[simp] theorem unlist_supervision (i : Nat) (s : State) : (unlist i s).supervision = s.supervision := rfl
@[simp] theorem unlist_balancer (i : Nat) (s : State) : (unlist i s).balancer = s.balancer := rfl
@[simp] theorem unlist_scheduler (i : Nat) (s : State) : (unlist i s).scheduler = s.scheduler := rfl
@[simp] theorem unlist_ports (i : Nat) (s : State) : (unlist i s).ports = s.ports := rfl
@[simp] theorem unlist_management (i : Nat) (s : State) : (unlist i s).management = s.management := rfl
@[simp] theorem unlist_straps (i : Nat) (s : State) : (unlist i s).straps = s.straps := rfl
@[simp] theorem unlist_hold (i : Nat) (s : State) : (unlist i s).hold = s.hold := rfl
@[simp] theorem unlist_order (i : Nat) (s : State) : (unlist i s).order = s.order := rfl
@[simp] theorem unlist_drawn (i : Nat) (s : State) : (unlist i s).drawn = s.drawn := rfl
@[simp] theorem unlist_pending (i : Nat) (s : State) : (unlist i s).pending = s.pending := rfl

/-! ### countRescued -/

@[simp] theorem countRescued_tables (s : State) : (countRescued s).tables = s.tables := rfl
@[simp] theorem countRescued_intake (s : State) : (countRescued s).intake = s.intake := rfl
@[simp] theorem countRescued_timebase (s : State) : (countRescued s).timebase = s.timebase := rfl
@[simp] theorem countRescued_supervision (s : State) : (countRescued s).supervision = s.supervision := rfl
@[simp] theorem countRescued_balancer (s : State) : (countRescued s).balancer = s.balancer := rfl
@[simp] theorem countRescued_scheduler (s : State) : (countRescued s).scheduler = s.scheduler := rfl
@[simp] theorem countRescued_ports (s : State) : (countRescued s).ports = s.ports := rfl
@[simp] theorem countRescued_management (s : State) : (countRescued s).management = s.management := rfl
@[simp] theorem countRescued_straps (s : State) : (countRescued s).straps = s.straps := rfl
@[simp] theorem countRescued_hold (s : State) : (countRescued s).hold = s.hold := rfl
@[simp] theorem countRescued_order (s : State) : (countRescued s).order = s.order := rfl
@[simp] theorem countRescued_drawn (s : State) : (countRescued s).drawn = s.drawn := rfl
@[simp] theorem countRescued_pending (s : State) : (countRescued s).pending = s.pending := rfl

/-! ### countUnrescuable -/

@[simp] theorem countUnrescuable_tables (s : State) : (countUnrescuable s).tables = s.tables := rfl
@[simp] theorem countUnrescuable_intake (s : State) : (countUnrescuable s).intake = s.intake := rfl
@[simp] theorem countUnrescuable_timebase (s : State) : (countUnrescuable s).timebase = s.timebase := rfl
@[simp] theorem countUnrescuable_supervision (s : State) : (countUnrescuable s).supervision = s.supervision := rfl
@[simp] theorem countUnrescuable_balancer (s : State) : (countUnrescuable s).balancer = s.balancer := rfl
@[simp] theorem countUnrescuable_scheduler (s : State) : (countUnrescuable s).scheduler = s.scheduler := rfl
@[simp] theorem countUnrescuable_ports (s : State) : (countUnrescuable s).ports = s.ports := rfl
@[simp] theorem countUnrescuable_management (s : State) : (countUnrescuable s).management = s.management := rfl
@[simp] theorem countUnrescuable_straps (s : State) : (countUnrescuable s).straps = s.straps := rfl
@[simp] theorem countUnrescuable_hold (s : State) : (countUnrescuable s).hold = s.hold := rfl
@[simp] theorem countUnrescuable_order (s : State) : (countUnrescuable s).order = s.order := rfl
@[simp] theorem countUnrescuable_drawn (s : State) : (countUnrescuable s).drawn = s.drawn := rfl
@[simp] theorem countUnrescuable_pending (s : State) : (countUnrescuable s).pending = s.pending := rfl

/-! ### countRestored -/

@[simp] theorem countRestored_tables (s : State) : (countRestored s).tables = s.tables := rfl
@[simp] theorem countRestored_intake (s : State) : (countRestored s).intake = s.intake := rfl
@[simp] theorem countRestored_timebase (s : State) : (countRestored s).timebase = s.timebase := rfl
@[simp] theorem countRestored_supervision (s : State) : (countRestored s).supervision = s.supervision := rfl
@[simp] theorem countRestored_balancer (s : State) : (countRestored s).balancer = s.balancer := rfl
@[simp] theorem countRestored_scheduler (s : State) : (countRestored s).scheduler = s.scheduler := rfl
@[simp] theorem countRestored_ports (s : State) : (countRestored s).ports = s.ports := rfl
@[simp] theorem countRestored_management (s : State) : (countRestored s).management = s.management := rfl
@[simp] theorem countRestored_straps (s : State) : (countRestored s).straps = s.straps := rfl
@[simp] theorem countRestored_hold (s : State) : (countRestored s).hold = s.hold := rfl
@[simp] theorem countRestored_order (s : State) : (countRestored s).order = s.order := rfl
@[simp] theorem countRestored_drawn (s : State) : (countRestored s).drawn = s.drawn := rfl
@[simp] theorem countRestored_pending (s : State) : (countRestored s).pending = s.pending := rfl

/-! ### leaveQueue -/

@[simp] theorem leaveQueue_tables (i : Nat) (s : State) : (leaveQueue i s).tables = s.tables := rfl
@[simp] theorem leaveQueue_intake (i : Nat) (s : State) : (leaveQueue i s).intake = s.intake := rfl
@[simp] theorem leaveQueue_timebase (i : Nat) (s : State) : (leaveQueue i s).timebase = s.timebase := rfl
@[simp] theorem leaveQueue_supervision (i : Nat) (s : State) : (leaveQueue i s).supervision = s.supervision := rfl
@[simp] theorem leaveQueue_balancer (i : Nat) (s : State) : (leaveQueue i s).balancer = s.balancer := rfl
@[simp] theorem leaveQueue_rescue (i : Nat) (s : State) : (leaveQueue i s).rescue = s.rescue := rfl
@[simp] theorem leaveQueue_ports (i : Nat) (s : State) : (leaveQueue i s).ports = s.ports := rfl
@[simp] theorem leaveQueue_management (i : Nat) (s : State) : (leaveQueue i s).management = s.management := rfl
@[simp] theorem leaveQueue_straps (i : Nat) (s : State) : (leaveQueue i s).straps = s.straps := rfl
@[simp] theorem leaveQueue_hold (i : Nat) (s : State) : (leaveQueue i s).hold = s.hold := rfl
@[simp] theorem leaveQueue_order (i : Nat) (s : State) : (leaveQueue i s).order = s.order := rfl
@[simp] theorem leaveQueue_drawn (i : Nat) (s : State) : (leaveQueue i s).drawn = s.drawn := rfl
@[simp] theorem leaveQueue_pending (i : Nat) (s : State) : (leaveQueue i s).pending = s.pending := rfl

/-! ### removeEntry -/

@[simp] theorem removeEntry_tables (i : Nat) (s : State) : (removeEntry i s).tables = s.tables := rfl
@[simp] theorem removeEntry_intake (i : Nat) (s : State) : (removeEntry i s).intake = s.intake := rfl
@[simp] theorem removeEntry_timebase (i : Nat) (s : State) : (removeEntry i s).timebase = s.timebase := rfl
@[simp] theorem removeEntry_supervision (i : Nat) (s : State) : (removeEntry i s).supervision = s.supervision := rfl
@[simp] theorem removeEntry_balancer (i : Nat) (s : State) : (removeEntry i s).balancer = s.balancer := rfl
@[simp] theorem removeEntry_rescue (i : Nat) (s : State) : (removeEntry i s).rescue = s.rescue := rfl
@[simp] theorem removeEntry_ports (i : Nat) (s : State) : (removeEntry i s).ports = s.ports := rfl
@[simp] theorem removeEntry_management (i : Nat) (s : State) : (removeEntry i s).management = s.management := rfl
@[simp] theorem removeEntry_straps (i : Nat) (s : State) : (removeEntry i s).straps = s.straps := rfl
@[simp] theorem removeEntry_hold (i : Nat) (s : State) : (removeEntry i s).hold = s.hold := rfl
@[simp] theorem removeEntry_order (i : Nat) (s : State) : (removeEntry i s).order = s.order := rfl
@[simp] theorem removeEntry_drawn (i : Nat) (s : State) : (removeEntry i s).drawn = s.drawn := rfl
@[simp] theorem removeEntry_pending (i : Nat) (s : State) : (removeEntry i s).pending = s.pending := rfl

/-! ### setStage -/

@[simp] theorem setStage_tables (i : Nat) (st : Stage) (s : State) : (setStage i st s).tables = s.tables := rfl
@[simp] theorem setStage_intake (i : Nat) (st : Stage) (s : State) : (setStage i st s).intake = s.intake := rfl
@[simp] theorem setStage_timebase (i : Nat) (st : Stage) (s : State) : (setStage i st s).timebase = s.timebase := rfl
@[simp] theorem setStage_supervision (i : Nat) (st : Stage) (s : State) : (setStage i st s).supervision = s.supervision := rfl
@[simp] theorem setStage_balancer (i : Nat) (st : Stage) (s : State) : (setStage i st s).balancer = s.balancer := rfl
@[simp] theorem setStage_rescue (i : Nat) (st : Stage) (s : State) : (setStage i st s).rescue = s.rescue := rfl
@[simp] theorem setStage_ports (i : Nat) (st : Stage) (s : State) : (setStage i st s).ports = s.ports := rfl
@[simp] theorem setStage_management (i : Nat) (st : Stage) (s : State) : (setStage i st s).management = s.management := rfl
@[simp] theorem setStage_straps (i : Nat) (st : Stage) (s : State) : (setStage i st s).straps = s.straps := rfl
@[simp] theorem setStage_hold (i : Nat) (st : Stage) (s : State) : (setStage i st s).hold = s.hold := rfl
@[simp] theorem setStage_order (i : Nat) (st : Stage) (s : State) : (setStage i st s).order = s.order := rfl
@[simp] theorem setStage_drawn (i : Nat) (st : Stage) (s : State) : (setStage i st s).drawn = s.drawn := rfl
@[simp] theorem setStage_pending (i : Nat) (st : Stage) (s : State) : (setStage i st s).pending = s.pending := rfl

/-! ### appendEntry -/

@[simp] theorem appendEntry_tables (e : MoveEntry) (s : State) : (appendEntry e s).tables = s.tables := rfl
@[simp] theorem appendEntry_intake (e : MoveEntry) (s : State) : (appendEntry e s).intake = s.intake := rfl
@[simp] theorem appendEntry_timebase (e : MoveEntry) (s : State) : (appendEntry e s).timebase = s.timebase := rfl
@[simp] theorem appendEntry_supervision (e : MoveEntry) (s : State) : (appendEntry e s).supervision = s.supervision := rfl
@[simp] theorem appendEntry_balancer (e : MoveEntry) (s : State) : (appendEntry e s).balancer = s.balancer := rfl
@[simp] theorem appendEntry_rescue (e : MoveEntry) (s : State) : (appendEntry e s).rescue = s.rescue := rfl
@[simp] theorem appendEntry_ports (e : MoveEntry) (s : State) : (appendEntry e s).ports = s.ports := rfl
@[simp] theorem appendEntry_management (e : MoveEntry) (s : State) : (appendEntry e s).management = s.management := rfl
@[simp] theorem appendEntry_straps (e : MoveEntry) (s : State) : (appendEntry e s).straps = s.straps := rfl
@[simp] theorem appendEntry_hold (e : MoveEntry) (s : State) : (appendEntry e s).hold = s.hold := rfl
@[simp] theorem appendEntry_order (e : MoveEntry) (s : State) : (appendEntry e s).order = s.order := rfl
@[simp] theorem appendEntry_drawn (e : MoveEntry) (s : State) : (appendEntry e s).drawn = s.drawn := rfl
@[simp] theorem appendEntry_pending (e : MoveEntry) (s : State) : (appendEntry e s).pending = s.pending := rfl

/-! ### rebuild -/

@[simp] theorem rebuild_tables (s : State) : (rebuild s).tables = s.tables := rfl
@[simp] theorem rebuild_intake (s : State) : (rebuild s).intake = s.intake := rfl
@[simp] theorem rebuild_timebase (s : State) : (rebuild s).timebase = s.timebase := rfl
@[simp] theorem rebuild_supervision (s : State) : (rebuild s).supervision = s.supervision := rfl
@[simp] theorem rebuild_scheduler (s : State) : (rebuild s).scheduler = s.scheduler := rfl
@[simp] theorem rebuild_rescue (s : State) : (rebuild s).rescue = s.rescue := rfl
@[simp] theorem rebuild_ports (s : State) : (rebuild s).ports = s.ports := rfl
@[simp] theorem rebuild_management (s : State) : (rebuild s).management = s.management := rfl
@[simp] theorem rebuild_straps (s : State) : (rebuild s).straps = s.straps := rfl
@[simp] theorem rebuild_hold (s : State) : (rebuild s).hold = s.hold := rfl
@[simp] theorem rebuild_order (s : State) : (rebuild s).order = s.order := rfl
@[simp] theorem rebuild_drawn (s : State) : (rebuild s).drawn = s.drawn := rfl
@[simp] theorem rebuild_pending (s : State) : (rebuild s).pending = s.pending := rfl

/-! ### setBalancer -/

@[simp] theorem setBalancer_tables (b : BalancerState) (s : State) : (setBalancer b s).tables = s.tables := rfl
@[simp] theorem setBalancer_intake (b : BalancerState) (s : State) : (setBalancer b s).intake = s.intake := rfl
@[simp] theorem setBalancer_timebase (b : BalancerState) (s : State) : (setBalancer b s).timebase = s.timebase := rfl
@[simp] theorem setBalancer_supervision (b : BalancerState) (s : State) : (setBalancer b s).supervision = s.supervision := rfl
@[simp] theorem setBalancer_scheduler (b : BalancerState) (s : State) : (setBalancer b s).scheduler = s.scheduler := rfl
@[simp] theorem setBalancer_rescue (b : BalancerState) (s : State) : (setBalancer b s).rescue = s.rescue := rfl
@[simp] theorem setBalancer_ports (b : BalancerState) (s : State) : (setBalancer b s).ports = s.ports := rfl
@[simp] theorem setBalancer_management (b : BalancerState) (s : State) : (setBalancer b s).management = s.management := rfl
@[simp] theorem setBalancer_straps (b : BalancerState) (s : State) : (setBalancer b s).straps = s.straps := rfl
@[simp] theorem setBalancer_hold (b : BalancerState) (s : State) : (setBalancer b s).hold = s.hold := rfl
@[simp] theorem setBalancer_order (b : BalancerState) (s : State) : (setBalancer b s).order = s.order := rfl
@[simp] theorem setBalancer_drawn (b : BalancerState) (s : State) : (setBalancer b s).drawn = s.drawn := rfl
@[simp] theorem setBalancer_pending (b : BalancerState) (s : State) : (setBalancer b s).pending = s.pending := rfl

/-! ### takeShadows -/

@[simp] theorem takeShadows_intake (s : State) : (takeShadows s).intake = s.intake := rfl
@[simp] theorem takeShadows_timebase (s : State) : (takeShadows s).timebase = s.timebase := rfl
@[simp] theorem takeShadows_supervision (s : State) : (takeShadows s).supervision = s.supervision := rfl
@[simp] theorem takeShadows_balancer (s : State) : (takeShadows s).balancer = s.balancer := rfl
@[simp] theorem takeShadows_scheduler (s : State) : (takeShadows s).scheduler = s.scheduler := rfl
@[simp] theorem takeShadows_rescue (s : State) : (takeShadows s).rescue = s.rescue := rfl
@[simp] theorem takeShadows_ports (s : State) : (takeShadows s).ports = s.ports := rfl
@[simp] theorem takeShadows_straps (s : State) : (takeShadows s).straps = s.straps := rfl
@[simp] theorem takeShadows_hold (s : State) : (takeShadows s).hold = s.hold := rfl
@[simp] theorem takeShadows_order (s : State) : (takeShadows s).order = s.order := rfl
@[simp] theorem takeShadows_drawn (s : State) : (takeShadows s).drawn = s.drawn := rfl
@[simp] theorem takeShadows_pending (s : State) : (takeShadows s).pending = s.pending := rfl

/-! ### driveSelectLines -/

@[simp] theorem driveSelectLines_tables (s : State) : (driveSelectLines s).tables = s.tables := rfl
@[simp] theorem driveSelectLines_intake (s : State) : (driveSelectLines s).intake = s.intake := rfl
@[simp] theorem driveSelectLines_timebase (s : State) : (driveSelectLines s).timebase = s.timebase := rfl
@[simp] theorem driveSelectLines_balancer (s : State) : (driveSelectLines s).balancer = s.balancer := rfl
@[simp] theorem driveSelectLines_scheduler (s : State) : (driveSelectLines s).scheduler = s.scheduler := rfl
@[simp] theorem driveSelectLines_rescue (s : State) : (driveSelectLines s).rescue = s.rescue := rfl
@[simp] theorem driveSelectLines_ports (s : State) : (driveSelectLines s).ports = s.ports := rfl
@[simp] theorem driveSelectLines_management (s : State) : (driveSelectLines s).management = s.management := rfl
@[simp] theorem driveSelectLines_straps (s : State) : (driveSelectLines s).straps = s.straps := rfl
@[simp] theorem driveSelectLines_hold (s : State) : (driveSelectLines s).hold = s.hold := rfl
@[simp] theorem driveSelectLines_order (s : State) : (driveSelectLines s).order = s.order := rfl
@[simp] theorem driveSelectLines_drawn (s : State) : (driveSelectLines s).drawn = s.drawn := rfl
@[simp] theorem driveSelectLines_pending (s : State) : (driveSelectLines s).pending = s.pending := rfl

/-! ### copyFresh -/

@[simp] theorem copyFresh_intake (s : State) : (copyFresh s).intake = s.intake := rfl
@[simp] theorem copyFresh_timebase (s : State) : (copyFresh s).timebase = s.timebase := rfl
@[simp] theorem copyFresh_supervision (s : State) : (copyFresh s).supervision = s.supervision := rfl
@[simp] theorem copyFresh_balancer (s : State) : (copyFresh s).balancer = s.balancer := rfl
@[simp] theorem copyFresh_scheduler (s : State) : (copyFresh s).scheduler = s.scheduler := rfl
@[simp] theorem copyFresh_rescue (s : State) : (copyFresh s).rescue = s.rescue := rfl
@[simp] theorem copyFresh_ports (s : State) : (copyFresh s).ports = s.ports := rfl
@[simp] theorem copyFresh_management (s : State) : (copyFresh s).management = s.management := rfl
@[simp] theorem copyFresh_straps (s : State) : (copyFresh s).straps = s.straps := rfl
@[simp] theorem copyFresh_hold (s : State) : (copyFresh s).hold = s.hold := rfl
@[simp] theorem copyFresh_order (s : State) : (copyFresh s).order = s.order := rfl
@[simp] theorem copyFresh_drawn (s : State) : (copyFresh s).drawn = s.drawn := rfl
@[simp] theorem copyFresh_pending (s : State) : (copyFresh s).pending = s.pending := rfl

/-! ### closeWindow -/

@[simp] theorem closeWindow_tables (s : State) : (closeWindow s).tables = s.tables := rfl
@[simp] theorem closeWindow_timebase (s : State) : (closeWindow s).timebase = s.timebase := rfl
@[simp] theorem closeWindow_supervision (s : State) : (closeWindow s).supervision = s.supervision := rfl
@[simp] theorem closeWindow_balancer (s : State) : (closeWindow s).balancer = s.balancer := rfl
@[simp] theorem closeWindow_scheduler (s : State) : (closeWindow s).scheduler = s.scheduler := rfl
@[simp] theorem closeWindow_rescue (s : State) : (closeWindow s).rescue = s.rescue := rfl
@[simp] theorem closeWindow_ports (s : State) : (closeWindow s).ports = s.ports := rfl
@[simp] theorem closeWindow_management (s : State) : (closeWindow s).management = s.management := rfl
@[simp] theorem closeWindow_straps (s : State) : (closeWindow s).straps = s.straps := rfl
@[simp] theorem closeWindow_hold (s : State) : (closeWindow s).hold = s.hold := rfl
@[simp] theorem closeWindow_order (s : State) : (closeWindow s).order = s.order := rfl
@[simp] theorem closeWindow_drawn (s : State) : (closeWindow s).drawn = s.drawn := rfl
@[simp] theorem closeWindow_pending (s : State) : (closeWindow s).pending = s.pending := rfl

/-! ### setTick -/

@[simp] theorem setTick_tables (n : Nat) (s : State) : (setTick n s).tables = s.tables := rfl
@[simp] theorem setTick_intake (n : Nat) (s : State) : (setTick n s).intake = s.intake := rfl
@[simp] theorem setTick_supervision (n : Nat) (s : State) : (setTick n s).supervision = s.supervision := rfl
@[simp] theorem setTick_balancer (n : Nat) (s : State) : (setTick n s).balancer = s.balancer := rfl
@[simp] theorem setTick_scheduler (n : Nat) (s : State) : (setTick n s).scheduler = s.scheduler := rfl
@[simp] theorem setTick_rescue (n : Nat) (s : State) : (setTick n s).rescue = s.rescue := rfl
@[simp] theorem setTick_ports (n : Nat) (s : State) : (setTick n s).ports = s.ports := rfl
@[simp] theorem setTick_management (n : Nat) (s : State) : (setTick n s).management = s.management := rfl
@[simp] theorem setTick_straps (n : Nat) (s : State) : (setTick n s).straps = s.straps := rfl
@[simp] theorem setTick_hold (n : Nat) (s : State) : (setTick n s).hold = s.hold := rfl
@[simp] theorem setTick_order (n : Nat) (s : State) : (setTick n s).order = s.order := rfl
@[simp] theorem setTick_drawn (n : Nat) (s : State) : (setTick n s).drawn = s.drawn := rfl
@[simp] theorem setTick_pending (n : Nat) (s : State) : (setTick n s).pending = s.pending := rfl

/-! ### setSagLines -/

@[simp] theorem setSagLines_tables (g : PhaseSet) (s : State) : (setSagLines g s).tables = s.tables := rfl
@[simp] theorem setSagLines_intake (g : PhaseSet) (s : State) : (setSagLines g s).intake = s.intake := rfl
@[simp] theorem setSagLines_timebase (g : PhaseSet) (s : State) : (setSagLines g s).timebase = s.timebase := rfl
@[simp] theorem setSagLines_balancer (g : PhaseSet) (s : State) : (setSagLines g s).balancer = s.balancer := rfl
@[simp] theorem setSagLines_scheduler (g : PhaseSet) (s : State) : (setSagLines g s).scheduler = s.scheduler := rfl
@[simp] theorem setSagLines_rescue (g : PhaseSet) (s : State) : (setSagLines g s).rescue = s.rescue := rfl
@[simp] theorem setSagLines_ports (g : PhaseSet) (s : State) : (setSagLines g s).ports = s.ports := rfl
@[simp] theorem setSagLines_management (g : PhaseSet) (s : State) : (setSagLines g s).management = s.management := rfl
@[simp] theorem setSagLines_straps (g : PhaseSet) (s : State) : (setSagLines g s).straps = s.straps := rfl
@[simp] theorem setSagLines_hold (g : PhaseSet) (s : State) : (setSagLines g s).hold = s.hold := rfl
@[simp] theorem setSagLines_order (g : PhaseSet) (s : State) : (setSagLines g s).order = s.order := rfl
@[simp] theorem setSagLines_drawn (g : PhaseSet) (s : State) : (setSagLines g s).drawn = s.drawn := rfl
@[simp] theorem setSagLines_pending (g : PhaseSet) (s : State) : (setSagLines g s).pending = s.pending := rfl

/-! ### dropChoice -/

@[simp] theorem dropChoice_tables (s : State) : (dropChoice s).tables = s.tables := rfl
@[simp] theorem dropChoice_intake (s : State) : (dropChoice s).intake = s.intake := rfl
@[simp] theorem dropChoice_timebase (s : State) : (dropChoice s).timebase = s.timebase := rfl
@[simp] theorem dropChoice_supervision (s : State) : (dropChoice s).supervision = s.supervision := rfl
@[simp] theorem dropChoice_balancer (s : State) : (dropChoice s).balancer = s.balancer := rfl
@[simp] theorem dropChoice_scheduler (s : State) : (dropChoice s).scheduler = s.scheduler := rfl
@[simp] theorem dropChoice_rescue (s : State) : (dropChoice s).rescue = s.rescue := rfl
@[simp] theorem dropChoice_ports (s : State) : (dropChoice s).ports = s.ports := rfl
@[simp] theorem dropChoice_management (s : State) : (dropChoice s).management = s.management := rfl
@[simp] theorem dropChoice_straps (s : State) : (dropChoice s).straps = s.straps := rfl
@[simp] theorem dropChoice_hold (s : State) : (dropChoice s).hold = s.hold := rfl
@[simp] theorem dropChoice_pending (s : State) : (dropChoice s).pending = s.pending := rfl

/-! ### endDown -/

@[simp] theorem endDown_tables (s : State) : (endDown s).tables = s.tables := rfl
@[simp] theorem endDown_intake (s : State) : (endDown s).intake = s.intake := rfl
@[simp] theorem endDown_timebase (s : State) : (endDown s).timebase = s.timebase := rfl
@[simp] theorem endDown_supervision (s : State) : (endDown s).supervision = s.supervision := rfl
@[simp] theorem endDown_balancer (s : State) : (endDown s).balancer = s.balancer := rfl
@[simp] theorem endDown_scheduler (s : State) : (endDown s).scheduler = s.scheduler := rfl
@[simp] theorem endDown_rescue (s : State) : (endDown s).rescue = s.rescue := rfl
@[simp] theorem endDown_management (s : State) : (endDown s).management = s.management := rfl
@[simp] theorem endDown_straps (s : State) : (endDown s).straps = s.straps := rfl
@[simp] theorem endDown_hold (s : State) : (endDown s).hold = s.hold := rfl
@[simp] theorem endDown_order (s : State) : (endDown s).order = s.order := rfl
@[simp] theorem endDown_drawn (s : State) : (endDown s).drawn = s.drawn := rfl
@[simp] theorem endDown_pending (s : State) : (endDown s).pending = s.pending := rfl

/-! ### endUp -/

@[simp] theorem endUp_tables (s : State) : (endUp s).tables = s.tables := rfl
@[simp] theorem endUp_intake (s : State) : (endUp s).intake = s.intake := rfl
@[simp] theorem endUp_timebase (s : State) : (endUp s).timebase = s.timebase := rfl
@[simp] theorem endUp_supervision (s : State) : (endUp s).supervision = s.supervision := rfl
@[simp] theorem endUp_balancer (s : State) : (endUp s).balancer = s.balancer := rfl
@[simp] theorem endUp_scheduler (s : State) : (endUp s).scheduler = s.scheduler := rfl
@[simp] theorem endUp_rescue (s : State) : (endUp s).rescue = s.rescue := rfl
@[simp] theorem endUp_management (s : State) : (endUp s).management = s.management := rfl
@[simp] theorem endUp_straps (s : State) : (endUp s).straps = s.straps := rfl
@[simp] theorem endUp_hold (s : State) : (endUp s).hold = s.hold := rfl
@[simp] theorem endUp_order (s : State) : (endUp s).order = s.order := rfl
@[simp] theorem endUp_drawn (s : State) : (endUp s).drawn = s.drawn := rfl
@[simp] theorem endUp_pending (s : State) : (endUp s).pending = s.pending := rfl

/-! ### startDown -/

@[simp] theorem startDown_tables (o : Source) (f : Frame) (s : State) : (startDown o f s).tables = s.tables := rfl
@[simp] theorem startDown_intake (o : Source) (f : Frame) (s : State) : (startDown o f s).intake = s.intake := rfl
@[simp] theorem startDown_timebase (o : Source) (f : Frame) (s : State) : (startDown o f s).timebase = s.timebase := rfl
@[simp] theorem startDown_supervision (o : Source) (f : Frame) (s : State) : (startDown o f s).supervision = s.supervision := rfl
@[simp] theorem startDown_balancer (o : Source) (f : Frame) (s : State) : (startDown o f s).balancer = s.balancer := rfl
@[simp] theorem startDown_scheduler (o : Source) (f : Frame) (s : State) : (startDown o f s).scheduler = s.scheduler := rfl
@[simp] theorem startDown_rescue (o : Source) (f : Frame) (s : State) : (startDown o f s).rescue = s.rescue := rfl
@[simp] theorem startDown_management (o : Source) (f : Frame) (s : State) : (startDown o f s).management = s.management := rfl
@[simp] theorem startDown_straps (o : Source) (f : Frame) (s : State) : (startDown o f s).straps = s.straps := rfl
@[simp] theorem startDown_hold (o : Source) (f : Frame) (s : State) : (startDown o f s).hold = s.hold := rfl
@[simp] theorem startDown_order (o : Source) (f : Frame) (s : State) : (startDown o f s).order = s.order := rfl
@[simp] theorem startDown_drawn (o : Source) (f : Frame) (s : State) : (startDown o f s).drawn = s.drawn := rfl
@[simp] theorem startDown_pending (o : Source) (f : Frame) (s : State) : (startDown o f s).pending = s.pending := rfl

/-! ### startUp -/

@[simp] theorem startUp_tables (o : Source) (f : Frame) (s : State) : (startUp o f s).tables = s.tables := rfl
@[simp] theorem startUp_intake (o : Source) (f : Frame) (s : State) : (startUp o f s).intake = s.intake := rfl
@[simp] theorem startUp_timebase (o : Source) (f : Frame) (s : State) : (startUp o f s).timebase = s.timebase := rfl
@[simp] theorem startUp_supervision (o : Source) (f : Frame) (s : State) : (startUp o f s).supervision = s.supervision := rfl
@[simp] theorem startUp_balancer (o : Source) (f : Frame) (s : State) : (startUp o f s).balancer = s.balancer := rfl
@[simp] theorem startUp_scheduler (o : Source) (f : Frame) (s : State) : (startUp o f s).scheduler = s.scheduler := rfl
@[simp] theorem startUp_rescue (o : Source) (f : Frame) (s : State) : (startUp o f s).rescue = s.rescue := rfl
@[simp] theorem startUp_management (o : Source) (f : Frame) (s : State) : (startUp o f s).management = s.management := rfl
@[simp] theorem startUp_straps (o : Source) (f : Frame) (s : State) : (startUp o f s).straps = s.straps := rfl
@[simp] theorem startUp_hold (o : Source) (f : Frame) (s : State) : (startUp o f s).hold = s.hold := rfl
@[simp] theorem startUp_order (o : Source) (f : Frame) (s : State) : (startUp o f s).order = s.order := rfl
@[simp] theorem startUp_drawn (o : Source) (f : Frame) (s : State) : (startUp o f s).drawn = s.drawn := rfl
@[simp] theorem startUp_pending (o : Source) (f : Frame) (s : State) : (startUp o f s).pending = s.pending := rfl

/-! ### grantMark -/

@[simp] theorem grantMark_tables (s : State) : (grantMark s).tables = s.tables := rfl
@[simp] theorem grantMark_intake (s : State) : (grantMark s).intake = s.intake := rfl
@[simp] theorem grantMark_supervision (s : State) : (grantMark s).supervision = s.supervision := rfl
@[simp] theorem grantMark_balancer (s : State) : (grantMark s).balancer = s.balancer := rfl
@[simp] theorem grantMark_scheduler (s : State) : (grantMark s).scheduler = s.scheduler := rfl
@[simp] theorem grantMark_rescue (s : State) : (grantMark s).rescue = s.rescue := rfl
@[simp] theorem grantMark_management (s : State) : (grantMark s).management = s.management := rfl
@[simp] theorem grantMark_straps (s : State) : (grantMark s).straps = s.straps := rfl
@[simp] theorem grantMark_hold (s : State) : (grantMark s).hold = s.hold := rfl
@[simp] theorem grantMark_order (s : State) : (grantMark s).order = s.order := rfl
@[simp] theorem grantMark_drawn (s : State) : (grantMark s).drawn = s.drawn := rfl
@[simp] theorem grantMark_pending (s : State) : (grantMark s).pending = s.pending := rfl

/-! ### respond -/

@[simp] theorem respond_tables (r : Request) (k : Byte) (x : Result) (d : List Byte) (s : State) : (respond r k x d s).tables = s.tables := rfl
@[simp] theorem respond_intake (r : Request) (k : Byte) (x : Result) (d : List Byte) (s : State) : (respond r k x d s).intake = s.intake := rfl
@[simp] theorem respond_timebase (r : Request) (k : Byte) (x : Result) (d : List Byte) (s : State) : (respond r k x d s).timebase = s.timebase := rfl
@[simp] theorem respond_supervision (r : Request) (k : Byte) (x : Result) (d : List Byte) (s : State) : (respond r k x d s).supervision = s.supervision := rfl
@[simp] theorem respond_balancer (r : Request) (k : Byte) (x : Result) (d : List Byte) (s : State) : (respond r k x d s).balancer = s.balancer := rfl
@[simp] theorem respond_scheduler (r : Request) (k : Byte) (x : Result) (d : List Byte) (s : State) : (respond r k x d s).scheduler = s.scheduler := rfl
@[simp] theorem respond_rescue (r : Request) (k : Byte) (x : Result) (d : List Byte) (s : State) : (respond r k x d s).rescue = s.rescue := rfl
@[simp] theorem respond_management (r : Request) (k : Byte) (x : Result) (d : List Byte) (s : State) : (respond r k x d s).management = s.management := rfl
@[simp] theorem respond_straps (r : Request) (k : Byte) (x : Result) (d : List Byte) (s : State) : (respond r k x d s).straps = s.straps := rfl
@[simp] theorem respond_hold (r : Request) (k : Byte) (x : Result) (d : List Byte) (s : State) : (respond r k x d s).hold = s.hold := rfl
@[simp] theorem respond_order (r : Request) (k : Byte) (x : Result) (d : List Byte) (s : State) : (respond r k x d s).order = s.order := rfl
@[simp] theorem respond_drawn (r : Request) (k : Byte) (x : Result) (d : List Byte) (s : State) : (respond r k x d s).drawn = s.drawn := rfl
@[simp] theorem respond_pending (r : Request) (k : Byte) (x : Result) (d : List Byte) (s : State) : (respond r k x d s).pending = s.pending := rfl

/-! ### Phases -/

@[simp] theorem PerPhase.get_set_same {α : Type} (t : PerPhase α) (p : Phase) (x : α) : (t.set p x).get p = x := by
  cases p <;> rfl

theorem PerPhase.get_set_other {α : Type} (t : PerPhase α) {p q : Phase} (x : α) (h : q ≠ p) :
    (t.set p x).get q = t.get q := by
  cases p <;> cases q <;> first | rfl | exact absurd rfl h

@[simp] theorem PerPhase.get_const {α : Type} (x : α) (p : Phase) : (PerPhase.const x).get p = x := by
  cases p <;> rfl

@[simp] theorem watch_setWatch_same (s : State) (p : Phase) (w : PhaseWatch) : (s.setWatch p w).watch p = w := by
  simp [State.watch, State.setWatch]

theorem watch_setWatch_other (s : State) {p q : Phase} (w : PhaseWatch) (h : q ≠ p) :
    (s.setWatch p w).watch q = s.watch q := by
  simp [State.watch, State.setWatch, PerPhase.get_set_other _ _ h]

/-! ### Records -/

theorem record_setRecord (s : State) (i j : Nat) (r : Option Consumer) :
    (s.setRecord i r).record j = if i = j ∧ i < s.tables.consumers.length then r else s.record j := by
  simp only [State.setRecord, State.record, List.getElem?_set]
  by_cases h : i = j
  · subst h
    by_cases hl : i < s.tables.consumers.length <;> simp [hl]
  · simp [h]

/-- A VACANT record stays so under `modifyRecord`, and no other record is touched. -/
theorem record_modifyRecord (s : State) (i j : Nat) (f : Consumer → Consumer) :
    (s.modifyRecord i f).record j = if i = j then (s.record j).map f else s.record j := by
  unfold State.modifyRecord
  cases h : s.record i with
  | none => by_cases hij : i = j <;> simp [hij]; subst hij; simp [h]
  | some r =>
    have hl : i < s.tables.consumers.length := by
      by_contra hn
      simp [State.record, List.getElem?_eq_none (Nat.le_of_not_lt hn)] at h
    rw [record_setRecord]
    by_cases hij : i = j
    · subst hij; simp [h, hl]
    · simp [hij]

end Sys2Proof.Machine
end

