-- ==== Sys2Proof/Laws/Rest.lean ====
section
/-!
SUPPORT. What draws, fills, withdrawals and grants leave alone (`State.KeepsRest`), operation by operation
up to `finish`, which ends every event.
-/

namespace Sys2Proof.Machine

theorem State.KeepsRest.refl (s : State) : s.KeepsRest s := by
  constructor <;> first | rfl | exact fun _ => rfl

theorem State.KeepsRest.trans {s t u : State} (h : s.KeepsRest t) (k : t.KeepsRest u) : s.KeepsRest u where
  active := k.active.trans h.active
  shadow := k.shadow.trans h.shadow
  marks := k.marks.trans h.marks
  addressMap := k.addressMap.trans h.addressMap
  budgetCounter := k.budgetCounter.trans h.budgetCounter
  records i := (k.records i).trans (h.records i)
  intake := k.intake.trans h.intake
  timebase := by rw [← h.timebase, ← k.timebase]
  supervision := k.supervision.trans h.supervision
  balancerState := k.balancerState.trans h.balancerState
  remaining := k.remaining.trans h.remaining
  upReceiver := k.upReceiver.trans h.upReceiver
  downReceiver := k.downReceiver.trans h.downReceiver
  counters := k.counters.trans h.counters
  management := k.management.trans h.management
  straps := k.straps.trans h.straps
  hold := k.hold.trans h.hold
  order := k.order.trans h.order
  drawn := k.drawn.trans h.drawn
  pending := k.pending.trans h.pending

/-- Steps folded over a list keep the rest when each does. -/
theorem State.KeepsRest.foldl {α : Type} (f : State → α → State) (hf : ∀ (s : State) (a : α), s.KeepsRest (f s a))
    (l : List α) (s : State) : s.KeepsRest (l.foldl f s) := by
  induction l generalizing s with
  | nil => exact .refl s
  | cons a l ih => exact (hf s a).trans (ih (f s a))

theorem modifyRecord_keeps (i : Nat) {f : Consumer → Consumer} (hf : ∀ r, (f r).core = r.core) (s : State) :
    s.KeepsRest (s.modifyRecord i f) := by
  have hr : ∀ j, ((s.modifyRecord i f).record j).map Consumer.core = (s.record j).map Consumer.core := by
    intro j
    rw [record_modifyRecord]
    split
    · cases s.record j <;> simp [hf]
    · rfl
  revert hr
  unfold State.modifyRecord
  intro hr
  split
  · rename_i r hi
    simp only [hi] at hr
    exact { State.KeepsRest.refl s with records := hr }
  · exact .refl s

/-! ### Notices and the Rescue Unit -/

theorem queueNotice_keeps (k : NoticeKind) (x : List Byte) (s : State) : s.KeepsRest (queueNotice k x s) := by
  unfold queueNotice
  split <;> constructor <;> first | rfl | exact fun _ => rfl

theorem raiseNotice_keeps (k : NoticeKind) (x : List Byte) (s : State) : s.KeepsRest (raiseNotice k x s) := by
  unfold raiseNotice
  split
  · exact queueNotice_keeps k x s
  · exact .refl s

/-- A change of the Rescue Unit's own state. -/
theorem rescue_keeps (s : State) (r : Rescue) : s.KeepsRest { s with rescue := r } := by
  constructor <;> first | rfl | exact fun _ => rfl

theorem closeTest_keeps (s : State) : s.KeepsRest (closeTest s) := by
  unfold closeTest
  split
  · split
    · exact .refl s
    · exact (rescue_keeps s { s.rescue with event := none }).trans (raiseNotice_keeps _ _ _)
  · exact .refl s

theorem unlist_keeps (i : Nat) (s : State) : s.KeepsRest (unlist i s) := rescue_keeps s _

theorem countUnrescuable_keeps (s : State) : s.KeepsRest (countUnrescuable s) := rescue_keeps s _
theorem countRestored_keeps (s : State) : s.KeepsRest (countRestored s) := rescue_keeps s _
theorem countRescued_keeps (s : State) : s.KeepsRest (countRescued s) := rescue_keeps s _

theorem enlist_keeps (i n : Nat) (p : Phase) (s : State) : s.KeepsRest (enlist i n p s) :=
  (rescue_keeps s _).trans (modifyRecord_keeps i (f := fun r => { r with rescue := some ⟨n, p⟩ }) (fun _ => rfl) _)

theorem delist_keeps (i : Nat) (s : State) : s.KeepsRest (delist i s) := by
  unfold delist
  split
  · exact (unlist_keeps i s).trans (closeTest_keeps _)
  · exact .refl s

theorem insertByHandOver_keeps (i : Nat) (s : State) : s.KeepsRest (insertByHandOver i s) := by
  unfold insertByHandOver
  split
  · exact enlist_keeps _ _ _ s
  · exact .refl s

theorem rescueEntryEnd_keeps (e : MoveEntry) (s : State) : s.KeepsRest (rescueEntryEnd e s) := by
  unfold rescueEntryEnd
  repeat' split
  all_goals first
    | exact countUnrescuable_keeps s
    | exact enlist_keeps _ _ _ s
    | exact countRestored_keeps s
    | exact countRescued_keeps s
    | exact .refl s

theorem handOverEnd_keeps (e : MoveEntry) (s : State) : s.KeepsRest (handOverEnd e s) := by
  unfold handOverEnd
  refine .trans ?_ (closeTest_keeps _)
  split
  · exact rescueEntryEnd_keeps e s
  · exact insertByHandOver_keeps e.consumer s
  · exact insertByHandOver_keeps e.consumer s

/-! ### Entries and draws -/

/-- A change of the Order Scheduler's own state. -/
theorem scheduler_keeps (s : State) (x : Scheduler) : s.KeepsRest { s with scheduler := x } := by
  constructor <;> first | rfl | exact fun _ => rfl

/-- `recontribute` differs from the change it wraps in the Sum Table alone. -/
theorem recontribute_sums (i : Nat) (f : State → State) (s : State) :
    ∃ sums, recontribute i f s = { f s with balancer.sums := sums } := by
  unfold recontribute
  dsimp only
  split
  · exact ⟨(f s).balancer.sums, rfl⟩
  · exact ⟨_, rfl⟩

theorem recontribute_keeps (i : Nat) {f : State → State} {s : State} (h : s.KeepsRest (f s)) :
    s.KeepsRest (recontribute i f s) := by
  obtain ⟨sums, e⟩ := recontribute_sums i f s
  rw [e]
  exact { h with }

theorem closeEntry_keeps (i : Nat) {f : Consumer → Consumer} (hf : ∀ r, (f r).core = r.core) (s : State) :
    s.KeepsRest (closeEntry i f s) :=
  recontribute_keeps i ((scheduler_keeps s _).trans (modifyRecord_keeps i hf _))

theorem makeEntry_keeps (o : Origin) (i : Nat) (q : Phase) (s : State) : s.KeepsRest (makeEntry o i q s) := by
  unfold makeEntry
  split
  · refine .trans (recontribute_keeps i ?_) (delist_keeps i _)
    exact (scheduler_keeps s _).trans
      (modifyRecord_keeps i (f := fun r => { r with state := .ordered }) (fun _ => rfl) _)
  · exact .refl s

theorem withdraw_keeps (reason : Byte) (e : MoveEntry) (s : State) : s.KeepsRest (withdraw reason e s) :=
  ((closeEntry_keeps e.consumer (f := fun r => { r with state := .settled }) (fun _ => rfl) s).trans
    (raiseNotice_keeps _ _ _)).trans (handOverEnd_keeps e _)

theorem withdrawTooNear_keeps (s : State) : s.KeepsRest (withdrawTooNear s) :=
  .foldl _ (fun s e => withdraw_keeps _ e s) _ s

theorem draw_keeps (i : Nat) (s : State) : s.KeepsRest (draw i s) := by
  unfold draw
  split
  · exact unlist_keeps i s
  · split
    · exact ((unlist_keeps i s).trans (countUnrescuable_keeps _)).trans (closeTest_keeps _)
    · refine .trans ((unlist_keeps i s).trans (modifyRecord_keeps i ?_ _)) (makeEntry_keeps _ _ _ _)
      exact fun _ => rfl

theorem drawUpTo_keeps (n : Nat) (s : State) : s.KeepsRest (drawUpTo n s) := by
  induction n generalizing s with
  | zero => exact .refl s
  | succ n ih =>
    unfold drawUpTo
    split
    · split
      · exact (draw_keeps _ s).trans (ih _)
      · exact .refl s
    · exact .refl s

theorem draws_keeps (s : State) : s.KeepsRest (draws s) := drawUpTo_keeps _ s

/-! ### The fill and the grants -/

theorem core_setQueryStage (stage : QueryStage) (r : Consumer) : (setQueryStage stage r).core = r.core := by
  unfold setQueryStage
  split <;> rfl

theorem fill_keeps (s : State) : s.KeepsRest (fill s) :=
  .foldl _ (fun s i => (scheduler_keeps s _).trans (modifyRecord_keeps i (core_setQueryStage .queued) _)) _ s

theorem startDown_keeps (o : Source) (f : Frame) (s : State) : s.KeepsRest (startDown o f s) := by
  constructor <;> first | rfl | exact fun _ => rfl

theorem startUp_keeps (o : Source) (f : Frame) (s : State) : s.KeepsRest (startUp o f s) := by
  constructor <;> first | rfl | exact fun _ => rfl

theorem grantForwardDown_keeps (s : State) : s.KeepsRest (grantForwardDown s) := by
  unfold grantForwardDown
  split
  · constructor <;> first | rfl | exact fun _ => rfl
  · exact .refl s

theorem grantBelowOrder_keeps (s : State) : s.KeepsRest (grantBelowOrder s) := by
  unfold grantBelowOrder
  split
  · exact (scheduler_keeps s _).trans (startDown_keeps _ _ _)
  · exact grantForwardDown_keeps s

theorem grantOrder_keeps (s : State) : s.KeepsRest (grantOrder s) := by
  unfold grantOrder
  refine (withdrawTooNear_keeps s).trans ?_
  dsimp only
  split
  · exact (scheduler_keeps _ _).trans (startDown_keeps _ _ _)
  · exact grantBelowOrder_keeps _

theorem grantMark_keeps (s : State) : s.KeepsRest (grantMark s) := by
  constructor <;> first | rfl | exact fun _ => rfl

theorem grantDown_keeps (s : State) : s.KeepsRest (grantDown s) := by
  unfold grantDown chooseDown
  repeat' split
  all_goals first
    | exact grantMark_keeps s
    | exact grantForwardDown_keeps s
    | exact grantOrder_keeps s
    | exact grantBelowOrder_keeps s
    | exact .refl s

theorem grantForwardUp_keeps (s : State) : s.KeepsRest (grantForwardUp s) := by
  unfold grantForwardUp
  split
  · constructor <;> first | rfl | exact fun _ => rfl
  · exact .refl s

theorem grantNotice_keeps (s : State) : s.KeepsRest (grantNotice s) := by
  unfold grantNotice
  split
  · constructor <;> first | rfl | exact fun _ => rfl
  · exact grantForwardUp_keeps s

theorem grantUp_keeps (s : State) : s.KeepsRest (grantUp s) := by
  unfold grantUp chooseUp
  repeat' split
  all_goals first
    | exact grantForwardUp_keeps s
    | exact grantNotice_keeps s
    | exact .refl s
    | (constructor <;> first | rfl | exact fun _ => rfl)

/-- The end of an event leaves alone all that `State.KeepsRest` names. -/
theorem finish_keeps (s : State) : s.KeepsRest (finish s) :=
  (((((draws_keeps s).trans (fill_keeps _)).trans (grantDown_keeps _)).trans (draws_keeps _)).trans
    (grantDown_keeps _)).trans (grantUp_keeps _)

/-! ### The hold -/

@[simp] theorem whileRunning_running (event : State → State) (s : State) (h : s.hold = none) :
    whileRunning event s = event s := by
  simp [whileRunning, h]

theorem whileRunning_held (event : State → State) (s : State) (h : s.hold ≠ none) : whileRunning event s = s := by
  unfold whileRunning
  split
  · contradiction
  · rfl

end Sys2Proof.Machine
end

