-- ==== Sys2Proof/Laws/Phases.lean ====
section
/-!
SUPPORT. What a change of condition, a sample and a cycle end do to what Phase Supervision keeps of a phase.
-/

namespace Sys2Proof.Machine

/-- The presence update of a cycle end is the one R68 gives. -/
theorem withPresence_withRuns (w : PhaseWatch) : w.withRuns.withPresence = w.counted := by
  obtain ⟨c, a, f, e, p, x, y⟩ := w
  by_cases hx : (if x < 3 then x + 1 else x) = 3 <;> by_cases hy : (if y < 3 then y + 1 else y) = 3 <;>
    cases e <;> cases p <;> simp [PhaseWatch.withRuns, PhaseWatch.withPresence, PhaseWatch.counted, raise, hx, hy]

theorem noticeCondition_keeps (p : Phase) (left entered : Condition) (cause : ConditionCause) (s : State) :
    s.KeepsRest (noticeCondition p left entered cause s) := by
  unfold noticeCondition
  dsimp only
  split <;> first
    | exact queueNotice_keeps _ _ s
    | exact raiseNotice_keeps _ _ s
    | exact State.KeepsRest.refl s
    | (split <;> first | exact raiseNotice_keeps _ _ s | exact State.KeepsRest.refl s)

theorem openOrExtend_keeps (p : Phase) (s : State) : s.KeepsRest (openOrExtend p s) := by
  unfold openOrExtend
  split <;> exact rescue_keeps s _

theorem rescueTrigger_keeps (p : Phase) (s : State) : s.KeepsRest (rescueTrigger p s) := by
  unfold rescueTrigger
  split
  · exact (openOrExtend_keeps p s).trans <|
      (State.KeepsRest.foldl _ (fun t i => enlist_keeps i 0 p t) _ _).trans (closeTest_keeps _)
  · exact State.KeepsRest.refl s

theorem dropRescueMark_keeps (i : Nat) (s : State) : s.KeepsRest (dropRescueMark i s) :=
  modifyRecord_keeps i (f := fun r => { r with rescue := none }) (fun _ => rfl) s

theorem restored_keeps (s : State) (i : Nat) : s.KeepsRest (countRestored (unlist i s)) :=
  (unlist_keeps i s).trans (countRestored_keeps _)

theorem rescueRecovery_keeps (p : Phase) (s : State) : s.KeepsRest (rescueRecovery p s) := by
  have h (l m : List Nat) : s.KeepsRest
      (m.foldl (fun s i => dropRescueMark i s) (l.foldl (fun s i => countRestored (unlist i s)) s)) :=
    (State.KeepsRest.foldl _ restored_keeps l s).trans
      (State.KeepsRest.foldl _ (fun t i => dropRescueMark_keeps i t) m _)
  unfold rescueRecovery
  dsimp only
  split
  · exact ((h _ _).trans (rescue_keeps _ _)).trans (closeTest_keeps _)
  · exact (h _ _).trans (closeTest_keeps _)

theorem rescueOnCondition_keeps (p : Phase) (left entered : Condition) (s : State) :
    s.KeepsRest (rescueOnCondition p left entered s) := by
  unfold rescueOnCondition
  split <;> first
    | exact rescueTrigger_keeps p s
    | exact rescueRecovery_keeps p s
    | exact State.KeepsRest.refl s

/-- A change of condition changes nothing but that condition and what the rest of an event may change. -/
theorem changeCondition_keeps (p : Phase) (entered : Condition) (cause : ConditionCause) (s : State) :
    (s.setWatch p { s.watch p with condition := entered }).KeepsRest (changeCondition p entered cause s) := by
  unfold changeCondition
  dsimp only
  split
  · exact (noticeCondition_keeps _ _ _ _ _).trans (rescueOnCondition_keeps _ _ _ _)
  · exact (rescueOnCondition_keeps _ _ _ _).trans (noticeCondition_keeps _ _ _ _ _)

/-- What Phase Supervision keeps of each phase after a change of condition. -/
theorem changeCondition_phases (p : Phase) (entered : Condition) (cause : ConditionCause) (s : State) :
    (changeCondition p entered cause s).supervision.phases
      = s.supervision.phases.set p { s.watch p with condition := entered } := by
  rw [(changeCondition_keeps p entered cause s).supervision]
  rfl

/-- A phase whose watch is written back unchanged. -/
theorem set_watch_self (s : State) (p : Phase) : s.supervision.phases.set p (s.watch p) = s.supervision.phases := by
  cases p <;> rfl

/-- A second change of one phase takes the place of the first. -/
theorem PerPhase.set_set {α : Type} (t : PerPhase α) (p : Phase) (x y : α) : (t.set p x).set p y = t.set p y := by
  cases p <;> rfl

/-- A phase in SAG under the sag-to-lost delay (R71). -/
theorem sagDelayReached_phases (p : Phase) (s : State) {n : Nat} (h : (s.watch p).condition = .sag n) :
    (sagDelayReached p s).supervision.phases = s.supervision.phases.set p
      { s.watch p with condition := if s.management.active.sagDelay ≤ n then .lost else .sag n } := by
  unfold sagDelayReached
  rw [h]
  dsimp only
  split
  · exact changeCondition_phases _ _ _ s
  · rw [← h]; exact (set_watch_self s p).symm

/-- A phase in RECOVERING, both conditions holding, under the recovery hold (R71). -/
theorem holdReached_phases (p : Phase) (s : State) {n : Nat} (h : (s.watch p).condition = .recovering n)
    (hp : (s.watch p).present = true) (ha : (s.watch p).sagActive = false) :
    (holdReached p s).supervision.phases = s.supervision.phases.set p
      { s.watch p with condition := if s.management.active.recoveryHold ≤ n then .healthy else .recovering n } := by
  unfold holdReached
  simp only [h]
  by_cases hn : s.management.active.recoveryHold ≤ n
  · simpa [hn, hp, ha] using changeCondition_phases p .healthy .holdComplete s
  · simp only [hn, decide_false, Bool.false_and, Bool.false_eq_true, if_false]
    rw [← h]
    exact (set_watch_self s p).symm

/-- The condition machine at a cycle end, on a phase that no sample of that cycle end has taken into RECOVERING. -/
theorem conditionAtCycleEnd_phases (began : PerPhase PhaseWatch) (p : Phase) (s : State)
    (h : (s.watch p).recovers = true → (began.get p).recovers = true) :
    (conditionAtCycleEnd began p s).supervision.phases
      = s.supervision.phases.set p
        { s.watch p with
          condition := (s.watch p).conditionAtCycleEnd s.management.active.sagDelay s.management.active.recoveryHold } := by
  have self := set_watch_self s p
  unfold conditionAtCycleEnd PhaseWatch.conditionAtCycleEnd
  generalize hw : s.watch p = w at h self ⊢
  obtain ⟨c, a, f, e, pr, x, y⟩ := w
  cases pr
  · cases c <;> simp [onPresence, hw, changeCondition_phases, self]
  · cases c with
    | healthy => simp [self]
    | lost => cases a <;> simp [onPresence, hw, changeCondition_phases, self]
    | sag n =>
      simp only [if_true]
      rw [sagDelayReached_phases p _ (by rw [watch_setWatch_same]), watch_setWatch_same]
      exact PerPhase.set_set _ _ _ _
    | recovering n =>
      cases a
      · rw [h rfl]
        simp only [if_true, Bool.not_true, Bool.or_self, Bool.false_eq_true, if_false]
        rw [holdReached_phases p _ (by rw [watch_setWatch_same]) (by rw [watch_setWatch_same])
          (by rw [watch_setWatch_same]), watch_setWatch_same]
        exact PerPhase.set_set _ _ _ _
      · simp [self]

/-- The condition machine on a filtered sag level (R70). -/
theorem onFilteredLevel_phases (p : Phase) (s : State) :
    (onFilteredLevel p s).supervision.phases = s.supervision.phases.set p
      { s.watch p with condition := (s.watch p).conditionOnLevel (s.watch p).sagActive } := by
  have self := set_watch_self s p
  unfold onFilteredLevel PhaseWatch.conditionOnLevel
  generalize hw : s.watch p = w at self ⊢
  obtain ⟨c, a, f, e, pr, x, y⟩ := w
  cases c <;> cases a <;> cases pr <;> simp [hw, changeCondition_phases, self]

/-- One sample of a sag line through its filter (R67, R70). -/
theorem samplePhase_phases (level : Bool) (p : Phase) (s : State) :
    (samplePhase level p s).supervision.phases = s.supervision.phases.set p
      (if level = (s.watch p).sagActive then { s.watch p with filterRun := 0 }
      else if s.management.active.sagFilter ≤ (s.watch p).filterRun + 1 then
        { s.watch p with
          sagActive := level, filterRun := 0, condition := (s.watch p).conditionOnLevel level }
      else { s.watch p with filterRun := (s.watch p).filterRun + 1 }) := by
  unfold samplePhase filteredLevelChange
  by_cases h : level = (s.watch p).sagActive
  · simp only [if_pos h]
    rfl
  · have hl : (!(s.watch p).sagActive) = level := by revert h; cases level <;> cases (s.watch p).sagActive <;> simp
    simp only [if_neg h, watch_setWatch_same, hl]
    by_cases hv : s.management.active.sagFilter ≤ (s.watch p).filterRun + 1
    · rw [if_pos hv]
      refine (congrArg (fun t : State => t.supervision.phases) (if_pos hv)).trans ?_
      rw [onFilteredLevel_phases, watch_setWatch_same]
      refine (PerPhase.set_set _ _ _ _).trans ((PerPhase.set_set _ _ _ _).trans ?_)
      rfl
    · rw [if_neg hv]
      exact congrArg (fun t : State => t.supervision.phases) (if_neg hv)

end Sys2Proof.Machine
end

