-- ==== Sys2Proof/Laws/Tables.lean ====
section
/-!
SUPPORT. What the shared operations over the tables, the Sum Table, the lists and the notices can do, said once
for each.
-/

namespace Sys2Proof.Machine

/-! ### Saturation -/

theorem raise_le {top n : Nat} (h : n ≤ top) : raise top n ≤ top := by
  unfold raise; split <;> omega

theorem le_raise (top n : Nat) : n ≤ raise top n := by
  unfold raise; split <;> omega

theorem bump_le {n : Nat} (h : n ≤ Config.counterTop) : bump n ≤ Config.counterTop := raise_le h

/-! ### The Consumer Table and the Address Map -/

@[simp] theorem length_modifyAt {α : Type} (l : List α) (i : Nat) (f : α → α) : (modifyAt l i f).length = l.length := by
  unfold modifyAt; split <;> simp

theorem mapped_setMap (s : State) (a b : Byte) (i : Option Nat) :
    (s.setMap a i).mapped b = if a = b ∧ a.toNat < s.tables.addressMap.length then i else s.mapped b := by
  simp only [State.setMap, State.mapped, List.getElem?_set, BitVec.toNat_inj]
  by_cases h : a = b
  · subst h
    by_cases hl : a.toNat < s.tables.addressMap.length <;> simp [hl]
  · simp [h]

@[simp] theorem record_setMap (s : State) (a : Byte) (i : Option Nat) (j : Nat) : (s.setMap a i).record j = s.record j := rfl

@[simp] theorem mapped_setRecord (s : State) (i : Nat) (r : Option Consumer) (a : Byte) :
    (s.setRecord i r).mapped a = s.mapped a := rfl

/-- The indices that meet a test are those of the records that meet it. -/
theorem mem_indicesWhere (s : State) (test : Nat → Consumer → Bool) (i : Nat) :
    i ∈ s.indicesWhere test ↔ ∃ r, s.record i = some r ∧ test i r = true := by
  simp only [State.indicesWhere, List.mem_filterMap, Prod.exists, List.mem_zipIdx_iff_getElem?, State.record]
  constructor
  · rintro ⟨r, j, hj, h⟩
    cases r with
    | none => cases h
    | some r =>
      by_cases ht : test j r = true
      · simp only [ht, if_true, Option.some.injEq] at h
        subst h
        exact ⟨r, by rw [hj]; rfl, ht⟩
      · simp [ht] at h
  · rintro ⟨r, hr, ht⟩
    cases hc : s.tables.consumers[i]? with
    | none => rw [hc] at hr; cases hr
    | some r' =>
      rw [hc] at hr
      exact ⟨r', i, hc, by cases hr; simp [ht]⟩

/-! ### The Sum Table (R84, R85) -/

@[simp] theorem length_addTo (p : Phase) (x : Int) (t : List (PerPhase Int)) (i : Nat) :
    (addTo p x t i).length = t.length := length_modifyAt ..

/-- A load added to one entry changes that entry alone. -/
theorem sumAt_addTo (p q : Phase) (x : Int) (t : List (PerPhase Int)) (i k : Nat) :
    sumAt (addTo p x t i) k q = sumAt t k q + if i = k ∧ p = q ∧ i < t.length then x else 0 := by
  unfold addTo modifyAt
  by_cases hi : i < t.length
  · rw [List.getElem?_eq_getElem hi]
    simp only [sumAt, List.getElem?_set, hi, if_true, and_true]
    by_cases hk : i = k
    · subst hk
      rw [List.getElem?_eq_getElem hi]
      by_cases hp : p = q
      · subst hp; simp
      · simp [hp, PerPhase.get_set_other _ _ (Ne.symm hp)]
    · simp [hk]
  · rw [List.getElem?_eq_none (Nat.le_of_not_lt hi)]
    simp [hi]

@[simp] theorem length_addAlong (path : List Nat) (p : Phase) (x : Int) (t : List (PerPhase Int)) :
    (addAlong path p x t).length = t.length := by
  induction path generalizing t with
  | nil => rfl
  | cons i path ih => exact (ih _).trans (length_addTo ..)

/-- A load added along a path without repeats is added once in each of its segments. -/
theorem sumAt_addAlong {path : List Nat} (hn : path.Nodup) {t : List (PerPhase Int)} (hl : ∀ i ∈ path, i < t.length)
    (p q : Phase) (x : Int) (k : Nat) :
    sumAt (addAlong path p x t) k q = sumAt t k q + if k ∈ path ∧ p = q then x else 0 := by
  induction path generalizing t with
  | nil => simp [addAlong]
  | cons i path ih =>
    rw [show addAlong (i :: path) p x t = addAlong path p x (addTo p x t i) from rfl,
      ih (List.nodup_cons.mp hn).2 (by simpa using fun j hj => hl j (List.mem_cons_of_mem _ hj)), sumAt_addTo]
    have hi := hl i List.mem_cons_self
    have hnot := (List.nodup_cons.mp hn).1
    by_cases hk : i = k
    · subst hk; simp [hi, hnot]
    · simp [hk, Ne.symm hk]

@[simp] theorem length_addContribution (active : List Segment) (c : Option Contribution) (t : List (PerPhase Int)) :
    (addContribution active c t).length = t.length := by
  cases c <;> simp [addContribution]

@[simp] theorem length_removeContribution (active : List Segment) (c : Option Contribution) (t : List (PerPhase Int)) :
    (removeContribution active c t).length = t.length := by
  cases c <;> simp [removeContribution]

/-- What a change with its hand-over to the Balancer leaves is the change's own state but for the sums (R85). -/
theorem recontribute_eq (i : Nat) (f : State → State) (s : State) :
    recontribute i f s =
      { f s with
        balancer.sums :=
          if s.contribution i = (f s).contribution i then (f s).balancer.sums
          else addContribution (f s).tables.active ((f s).contribution i)
            (removeContribution s.tables.active (s.contribution i) (f s).balancer.sums) } := by
  unfold recontribute
  by_cases h : s.contribution i = (f s).contribution i <;> simp [h]

theorem record_changeRecord (i j : Nat) (f : Consumer → Consumer) (s : State) :
    (changeRecord i f s).record j = if i = j then (s.record j).map f else s.record j := by
  rw [changeRecord, recontribute_eq]
  exact record_modifyRecord s i j f

/-! ### The rescue list and its close test (R147, R157) -/

theorem mem_insertInOrder (before : Nat → Nat → Bool) (i x : Nat) (l : List Nat) :
    x ∈ insertInOrder before i l ↔ x = i ∨ x ∈ l := by
  induction l with
  | nil => simp [insertInOrder]
  | cons j rest ih =>
    unfold insertInOrder
    split
    · simp
    · simp only [List.mem_cons, ih]; tauto

theorem nodup_insertInOrder (before : Nat → Nat → Bool) {i : Nat} {l : List Nat} (hl : l.Nodup) (hi : i ∉ l) :
    (insertInOrder before i l).Nodup := by
  induction l with
  | nil => simp [insertInOrder]
  | cons j rest ih =>
    obtain ⟨hj, hr⟩ := List.nodup_cons.mp hl
    have hij : i ≠ j ∧ i ∉ rest := by simpa [not_or] using hi
    unfold insertInOrder
    split
    · simp [hij, hj, hr]
    · refine List.nodup_cons.mpr ⟨?_, ih hr hij.2⟩
      rw [mem_insertInOrder]
      rintro (h | h)
      · exact hij.1 h.symm
      · exact hj h

theorem mem_unlist (i x : Nat) (s : State) : x ∈ (unlist i s).rescue.list ↔ x ∈ s.rescue.list ∧ x ≠ i := by
  simp [unlist]

/-! ### Notices (R178, R179) -/

/-- A notice changes the notice queue and the lost-notice count alone. -/
theorem queueNotice_eq (k : NoticeKind) (x : List Byte) (s : State) :
    ∃ notices lost, queueNotice k x s = { s with ports.notices := notices, ports.lostNotices := lost } := by
  unfold queueNotice; split <;> exact ⟨_, _, rfl⟩

/-- So does a notice under the mask. -/
theorem raiseNotice_eq (k : NoticeKind) (x : List Byte) (s : State) :
    ∃ notices lost, raiseNotice k x s = { s with ports.notices := notices, ports.lostNotices := lost } := by
  unfold raiseNotice; split
  · exact queueNotice_eq k x s
  · exact ⟨_, _, rfl⟩

/-- A notice that passes the mask while the queue has room is appended, and the count starts again. -/
theorem raiseNotice_room (k : NoticeKind) (x : List Byte) (s : State) (h : s.noticeEnabled k = true)
    (hr : s.ports.notices.length < Config.noticeRoom) :
    raiseNotice k x s
      = { s with
          ports.notices := s.ports.notices ++ [⟨byte k.code, s.ports.lostNotices, s.now, x⟩], ports.lostNotices := 0 } := by
  simp [raiseNotice, queueNotice, h, hr]

/-- The close test closes the loss event with its notice, or changes nothing (R157). -/
theorem closeTest_eq (s : State) :
    closeTest s = s ∨ ∃ notices lost, s.rescueActive = false ∧ s.rescue.event.isSome = true
      ∧ closeTest s
        = { s with rescue.event := none, ports.notices := notices, ports.lostNotices := lost } := by
  unfold closeTest
  cases h : s.rescue.event with
  | none => exact .inl rfl
  | some ev =>
    by_cases ha : s.rescueActive = true
    · exact .inl (by simp [ha])
    · obtain ⟨notices, lost, e⟩ := raiseNotice_eq .rescueDone
        [phaseSetCode ev.phases, byte s.rescue.rescued, byte s.rescue.unrescuable, byte s.rescue.restored]
        { s with rescue.event := none }
      exact .inr ⟨notices, lost, by simpa using ha, rfl, by simp [ha, e]⟩

@[simp] theorem closeTest_list (s : State) : (closeTest s).rescue.list = s.rescue.list := by
  rcases closeTest_eq s with h | ⟨_, _, _, _, h⟩ <;> rw [h]

@[simp] theorem closeTest_tables (s : State) : (closeTest s).tables = s.tables := by
  rcases closeTest_eq s with h | ⟨_, _, _, _, h⟩ <;> rw [h]

@[simp] theorem closeTest_scheduler (s : State) : (closeTest s).scheduler = s.scheduler := by
  rcases closeTest_eq s with h | ⟨_, _, _, _, h⟩ <;> rw [h]

@[simp] theorem closeTest_balancer (s : State) : (closeTest s).balancer = s.balancer := by
  rcases closeTest_eq s with h | ⟨_, _, _, _, h⟩ <;> rw [h]

/-- A record off the list stays off, and one on it leaves it (R154). -/
theorem mem_delist (i x : Nat) (s : State) : x ∈ (delist i s).rescue.list ↔ x ∈ s.rescue.list ∧ x ≠ i := by
  unfold delist
  split
  · rw [closeTest_list, mem_unlist]
  · rename_i h
    have : i ∉ s.rescue.list := by simpa [State.listed] using h
    exact ⟨fun hx => ⟨hx, fun e => this (e ▸ hx)⟩, And.left⟩

/-! ### The schedule and the query queue -/

theorem mem_leaveQueue (i : Nat) (e : QueryEntry) (s : State) :
    e ∈ (leaveQueue i s).scheduler.queries ↔ e ∈ s.scheduler.queries ∧ e.consumer ≠ i := by
  simp [leaveQueue]

/-- The first of the greatest gains is one of the trials, and none is greater (R92). -/
theorem bestTrial_spec {l : List ChosenMove} {m : ChosenMove} (h : bestTrial l = some m) :
    m ∈ l ∧ ∀ x ∈ l, x.gain ≤ m.gain := by
  induction l generalizing m with
  | nil => cases h
  | cons a rest ih =>
    unfold bestTrial at h
    cases hb : bestTrial rest with
    | none =>
      rw [hb] at h
      cases h
      refine ⟨List.mem_cons_self, fun x hx => ?_⟩
      rcases List.mem_cons.mp hx with rfl | hx
      · exact Int.le_refl _
      · cases rest with
        | nil => cases hx
        | cons b rest =>
          simp only [bestTrial] at hb
          split at hb
          · split at hb <;> cases hb
          · cases hb
    | some best =>
      rw [hb] at h
      obtain ⟨hm, hle⟩ := ih hb
      by_cases hg : a.gain < best.gain
      · simp only [hg, if_true, Option.some.injEq] at h
        subst h
        refine ⟨List.mem_cons_of_mem _ hm, fun x hx => ?_⟩
        rcases List.mem_cons.mp hx with rfl | hx
        · exact Int.le_of_lt hg
        · exact hle x hx
      · simp only [hg, if_false, Option.some.injEq] at h
        subst h
        refine ⟨List.mem_cons_self, fun x hx => ?_⟩
        rcases List.mem_cons.mp hx with rfl | hx
        · exact Int.le_refl _
        · exact Int.le_trans (hle x hx) (Int.not_lt.mp hg)

/-! ### Draws (R150, R151) -/

/-- The phase of lowest load is one of the phases, and none has a lower load. -/
theorem lowestPhase_spec (load : Phase → Int) {l : List Phase} {q : Phase} (h : lowestPhase load l = some q) :
    q ∈ l ∧ ∀ x ∈ l, load q ≤ load x := by
  induction l generalizing q with
  | nil => cases h
  | cons a rest ih =>
    unfold lowestPhase at h
    cases hb : lowestPhase load rest with
    | none =>
      rw [hb] at h
      cases h
      refine ⟨List.mem_cons_self, fun x hx => ?_⟩
      rcases List.mem_cons.mp hx with rfl | hx
      · exact Int.le_refl _
      · cases rest with
        | nil => cases hx
        | cons b rest =>
          simp only [lowestPhase] at hb
          split at hb
          · split at hb <;> cases hb
          · cases hb
    | some best =>
      rw [hb] at h
      obtain ⟨hm, hle⟩ := ih hb
      by_cases hg : load best < load a
      · simp only [hg, if_true, Option.some.injEq] at h
        subst h
        refine ⟨List.mem_cons_of_mem _ hm, fun x hx => ?_⟩
        rcases List.mem_cons.mp hx with rfl | hx
        · exact Int.le_of_lt hg
        · exact hle x hx
      · simp only [hg, if_false, Option.some.injEq] at h
        subst h
        refine ⟨List.mem_cons_self, fun x hx => ?_⟩
        rcases List.mem_cons.mp hx with rfl | hx
        · exact Int.le_refl _
        · exact Int.le_trans (Int.not_lt.mp hg) (hle x hx)

end Sys2Proof.Machine
end

