-- ==== Sys2Proof/Tests/Slice0.lean ====
section
/-!
SUPPORT. Tests of the model on the manual's own figures and tables, each on one small state, and for every
statement with hypotheses a concrete state that meets them.
-/

namespace Sys2Proof.Tests

open Sys2Proof Sys2Proof.Machine

-- one theorem after another: in parallel each takes a thread with a large stack
set_option Elab.async false

/-! ### Small states -/

/-- The state a command leaves. -/
def after (c : Instr) (s : State) : State :=
  match exec c s with
  | .next t => t
  | _ => s

/-- A SETTLED record at link address 1 on segment 0 and L1, with every phase allowed. -/
def unit : Consumer :=
  ⟨.settled, 1, 0, ⟨true, true, true⟩, .l1, false, 1, 0, none, 100, true, 100, ⟨0, 0, false⟩, ⟨0, 0, false⟩, 0, 0,
    none, none⟩

/-- A Consumer Table with one record, at index 0. -/
def one (r : Consumer) : List (Option Consumer) := some r :: List.replicate 239 none

/-- The part some while after reset: SYNCED at cycle 1000 with all phases HEALTHY, the balancer IDLE, nothing being
sent, one record at index 0, and a Sum Table whose entry for segment 0 and L1 is its load. -/
def base (r : Consumer := unit) : State :=
  { State.reset with
    tables := { State.reset.tables with
      consumers := one r, addressMap := none :: some 0 :: List.replicate 254 none }
    timebase := ⟨100, 20000, 1000, .l1, .synced, false, 4, 0, 0, 0, false⟩
    supervision.phases := PerPhase.const ⟨.healthy, false, 0, false, true, 0, 3⟩
    balancer := ⟨.idle, 6, ⟨100, 0, 0⟩ :: List.replicate 15 ⟨0, 0, 0⟩⟩
    ports.up.transmitter := .idle }

/-- The entry of a move of that record from L1 to L2, made at cycle 1000 with lead 25 and grace 25. -/
def entry (stage : Stage) : MoveEntry := ⟨0, 7, .balance, .l1, .l2, 1025, 1050, stage⟩

/-- The part with that move in progress. -/
def moving (stage : Stage) : State :=
  { base { unit with state := stage.recordState } with
    scheduler := ⟨[entry stage], some 1025, 8, []⟩
    balancer := ⟨.idle, 6, ⟨0, 100, 0⟩ :: List.replicate 15 ⟨0, 0, 0⟩⟩ }

/-- The part with the record in QUERYING at some stage of its query. -/
def asking (stage : QueryStage) (tries : Nat := 3) : State := base { unit with state := .querying ⟨stage, tries⟩ }

/-! ### Well-formedness -/

theorem test_wellFormed_refuses_empty_request : (Instr.managementRequest 255 1 []).wellFormed = false := by decide
theorem test_wellFormed_refuses_long_request :
    (Instr.managementRequest 255 1 (List.replicate 49 0)).wellFormed = false := by decide
theorem test_wellFormed_refuses_long_payloads :
    (Instr.upstreamFrameArrival 1 255 0x20 0 (List.replicate 49 0)).wellFormed = false
      ∧ (Instr.downstreamFrameArrival 255 1 0x20 0 (List.replicate 49 0)).wellFormed = false := by decide
theorem test_wellFormed_refuses_long_arguments :
    [Instr.readStatus, .readPolicy, .writePolicy, .readSegment, .writeSegment, .readConsumer, .writeConsumer,
      .clearConsumer, .readSums, .setLock, .clearFault, .manualMove, .cancelMoves, .readSchedule, .restart,
      .balancerControlOtherAction].all (fun c => !(c 255 1 (List.replicate 48 0)).wellFormed) = true := by decide
theorem test_wellFormed_refuses_known_kind : (Instr.unknownKind 255 1 0x10 []).wellFormed = false := by decide
theorem test_wellFormed_refuses_long_unknown :
    (Instr.unknownKind 255 1 0x11 (List.replicate 48 0)).wellFormed = false := by decide
theorem test_wellFormed_refuses_named_actions :
    (Instr.balancerControlOtherAction 255 1 [1]).wellFormed = false
      ∧ (Instr.balancerControlOtherAction 255 1 [2]).wellFormed = false
      ∧ (Instr.balancerControlOtherAction 255 1 [3]).wellFormed = false := by decide
theorem test_wellFormed_takes_the_rest :
    (Instr.managementRequest 255 1 (List.replicate 48 0)).wellFormed = true
      ∧ (Instr.unknownKind 255 1 0x11 []).wellFormed = true
      ∧ (Instr.balancerControlOtherAction 255 1 [4]).wellFormed = true := by decide
theorem test_no_word_spells_a_command : decodeTableWord 32 0x0E = none ∧ State.reset.withFetchWord 32 1 = State.reset := by
  exact ⟨rfl, rfl⟩

/-! ### Frames (R161, R162); the check value of "123456789" under this CRC is the published 0x29B1 -/

theorem test_crc_check_value : crc [0x31, 0x32, 0x33, 0x34, 0x35, 0x36, 0x37, 0x38, 0x39] = 0x29B1 := by
  decide +kernel
theorem test_start_notice_frame : startNoticeFrame = goodFrame 255 240 0x58 0 [1, 0, 0, 0, 0x81] := by decide +kernel
theorem test_frame_arrives_by_characters :
    (frameBytes (goodFrame 3 4 5 6 [7])).foldl (fun r c => receive r.1 c false) (.hunting, .nothing)
      = (.hunting, .arrived (goodFrame 3 4 5 6 [7])) := by decide +kernel
theorem test_own_addresses :
    [(0 : BitVec 4), 1, 13, 14, 15].map (fun a => Config.ownAddress ⟨a, false, 0⟩) = [240, 241, 253, 253, 253] := by
  decide

/-! ### Starts (R201, R202) -/

theorem test_reset_pulse_starts_warm :
    let t := after (.start ⟨2, true, 0⟩) (after .resetLineLow (base { unit with state := .faulted .openContact }))
    (t.record 0).map Consumer.state = some (.faulted .openContact) ∧ t.management.startRecord.cold = false
      ∧ t.ownAddress = 242 ∧ t.timebase.activePeriod = 16667 := by decide +kernel
theorem test_dip_starts_cold :
    let t := after (.start ⟨0, false, 0⟩) (after (.supplyBelowThreshold false) base)
    t.record 0 = none ∧ t.management.startRecord = ⟨⟨false, true, false, false⟩, true⟩ := by decide +kernel

/-! ### Measurement (R28 to R39): the worked figures of chapter 2 -/

/-- The Fresh load that the fold of a bank with one sample leaves, at a shift. -/
def folded (shift : Nat) (fresh mean : Int) : Option Int :=
  ((after .foldOfRecord
    { base { unit with fresh := fresh, firstBank := ⟨mean, 1, true⟩ } with
      intake := ⟨true, 0, .folding 0 shift 6⟩ }).record 0).map Consumer.fresh

theorem test_smoothing_figures :
    folded 2 100 117 = some 104 ∧ folded 2 100 90 = some 98 ∧ folded 2 100 102 = some 100
      ∧ folded 2 (-300) (-317) = some (-304) ∧ folded 2 (-50) 40 = some (-28) ∧ folded 4 100 117 = some 101
      ∧ folded 0 100 117 = some 117 := by decide +kernel
theorem test_mean_of_clamped_samples :
    let read (x : Word16) (s : State) : State := after (.loadReading 255 1 0 x 1 10) s
    let s := read (BitVec.ofInt 16 (-2500)) (read 118 (read 117 (base { unit with seeded := false })))
    (s.record 0).map Consumer.firstBank = some ⟨-1765, 3, true⟩
      ∧ ((after .foldOfRecord { s with intake := ⟨true, 0, .folding 0 2 6⟩ }).record 0).map Consumer.fresh
        = some (-588) := by decide +kernel
theorem test_unheard_record_falls_silent :
    let t := after .foldOfRecord { base { unit with silence := 1 } with intake := ⟨true, 0, .folding 0 2 2⟩ }
    (t.record 0).map (fun r => (r.state, r.silence)) = some (.silent, 2) ∧ sumAt t.balancer.sums 0 .l1 = 0 := by
  decide +kernel
theorem test_silent_unit_returns :
    let t := after (.loadReading 255 1 0 40 1 10)
      { base { unit with state := .silent, fresh := 85 } with balancer.sums := zeroSums }
    -- the fill of the same event queues its query, and the free transmitter takes it
    (t.record 0).map (fun r => (r.state, r.firstBank)) = some (.unverified ⟨.queued, 3⟩, ⟨40, 1, true⟩)
      ∧ sumAt t.balancer.sums 0 .l1 = 100 := by decide +kernel
theorem test_window_close :
    (after .windowClose { base with intake := ⟨false, 50, .idle⟩ }).intake = ⟨true, 0, .folding 0 2 6⟩ := by
  decide +kernel

/-! ### The timebase (R50 to R58) -/

/-- The part at a place in its cycle. -/
def atTick (n : Nat) : State := { base with timebase.tickCounter := n }

theorem test_glitch_is_counted :
    let t := after (.zeroCrossingEdge .l1 9 ⟨false, false, false⟩) (atTick 18740)
    t.ports.counters.glitches = 1 ∧ t.timebase.tickCounter = 18749 ∧ t.timebase.cycleCount = 1000 := by decide +kernel
theorem test_crossing_is_accepted :
    let t := after (.zeroCrossingEdge .l1 0 ⟨false, false, false⟩) (atTick 18750)
    t.timebase.tickCounter = 0 ∧ t.timebase.activePeriod = 18750 ∧ t.timebase.cycleCount = 1001 := by decide +kernel
theorem test_synthetic_end :
    let t := after .syntheticCycleEnd (atTick 20000)
    t.timebase.tickCounter = 1250 ∧ t.timebase.sync = .flywheel ∧ t.timebase.cycleCount = 1001 := by decide +kernel
theorem test_failover_passes_a_lost_phase :
    let s : State := { base with
      timebase := { base.timebase with sync := .unsynced, referenceRun := 2 }
      supervision.phases.l2.condition := .lost }
    (after .failover s).timebase.reference = .l3 ∧ (after .failover s).timebase.reanchorPending = true := by
  decide +kernel
theorem test_cycle_mark :
    let t := after .cycleMarkDue { base with timebase.markCounter := 50 }
    t.ports.down.transmitter = .busy .mark (goodFrame 0 240 0x40 0 [0x03, 0xE8, 0, 100, 1]) := by decide +kernel

/-! ### Phases and rescue (R67 to R73, R148 to R151) -/

theorem test_sag_is_filtered :
    let s : State := { base with supervision.phases.l1.filterRun := 3 }
    ((after (.sagSample ⟨true, false, false⟩) s).watch .l1).condition = .sag 0 := by decide +kernel
theorem test_loss_lists_and_draws :
    let t := after (.sagDelay .l1) { base with supervision.phases.l1 := ⟨.sag 10, true, 0, false, true, 0, 3⟩ }
    -- both other sums are 0, and L2 comes before L3
    t.scheduler.schedule = [⟨0, 1, .rescue, .l1, .l2, 1025, 1050, .queued true⟩] ∧ t.rescue.list = []
      ∧ t.rescue.event.isSome = true := by decide +kernel

theorem test_point_zero_starts_the_hold :
    -- R70: presence about to become present and the filter turning inactive at point 0, in either order
    [true, false].all (fun first =>
      let s : State := { base with
        timebase.tickCounter := 20000
        supervision.phases.l2 := ⟨.lost, true, 3, true, false, 0, 2⟩
        order.sampleFirst := first }
      ((after (.zeroCrossingEdge .l1 0 ⟨false, false, false⟩) s).watch .l2).condition == .recovering 0) = true := by
  decide +kernel
theorem test_a_cycle_end_is_counted :
    let s : State := { base with
      timebase.tickCounter := 20000, timebase.markCounter := 49, intake.windowCounter := 49
      tables.budgetCounter := 4319999, tables.consumers := one { unit with moveCount := 3 }
      supervision.phases.l2 := ⟨.sag 8, true, 0, true, true, 0, 3⟩
      supervision.phases.l3 := ⟨.healthy, false, 0, false, true, 2, 0⟩ }
    let t := after (.zeroCrossingEdge .l1 0 ⟨false, true, false⟩) s
    t.tables.budgetCounter = 0 ∧ (t.record 0).map Consumer.moveCount = some 0 ∧ t.timebase.markCounter = 0
      ∧ t.intake = ⟨true, 0, .folding 0 2 6⟩ ∧ (t.watch .l2).condition = .sag 9
      ∧ (t.watch .l3).condition = .lost ∧ (t.watch .l3).absenceRun = 3 := by decide +kernel

/-! ### A pass (chapter 5): the worked example with two chosen moves -/

/-- A record of the worked example. -/
def member (segment : Nat) (p : Phase) (load : Int) : Option Consumer :=
  some { unit with address := 9, segment := segment, assigned := p, fresh := load, stable := load }

/-- The feeder of the worked example, one remaining fold before a pass trigger. -/
def example510 : State :=
  let tree : List Segment :=
    [⟨true, none, 4, 65535⟩, ⟨true, some 0, 2, 65535⟩, ⟨true, some 0, 2, 65535⟩] ++ List.replicate 13 Segment.unused
  let policy := { Policy.cold with threshold := 200, movesPerPass := 2, minimumLoad := 20 }
  { base with
    tables := { base.tables with
      active := tree
      shadow := tree
      consumers := [member 1 .l1 120, member 1 .l1 80, member 1 .l2 40, member 2 .l3 60, member 2 .l1 100,
        member 2 .l2 (-30)] ++ List.replicate 234 none }
    balancer.remaining := 0
    management := { base.management with active := policy, shadow := policy } }

/-- The pass in progress. -/
def passOf (s : State) : Option Pass :=
  match s.balancer.state with
  | .evaluating pass => some pass
  | _ => none

/-- The example after its pass start, its first search and its second. -/
def started : State := after .passTrigger example510
def searched : State := after .search started
def searchedTwice : State := after .search searched

theorem test_pass_start_sums :
    started.balancer.sums.take 3 = [⟨300, 10, 60⟩, ⟨200, 40, 0⟩, ⟨100, -30, 60⟩]
      ∧ (passOf started).map Pass.costBefore = some 1820 := by decide +kernel
theorem test_first_search_gains :
    (passOf started).map (fun p => p.trials.map fun m => (m.consumer, m.target, m.gain))
      = some [(0, .l2, 760), (0, .l3, 720), (1, .l2, 680), (1, .l3, 560), (2, .l1, -400), (2, .l3, -160),
        (3, .l1, -400), (3, .l2, 20), (4, .l2, 720), (4, .l3, 280), (5, .l1, 360), (5, .l3, 140)] := by decide +kernel
theorem test_searches_choose :
    (passOf searched).map (fun p => p.results.map fun m => (m.consumer, m.target, m.gain)) = some [(0, .l2, 760)]
      ∧ (passOf searchedTwice).map (fun p => (p.results.map fun m => (m.consumer, m.target, m.gain), p.searched,
        p.sums.take 3))
      = some ([(0, .l2, 760), (1, .l3, 320)], true, [⟨100, 130, 140⟩, ⟨0, 160, 80⟩, ⟨100, -30, 60⟩]) := by
  decide +kernel
theorem test_pass_completes :
    let t := after .passCompletion searchedTwice
    t.scheduler.schedule.map (fun e => (e.consumer, e.target, e.execute)) = [(0, .l2, 1025), (1, .l3, 1075)]
      ∧ t.balancer.sums.take 3 = [⟨100, 130, 140⟩, ⟨0, 160, 80⟩, ⟨100, -30, 60⟩]
      -- the PASS SUMMARY: cost before 1820, cost after 740, 2 chosen, 2 scheduled
      ∧ t.ports.up.transmitter = .busy .notice
        (goodFrame 255 240 0x58 0 [11, 0, 0x03, 0xE8, 0, 0, 0x07, 0x1C, 0, 0, 0x02, 0xE4, 2, 2]) := by decide +kernel

/-! ### Moves (chapter 6): the example of execute cycles, and the exchange -/

/-- The part at a cycle number with a latest execute cycle. -/
def dated (now : Word32) (latest : Option Word16) : State :=
  { base with timebase.cycleCount := now, scheduler.latestExecute := latest }

theorem test_execute_cycles :
    (dated 1000 none).executeCycle .balance = 1025 ∧ (dated 1000 (some 1025)).executeCycle .balance = 1075
      ∧ (dated 1010 (some 1075)).executeCycle .rescue = 1080 ∧ (dated 1100 none).executeCycle .manual = 1125 := by
  decide +kernel
theorem test_latest_expires :
    (after .latestExecuteCycleExpiry (dated 1080 (some 1080))).scheduler.latestExecute = none
      ∧ (after .latestExecuteCycleExpiry (dated 1079 (some 1080))).scheduler.latestExecute = some 1080 := by
  decide +kernel
theorem test_accept_is_taken :
    let t := after (.transferAnswer 1 7 1 0) (moving .sent)
    (t.record 0).map Consumer.state = some .accepted ∧ t.scheduler.schedule = [entry .accepted] := by decide +kernel
theorem test_refusal_teaches_the_wiring :
    let t := after (.transferAnswer 1 7 2 2) (moving .sent)
    (t.record 0).map (fun r => (r.state, r.allowed)) = some (.settled, ⟨true, false, true⟩)
      ∧ sumAt t.balancer.sums 0 .l1 = 100 := by decide +kernel
theorem test_report_ends_the_move :
    let t := after (.transferReport 1 7 1 0 2) (moving .accepted)
    (t.record 0).map (fun r => (r.state, r.assigned, r.moveCount, r.lastMove)) = some (.settled, .l2, 1, some 1000)
      ∧ t.scheduler.schedule = [] := by decide +kernel
theorem test_withdrawal_at_one_ahead :
    let s : State := { moving (.queued false) with timebase.cycleCount := 1024, timebase.sync := .unsynced }
    (after .withdrawal s).scheduler.schedule = []
      ∧ (after .withdrawal { s with timebase.cycleCount := 1023 }).scheduler.schedule.length = 1 := by decide +kernel
theorem test_reply_deadline :
    (after .replyDeadline { moving .sent with timebase.cycleCount := 1025 }).scheduler.schedule
      = [entry .unconfirmed] := by decide +kernel
theorem test_report_deadline_holds_to_the_target :
    ((after .reportDeadline { moving .accepted with timebase.cycleCount := 1050 }).record 0).map Consumer.assigned
      = some .l2 := by decide +kernel
theorem test_order_is_sent :
    let t := after .orderTransmissionEnd { moving (.queued true) with ports.down.transmitter := .busy .order startNoticeFrame }
    t.scheduler.schedule = [entry .sent] ∧ (t.record 0).bind Consumer.lastTag = some 7 := by decide +kernel

/-! ### Queries (chapter 7) -/

theorem test_answer_settles :
    ((after (.phaseAnswer 1 9 3 1) (asking (.asked 9 25))).record 0).map (fun r => (r.state, r.assigned))
      = some (.settled, .l3) := by decide +kernel
theorem test_answer_without_a_phase_faults :
    ((after (.phaseAnswer 1 9 0 1) (asking (.asked 9 25))).record 0).map Consumer.state
      = some (.faulted .openContact) := by decide +kernel
theorem test_last_try_makes_silent :
    ((after .queryDeadline (asking (.asked 9 0) 1)).record 0).map Consumer.state = some .silent := by decide +kernel

/-! ### Frame paths (chapter 9) -/

theorem test_foreign_order_is_blocked :
    let t := after (.foreignOrder 1 250 5 2 1100 2) base
    t.ports.counters.foreignOrders = 1
      ∧ t.ports.up.transmitter = .busy .notice (goodFrame 255 240 0x58 0 [12, 0, 0x03, 0xE8, 1, 0, 250, 5]) := by
  decide +kernel
theorem test_frame_passes_downstream :
    (after (.upstreamFrameArrival 1 255 0x31 4 [1]) base).ports.down.transmitter
      = .busy .forward (goodFrame 1 255 0x31 4 [1]) := by decide +kernel
theorem test_unaddressed_answer_passes_upstream :
    (after (.downstreamFrameArrival 255 1 0x31 4 [1, 0]) base).ports.up.transmitter
      = .busy .forward (goodFrame 255 1 0x31 4 [1, 0]) := by decide +kernel

/-! ### Management requests (chapter 10) -/

/-- The payload of the response that the upstream transmitter is sending. -/
def answer (s : State) : Option (List Byte) :=
  match s.ports.up.transmitter with
  | .busy .response f => some f.payload
  | _ => none

theorem test_read_status_of_a_bad_section : answer (after (.readStatus 255 1 [4]) base) = some [0x01, 2] := by
  decide +kernel
theorem test_read_sums :
    answer (after (.readSums 255 1 [0]) base)
      = some [0x09, 0, 0, 0, 0, 100, 0, 0, 0, 0, 0, 0, 0, 0, 0, 0, 0, 100, 0, 0, 0, 100] := by decide +kernel
theorem test_write_segment_breaks_the_tree_rule :
    answer (after (.writeSegment 255 1 [2, 1, 1, 1, 0, 0, 0, 9]) base) = some [0x05, 6] := by decide +kernel
theorem test_write_segment_is_clamped :
    let t := after (.writeSegment 255 1 [2, 1, 0, 16, 0, 1, 0, 0]) base
    answer t = some [0x05, 1] ∧ t.tables.shadow[2]? = some ⟨true, some 0, 15, 65535⟩
      ∧ t.tables.active[2]? = some Segment.unused := by decide +kernel
theorem test_write_policy_needs_40_bytes : answer (after (.writePolicy 255 1 [1]) base) = some [0x03, 3] := by
  decide +kernel
theorem test_write_consumer_finds_the_duplicate :
    answer (after (.writeConsumer 255 1 [3, 1, 0, 7, 1, 0, 0]) base) = some [0x07, 7] := by decide +kernel
theorem test_clear_consumer :
    let t := after (.clearConsumer 255 1 [0]) base
    answer t = some [0x08, 0] ∧ t.record 0 = none ∧ t.mapped 1 = none ∧ sumAt t.balancer.sums 0 .l1 = 0 := by
  decide +kernel
theorem test_set_lock : ((after (.setLock 255 1 [0, 1]) base).record 0).map Consumer.lock = some true := by
  decide +kernel
theorem test_manual_move :
    let t := after (.manualMove 255 1 [0, 3]) base
    answer t = some [0x0C, 0, 1, 0x04, 0x01] ∧ sumAt t.balancer.sums 0 .l3 = 100 := by decide +kernel
theorem test_cancel_moves : answer (after (.cancelMoves 255 1 []) { moving (.queued false) with
    ports.down.transmitter := .busy .forward startNoticeFrame }) = some [0x0D, 0, 1] := by decide +kernel
theorem test_hold_while_stopped :
    answer (after (.balancerControlHold 255 1) { base with balancer.state := .stopped }) = some [0x0E, 5] := by
  decide +kernel
theorem test_unknown_kind : answer (after (.unknownKind 255 1 0x11 []) base) = some [0x11, 9] := by decide +kernel
theorem test_restart_is_made_at_the_end_of_its_response :
    let t := after (.responseTransmissionEnd ⟨0, false, 0⟩) (after (.restart 255 1 []) base)
    t.management.startRecord = ⟨⟨false, false, false, true⟩, false⟩ ∧ t.timebase.cycleCount = 0 := by decide +kernel

/-! ### What the small states meet -/

/-- The only record of the base state. -/
theorem record_one {r x : Consumer} {i : Nat} (h : (base r).record i = some x) : i = 0 ∧ x = r := by
  cases i with
  | zero => exact ⟨rfl, (Option.some.inj h).symm⟩
  | succ n =>
    simp only [State.record, base, one, List.getElem?_cons_succ, List.getElem?_replicate] at h
    split at h <;> cases h

theorem cold_tree : TreeRule Segment.coldTable := by
  refine ⟨rfl, rfl, fun i hi => ?_⟩
  rw [show Config.segments = 16 from rfl] at hi
  interval_cases i <;> simp [segmentAt, Segment.coldTable, Segment.unused, Config.noLimit]

theorem cold_inRange : Policy.cold.InRange := by
  refine ⟨by decide, by decide, by decide⟩

theorem base_bounded (r : Consumer) : (base r).Bounded := by
  refine ⟨⟨?_, ?_, ?_, ?_, ?_⟩, ?_, cold_inRange, cold_inRange, ?_, fun n hn => ?_, ?_⟩
  · exact cold_tree.1
  · exact cold_tree.1
  · exact List.length_replicate
  · show (one r).length = 240
    rw [one, List.length_cons, List.length_replicate]
  · show List.length (none :: some 0 :: List.replicate 254 (none : Option Nat)) = 256
    rw [List.length_cons, List.length_cons, List.length_replicate]
  · rfl
  · refine ⟨?_, ?_, ?_, ?_, ?_, ?_, ?_⟩ <;> exact Nat.zero_le _
  · rw [List.eq_of_mem_replicate (show n ∈ List.replicate 12 0 from hn)]
    exact Nat.zero_le _
  · refine ⟨Nat.zero_le _, Nat.zero_le _, Nat.zero_le _, Nat.zero_le _, Nat.zero_le _, Nat.zero_le _, ?_, ?_,
      Nat.zero_le _, Nat.zero_le _, ?_⟩
    · exact (by decide : 1 ≤ 6)
    · exact (by decide : 6 ≤ Policy.cold.passDivider)
    · exact (by decide : (1 : Byte) ≠ 0)

theorem base_mapRight : base.MapRight := by
  refine ⟨fun i _ r h => ?_, fun a i h => ?_⟩
  · obtain ⟨rfl, rfl⟩ := record_one h
    exact ⟨by decide, by decide, rfl⟩
  · have ha : a.toNat = 1 ∧ i = 0 := by
      simp only [State.mapped, base] at h
      rcases hn : a.toNat with _ | _ | n
      · rw [hn] at h; cases h
      · rw [hn] at h; exact ⟨rfl, (Option.some.inj h).symm⟩
      · rw [hn] at h
        simp only [List.getElem?_cons_succ, List.getElem?_replicate] at h
        split at h <;> cases h
    obtain ⟨ha, rfl⟩ := ha
    exact ⟨by decide, unit, rfl, BitVec.eq_of_toNat_eq ha.symm⟩

theorem base_scheduleRight (r : Consumer) (h : r.state.moving = false) : (base r).ScheduleRight :=
  ⟨List.nodup_nil, nofun, fun i x hx hm => by
    obtain ⟨rfl, rfl⟩ := record_one hx
    rw [h] at hm; cases hm⟩

theorem moving_scheduleRight (stage : Stage) : (moving stage).ScheduleRight := by
  refine ⟨List.nodup_singleton 0, fun e he => ?_, fun i x hx _ => ?_⟩
  · obtain rfl := List.mem_singleton.mp he
    exact ⟨_, rfl, rfl, rfl⟩
  · obtain ⟨rfl, rfl⟩ := record_one (r := { unit with state := stage.recordState }) hx
    exact ⟨entry stage, List.mem_singleton.mpr rfl, rfl⟩

theorem base_sumsRight : base.SumsRight := by
  intro i hi p
  rw [show Config.segments = 16 from rfl] at hi
  interval_cases i <;> cases p <;> decide +kernel

theorem moving_sumsRight : (moving .sent).SumsRight := by
  intro i hi p
  rw [show Config.segments = 16 from rfl] at hi
  interval_cases i <;> cases p <;> decide +kernel

theorem base_queriesRight : base.QueriesRight := by
  refine ⟨List.nodup_nil, nofun, fun i r q h hq _ => ?_, nofun⟩
  obtain ⟨rfl, rfl⟩ := record_one h
  cases hq

theorem base_rescueRight : base.RescueRight := ⟨List.nodup_nil, nofun, by decide⟩

theorem base_recordsRight : base.RecordsRight := by
  intro i r h
  obtain ⟨rfl, rfl⟩ := record_one h
  refine ⟨by decide, by decide, by decide, by decide, by decide, by decide, ⟨by decide, by decide⟩,
    ⟨by decide, by decide⟩, by decide, by decide, nofun⟩

theorem base_targetsRight : base.TargetsRight := ⟨nofun, nofun⟩

theorem base_phasesRight : base.PhasesRight := by
  intro p
  cases p <;> exact ⟨⟨rfl, rfl⟩, by decide, by decide⟩

theorem base_timebaseRight : base.TimebaseRight := by
  refine ⟨by decide, by decide, by decide, by decide, by decide, by decide, fun _ => ⟨rfl, rfl, rfl, rfl⟩⟩

theorem base_takes (r : Consumer) : (base r).TakesRequests := ⟨rfl, rfl, rfl, Nat.zero_lt_succ 3⟩
/-! ### Witnesses: for each statement with hypotheses, a state and operands that meet them, clause by clause -/

/-- The part held in reset by its reset line. -/
def held : State := { base with hold := some ⟨false, false, true, false⟩ }

theorem witness_TimeRunsByTicks :
    (held.pending = [] ∧ held.hold ≠ none)
      ∧ (State.reset.pending = [] ∧ State.reset.hold = none ∧ State.reset.timebase.tickCounter + 1 < State.reset.lateLimit
        ∧ ∀ point, State.reset.timebase.nextSample = some point → State.reset.timebase.tickCounter + 1 < point)
      ∧ ((atTick 21248).pending = [] ∧ (atTick 21248).hold = none
        ∧ (atTick 21248).timebase.tickCounter + 1 < (atTick 21248).lateLimit
        ∧ ∀ point, (atTick 21248).timebase.nextSample = some point → (atTick 21248).timebase.tickCounter + 1 < point) := by
  refine ⟨by decide +kernel, ⟨rfl, rfl, by decide, fun point h => ?_⟩, rfl, rfl, by decide, fun point h => ?_⟩
  · have : State.reset.timebase.nextSample = some 625 := by decide +kernel
    cases this.symm.trans h
    decide
  · have : (atTick 21248).timebase.nextSample = none := by decide +kernel
    cases this.symm.trans h

theorem witness_HeldPartIsStopped :
    held.hold ≠ none ∧ Instr.search ≠ .resetLineLow ∧ (∀ b, Instr.search ≠ .supplyBelowThreshold b)
      ∧ ∀ straps, Instr.search ≠ .start straps := ⟨by decide, nofun, nofun, nofun⟩

theorem witness_StartTakesItsValues : held.hold = some ⟨false, false, true, false⟩ := rfl

theorem witness_StartLoadsOrKeepsTheTables :
    (∃ r : ResetSources, { held with hold := some r }.hold = some r ∧ r.powerOn = true)
      ∧ (∃ r : ResetSources, { held with hold := some r }.hold = some r ∧ r.powerOn = false ∧ r.supplyDip = true)
      ∧ held.hold = some ⟨false, false, true, false⟩ ∧ TreeRule held.tables.active
      -- the record that returns is the one query of the start, with tag 1
      ∧ (let t := after (.start ⟨0, false, 0⟩) held
        t.scheduler.queries = [⟨0, true⟩] ∧ t.scheduler.tagCounter = 2)
      ∧ (after (.start ⟨0, false, 0⟩) { held with hold := some ⟨true, false, false, false⟩ }).scheduler.queries = [] :=
  ⟨⟨⟨true, false, false, false⟩, rfl, rfl⟩, ⟨⟨false, true, true, false⟩, rfl, rfl, rfl⟩, rfl, cold_tree,
    by decide +kernel, by decide +kernel⟩

/-- The part sending a response, with its payload. -/
def responding (payload : List Byte) : State :=
  { base with ports.up.transmitter := .busy .response (goodFrame 255 240 0x51 1 payload) }

theorem witness_CommandedRestartIsAWarmStart :
    let s : State := { responding [0x10, 0] with management.restartPending := true }
    let f := goodFrame 255 240 0x51 1 [0x10, 0]
    s.hold = none ∧ s.ports.up.transmitter = .busy .response f ∧ s.management.restartPending = true
      ∧ f.payload.take 2 = [0x10, 0] := ⟨rfl, rfl, rfl, rfl⟩

theorem witness_MainsStrapSetsTheLimits :
    (held.hold ≠ none ∧ exec (.start ⟨0, true, 0⟩) held = .next (after (.start ⟨0, true, 0⟩) held))
      ∧ (∀ x, Instr.search ≠ .start x) ∧ (∀ x, Instr.search ≠ .responseTransmissionEnd x)
      ∧ exec .search base = .next (after .search base) := ⟨⟨by decide, rfl⟩, nofun, nofun, rfl⟩

theorem witness_EdgesAreJudged :
    (base.hold = none ∧ Phase.l1 = base.timebase.reference ∧ base.timebase.reanchorPending = false
        ∧ (atTick 18749).timebase.tickCounter < (atTick 18749).earlyLimit)
      ∧ Phase.l2 ≠ base.timebase.reference
      ∧ (atTick 18750).earlyLimit ≤ (atTick 18750).timebase.tickCounter
      ∧ State.reset.hold = none ∧ Phase.l1 = State.reset.timebase.reference
      ∧ State.reset.timebase.reanchorPending = true
      -- a re-anchor at the middle of the period and one just before it
      ∧ (atTick 10000).timebase.activePeriod / 2 ≤ (atTick 10000).timebase.tickCounter
      ∧ (atTick 9999).timebase.tickCounter < (atTick 9999).timebase.activePeriod / 2
      -- the filter of a LOST phase one sample short of turning, with crossings back at this cycle end
      ∧ (let w : PhaseWatch := ⟨.lost, true, 3, true, false, 0, 2⟩
        w.condition = .lost ∧ w.sagActive = true ∧ base.management.active.sagFilter ≤ w.filterRun + 1
          ∧ (base.watchAtCycleEnd w).present = true)
      ∧ (base.watch .l2).filterRun + 1 < base.management.active.sagFilter := by decide +kernel

theorem witness_SyntheticEndDatesTheCycle :
    (base.hold = none ∧ base.timebase.referenceRun = 0 ∧ base.timebase.sync = .synced)
      ∧ (State.reset.hold = none ∧ State.reset.timebase.sync = .unsynced)
      ∧ (∃ s : State, s.hold = none ∧ s.timebase.sync = .flywheel)
      ∧ (atTick 19375).timebase.nextSample = none :=
  ⟨⟨rfl, rfl, rfl⟩, ⟨rfl, rfl⟩, ⟨{ base with timebase.sync := .flywheel }, rfl, rfl⟩, by decide +kernel⟩

/-- The part at a failover, with some phases LOST. -/
def failing (l2 l3 : Condition) : State :=
  { base with
    timebase.referenceRun := 2
    supervision.phases.l2.condition := l2
    supervision.phases.l3.condition := l3 }

theorem witness_CountsThatComeDue :
    ((failing .healthy .lost).hold = none ∧ (failing .healthy .lost).timebase.reference.next ≠ .l3
        ∧ (failing .healthy .lost).timebase.reference ≠ .l3 ∧ 2 ≤ (failing .healthy .lost).timebase.referenceRun
        ∧ (failing .healthy .lost).isLost (failing .healthy .lost).timebase.reference.next = false)
      ∧ ((failing .lost .healthy).isLost (failing .lost .healthy).timebase.reference.next = true
        ∧ (failing .lost .healthy).isLost .l3 = false)
      ∧ ((failing .lost .lost).isLost (failing .lost .lost).timebase.reference.next = true
        ∧ (failing .lost .lost).isLost .l3 = true)
      ∧ base.timebase.referenceRun < 2 := by decide +kernel

theorem witness_CycleCountChangesAtCycleEndsOnly :
    (∀ l n g, Instr.search ≠ .zeroCrossingEdge l n g) ∧ Instr.search ≠ .syntheticCycleEnd
      ∧ (∀ x, Instr.search ≠ .start x) ∧ (∀ x, Instr.search ≠ .responseTransmissionEnd x)
      ∧ exec .search base = .next (after .search base) := ⟨nofun, nofun, nofun, nofun, rfl⟩

theorem witness_SagSampleFilters :
    State.reset.hold = none ∧ State.reset.timebase.nextSample = some 625
      ∧ (atTick 19374).hold = none ∧ (atTick 19374).timebase.nextSample = some 19375 := by decide +kernel

/-- The part with what it keeps of L1 given. -/
def watching (w : PhaseWatch) : State := { base with supervision.phases.l1 := w }

theorem witness_ConditionMachine :
    let filtered := watching ⟨.healthy, false, 4, false, true, 0, 3⟩
    let absent := watching ⟨.healthy, false, 0, false, true, 3, 0⟩
    let back := watching ⟨.lost, false, 0, false, false, 0, 3⟩
    let sagging := watching ⟨.sag 10, true, 0, false, true, 0, 3⟩
    let recovering := watching ⟨.recovering 3000, false, 0, false, true, 0, 3⟩
    (filtered.hold = none ∧ filtered.management.active.sagFilter ≤ (filtered.watch .l1).filterRun)
      ∧ (absent.hold = none ∧ (absent.watch .l1).present = true ∧ (absent.watch .l1).absenceRun = 3)
      ∧ (back.hold = none ∧ (back.watch .l1).present = false ∧ (back.watch .l1).presenceRun = 3)
      ∧ (sagging.hold = none ∧ (sagging.watch .l1).condition = .sag 10 ∧ sagging.management.active.sagDelay ≤ 10)
      ∧ recovering.hold = none ∧ (recovering.watch .l1).condition = .recovering 3000
      ∧ recovering.management.active.recoveryHold ≤ 3000 ∧ (recovering.watch .l1).present = true
      ∧ (recovering.watch .l1).sagActive = false := by decide +kernel

theorem witness_LossListsAndRecoveryUnlists :
    let sagging := watching ⟨.sag 10, true, 0, false, true, 0, 3⟩
    let back := watching ⟨.lost, false, 0, false, false, 0, 3⟩
    (sagging.hold = none ∧ (sagging.watch .l1).condition = .sag 10 ∧ sagging.management.active.sagDelay ≤ 10
        ∧ sagging.management.active.rescueEnable = true)
      ∧ back.hold = none ∧ (back.watch .l1).condition = .lost ∧ (back.watch .l1).present = false
      ∧ (back.watch .l1).presenceRun = 3 ∧ (back.watch .l1).sagActive = false := by decide +kernel

/-- A record that waits in the rescue list on the lost L1, with its allowed set. -/
def waiting (allowed : PhaseSet) : State :=
  { base { unit with allowed := allowed, rescue := some ⟨0, .l1⟩ } with
    supervision.phases.l1.condition := .lost
    rescue := ⟨some ⟨⟨true, false, false⟩, ⟨true, false, false⟩⟩, 0, 0, 0, [0]⟩ }

theorem witness_DrawTakesTheLowestSum :
    (∃ r, (waiting ⟨true, false, false⟩).record 0 = some r ∧ (waiting ⟨true, false, false⟩).isLost r.assigned = true
        ∧ ∀ q, r.allowed.get q = true → (waiting ⟨true, false, false⟩).healthy q = false)
      ∧ ∃ r, (waiting ⟨true, true, true⟩).record 0 = some r ∧ (waiting ⟨true, true, true⟩).isLost r.assigned = true
        ∧ (segmentAt (waiting ⟨true, true, true⟩).tables.active r.segment).valid = true
        ∧ r.allowed.get .l2 = true ∧ (waiting ⟨true, true, true⟩).healthy .l2 = true
        ∧ ∀ x, r.allowed.get x = true → (waiting ⟨true, true, true⟩).healthy x = true →
          sumAt (waiting ⟨true, true, true⟩).balancer.sums r.segment .l2
              ≤ sumAt (waiting ⟨true, true, true⟩).balancer.sums r.segment x
            ∧ (sumAt (waiting ⟨true, true, true⟩).balancer.sums r.segment .l2
                = sumAt (waiting ⟨true, true, true⟩).balancer.sums r.segment x →
              (phaseCode .l2).toNat ≤ (phaseCode x).toNat) := by
  refine ⟨⟨_, rfl, rfl, fun q => ?_⟩, _, rfl, rfl, rfl, rfl, rfl, fun x => ?_⟩
  · cases q <;> decide +kernel
  · cases x <;> decide +kernel

theorem witness_ReadingTaken :
    base.hold = none ∧ (255 : Byte) ≠ base.ownAddress ∧ base.mapped 1 = some 0 ∧ base.record 0 = some unit
      ∧ unit.state ≠ .silent := ⟨rfl, by decide +kernel, rfl, rfl, nofun⟩

/-- The record SILENT. -/
def silent : Consumer := { unit with state := .silent }

/-- The SILENT record on a lost L1, with the loss event still open for another record. -/
def silentInLoss : State :=
  { base silent with
    supervision.phases.l1.condition := .lost
    rescue := ⟨some ⟨⟨true, false, false⟩, ⟨true, false, false⟩⟩, 0, 0, 0, [5]⟩ }

theorem witness_SilentUnitReturns :
    (base silent).hold = none ∧ (255 : Byte) ≠ (base silent).ownAddress ∧ (base silent).mapped 1 = some 0
      ∧ (base silent).record 0 = some silent ∧ silent.state = .silent ∧ (base silent).Bounded
      ∧ TreeRule (base silent).tables.active ∧ silent.segment < 16
      ∧ (base silent).management.active.mask.getLsbD 6 = true ∧ (base silent).ports.notices.length < 16
      ∧ (base silent).rescue.event = none
      ∧ silentInLoss.hold = none ∧ silentInLoss.mapped 1 = some 0 ∧ silentInLoss.record 0 = some silent
      ∧ silentInLoss.Bounded ∧ TreeRule silentInLoss.tables.active
      ∧ silentInLoss.rescue.event = some ⟨⟨true, false, false⟩, ⟨true, false, false⟩⟩
      ∧ silentInLoss.management.active.rescueEnable = true ∧ silent.lock = false
      ∧ silentInLoss.isLost silent.assigned = true ∧ 0 ∉ silentInLoss.rescue.list ∧ silent.rescue = none := by
  have h : silentInLoss.Bounded := by
    obtain ⟨h1, h2, h3, h4, h5, hc, hl, hu, hd, -, -, -, hr⟩ := base_bounded silent
    exact ⟨h1, h2, h3, h4, h5, hc, hl, hu, hd, Nat.zero_le _, Nat.zero_le _, Nat.zero_le _, hr⟩
  exact ⟨rfl, by decide +kernel, rfl, rfl, rfl, base_bounded _, cold_tree, by decide, by decide, by decide, rfl, rfl,
    rfl, rfl, h, cold_tree, rfl, rfl, rfl, rfl, by decide, rfl⟩

/-- The part with Measurement Intake given. -/
def intaking (i : Intake) : State := { base with intake := i }

theorem witness_WindowCloseAndFoldCompletion :
    ((intaking ⟨false, 50, .idle⟩).intake.fold = .idle
        ∧ (intaking ⟨false, 50, .idle⟩).management.active.window ≤ (intaking ⟨false, 50, .idle⟩).intake.windowCounter)
      ∧ (intaking ⟨false, 49, .idle⟩).intake.windowCounter < (intaking ⟨false, 49, .idle⟩).management.active.window
      ∧ (intaking ⟨true, 0, .folding 239 2 6⟩).intake.fold ≠ .idle
      ∧ (intaking ⟨true, 0, .folding 239 2 6⟩).intake.fold = .folding 239 2 6
      ∧ (intaking ⟨true, 0, .folding 239 2 6⟩).record 239 = none
      ∧ ({ intaking ⟨true, 49, .folding 240 2 6⟩ with balancer.remaining := 1 } : State).balancer.remaining = 1
      ∧ (intaking ⟨true, 49, .folding 240 2 6⟩).intake.windowCounter
        < (intaking ⟨true, 49, .folding 240 2 6⟩).management.shadow.window
      ∧ (intaking ⟨true, 50, .folding 240 2 6⟩).management.shadow.window
        ≤ (intaking ⟨true, 50, .folding 240 2 6⟩).intake.windowCounter
      ∧ (intaking ⟨true, 0, .folding 240 2 6⟩).intake.fold = .folding 240 2 6
      ∧ 2 ≤ ({ intaking ⟨true, 0, .folding 240 2 6⟩ with balancer.remaining := 2 } : State).balancer.remaining
      ∧ (intaking ⟨true, 0, .folding 240 2 6⟩).intake.windowCounter
        < (intaking ⟨true, 0, .folding 240 2 6⟩).management.active.window
      ∧ (intaking ⟨true, 50, .folding 240 2 6⟩).management.active.window
        ≤ (intaking ⟨true, 50, .folding 240 2 6⟩).intake.windowCounter := by decide +kernel

theorem witness_FoldOfOneRecord :
    let s (i : Nat) (r : Consumer) : State := { base r with intake := ⟨true, 0, .folding i 2 6⟩ }
    ((s 239 unit).hold = none ∧ (s 239 unit).intake.fold = .folding 239 2 6 ∧ (s 239 unit).record 239 = none)
      ∧ (∃ t : State, t.hold = none ∧ t.intake.fold = .folding 239 2 6 ∧ t.record 239 = some unit)
      ∧ (s 0 unit).record 0 = some unit ∧ (s 0 unit).intake.secondOpen = true
      -- a seeding fold and a smoothing one, of one sample
      ∧ (∃ r, (s 0 r).record 0 = some r ∧ 0 < r.firstBank.count ∧ r.seeded = false)
      ∧ (∃ r, (s 0 r).record 0 = some r ∧ 0 < r.firstBank.count ∧ r.seeded = true)
      -- heard without samples; unheard and not yet at the limit; unheard at it
      ∧ (∃ r, (s 0 r).record 0 = some r ∧ r.firstBank.count = 0 ∧ r.firstBank.heard = true)
      ∧ (∃ r, (s 0 r).record 0 = some r ∧ r.firstBank.count = 0 ∧ r.firstBank.heard = false
        ∧ raise 255 r.silence < 6)
      ∧ (∃ r, (s 0 r).record 0 = some r ∧ r.firstBank.count = 0 ∧ r.firstBank.heard = false
        ∧ 6 ≤ raise 255 r.silence ∧ r.state = .settled) :=
  ⟨by decide +kernel,
    ⟨{ intaking ⟨true, 0, .folding 239 2 6⟩ with tables.consumers := List.replicate 239 none ++ [some unit] }, rfl, rfl,
      by decide +kernel⟩,
    rfl, rfl, ⟨{ unit with firstBank := ⟨5, 1, true⟩, seeded := false }, rfl, by decide, rfl⟩,
    ⟨{ unit with firstBank := ⟨5, 1, true⟩ }, rfl, by decide, rfl⟩,
    ⟨{ unit with firstBank := ⟨0, 0, true⟩ }, rfl, rfl, rfl⟩,
    ⟨{ unit with silence := 4 }, rfl, rfl, rfl, by decide⟩, ⟨{ unit with silence := 5 }, rfl, rfl, rfl, by decide, rfl⟩⟩

theorem witness_PassTriggerStartsAPass :
    let s : State := { base with balancer.remaining := 0 }
    s.hold = none ∧ s.balancer.remaining = 0 ∧ s.balancer.state = .idle ∧ s.rescueActive = false
      ∧ s.timebase.sync = .synced ∧ TreeRule s.tables.shadow := ⟨rfl, rfl, rfl, rfl, rfl, cold_tree⟩

theorem witness_PassTriggerCounts :
    let unsynced : State := { base with balancer.remaining := 0, timebase.sync := .unsynced }
    let stopped : State := { base with balancer.remaining := 0, balancer.state := .stopped }
    let written : State := { unsynced with tables.active := ⟨true, none, 2, 65535⟩ :: List.replicate 15 Segment.unused }
    (base.hold = none ∧ base.balancer.remaining ≠ 0)
      ∧ (unsynced.balancer.remaining = 0
        ∧ (unsynced.balancer.state = .idle → unsynced.timebase.sync ≠ .synced
          ∨ unsynced.rescueActive = true ∧ unsynced.management.shadow.rescueEnable = true)
        ∧ unsynced.tables.shadow = unsynced.tables.active)
      ∧ (stopped.balancer.remaining = 0 ∧ stopped.balancer.state ≠ .idle)
      ∧ written.tables.shadow ≠ written.tables.active ∧ TreeRule written.tables.shadow :=
  ⟨by decide +kernel, ⟨rfl, fun _ => .inl nofun, rfl⟩, ⟨rfl, nofun⟩, by decide +kernel, cold_tree⟩

/-- A pass with two candidates of load 100 on L1, at a threshold that the best trial just reaches. -/
def pass : Pass where
  sums := ⟨200, 0, 0⟩ :: List.replicate 15 ⟨0, 0, 0⟩
  segments := Segment.coldTable
  policy := ⟨100, 1, 20, 4, 0⟩
  candidates := [⟨0, 0, .l1, 100, ⟨false, true, true⟩⟩, ⟨1, 0, .l1, 100, ⟨false, true, true⟩⟩]
  results := []
  costBefore := 200
  searched := false

/-- The part with a pass in progress. -/
def passing (p : Pass) : State := { base with balancer.state := .evaluating p }

theorem witness_TrialsInOrder : (pass.candidates.map Candidate.consumer).Pairwise (· < ·) := by decide

theorem witness_SearchChooses :
    ((passing pass).hold = none ∧ (passing pass).balancer.state = .evaluating pass ∧ pass.searched = false)
      ∧ (∀ p, base.balancer.state ≠ .evaluating p)
      ∧ { pass with searched := true }.searched = true
      ∧ (∀ m ∈ Pass.trials { pass with policy.threshold := 101 }, m.gain < 101)
      -- the first of four equal gains
      ∧ (pass.trials = [] ++ ⟨0, .l1, .l2, 0, 100⟩ :: [⟨0, .l1, .l3, 0, 100⟩, ⟨1, .l1, .l2, 0, 100⟩, ⟨1, .l1, .l3, 0, 100⟩]
        ∧ pass.policy.threshold ≤ 100 ∧ ⟨0, 0, .l1, 100, ⟨false, true, true⟩⟩ ∈ pass.candidates
        ∧ (pass.candidates.map Candidate.consumer).Nodup ∧ TreeRule pass.segments ∧ pass.sums.length = 16) :=
  ⟨⟨rfl, rfl, rfl⟩, nofun, rfl, by decide +kernel, by decide +kernel, by decide, by decide, by decide, cold_tree, by decide⟩

theorem witness_GainIsTheFallOfCost :
    TreeRule pass.segments ∧ pass.sums.length = 16 ∧ (segmentAt pass.segments 0).valid = true
      ∧ trialGain pass ⟨0, 0, .l1, 100, ⟨false, true, true⟩⟩ .l2 = some 100 := 
  ⟨cold_tree, by decide, by decide, by decide +kernel⟩

theorem witness_PassCompletionSchedules :
    let m : ChosenMove := ⟨0, .l1, .l2, 0, 100⟩
    let s : State := { passing { pass with searched := true, results := [m] } with ports.counters.staleMoves := 65534 }
    (∀ p, (passing pass).balancer.state = .evaluating p → p.searched = false)
      ∧ s.hold = none ∧ s.balancer.state = .evaluating { pass with searched := true, results := [m] }
      ∧ s.ports.counters.staleMoves + [m].length ≤ 65535 ∧ s.management.active.mask.getLsbD 10 = true
      ∧ s.ports.notices.length < 16 ∧ s.rescue.list = []
      -- of two results the first is kept, and the second, of the same record, no longer
      ∧ s.keepsMove m = true ∧ (makeEntry .balance 0 .l2 s).keepsMove { m with target := .l3 } = false :=
  ⟨fun p h => by cases h; rfl, rfl, rfl, by decide, by decide, by decide, rfl, by decide +kernel, by decide +kernel⟩

theorem witness_RebuildGivesTheSubtreeSums :
    TreeRule base.tables.active ∧ (segmentAt base.tables.active 1).valid = false := ⟨cold_tree, rfl⟩

theorem witness_MakingAnEntry :
    let s : State := { base with scheduler.latestExecute := some 3040 }
    (base.scheduler.latestExecute = none ∧ base.management.active.InRange)
      ∧ (s.scheduler.latestExecute = some 3040 ∧ ahead 3040 s.now = true ∧ aheadBy 3040 s.now ≤ 2040
        ∧ s.management.active.InRange)
      ∧ base.record 0 = some unit ∧ unit.state = .settled ∧ base.ScheduleRight ∧ base.SumsRight
      ∧ TreeRule base.tables.active ∧ base.balancer.sums.length = 16 :=
  ⟨⟨rfl, cold_inRange⟩, ⟨rfl, by decide +kernel, by decide +kernel, cold_inRange⟩, rfl, rfl,
    base_scheduleRight _ rfl, base_sumsRight, cold_tree, rfl⟩

theorem witness_TagsComeRound :
    (moving .sent).matchedEntry 0 7 = some (entry .sent) ∧ (1 : Byte) ≠ 0 ∧ (255 : Byte) ≠ 0 := by decide +kernel

theorem witness_ManualMoveAndCancel :
    base.TakesRequests ∧ 240 ≤ (240 : Byte).toNat
      ∧ ((239 : Byte).toNat < 240 ∧ base.record (239 : Byte).toNat = none)
      ∧ (∃ r, (asking .waiting).TakesRequests ∧ (asking .waiting).record 0 = some r ∧ r.state ≠ .settled)
      ∧ (base.record 0 = some unit ∧ unit.state = .settled)
      -- target codes 0, 1 (the assigned phase) and 4 name no phase that the record can be moved to
      ∧ (∀ t ∈ ([0, 1, 4] : List Byte), ∀ q, phaseCode q = t →
        q = unit.assigned ∨ unit.allowed.get q = false ∨ base.healthy q = false)
      ∧ (phaseCode .l2 = 2 ∧ Phase.l2 ≠ unit.assigned ∧ unit.allowed.get .l2 = true ∧ base.healthy .l2 = true)
      ∧ (base.timebase.sync = .synced ∧ base.scheduler.schedule.length < 8
        ∧ aheadBy (base.executeCycle .manual) base.now ≤ 2040)
      ∧ (∃ s : State, s.TakesRequests ∧ s.record 0 = some unit ∧ s.timebase.sync ≠ .synced)
      ∧ (∃ s : State, s.TakesRequests ∧ s.record 0 = some unit ∧ s.timebase.sync = .synced
        ∧ 2040 < aheadBy (s.executeCycle .manual) s.now)
      ∧ ((List.replicate 47 (0 : Byte)).length ≠ 2 ∧ (List.replicate 47 (0 : Byte)).length < 48
        ∧ List.replicate 47 (0 : Byte) ≠ [])
      ∧ ((moving (.queued false)).TakesRequests ∧ (moving (.queued false)).ScheduleRight
        ∧ TreeRule (moving (.queued false)).tables.active ∧ (moving (.queued false)).rescue.event = none) := by
  refine ⟨base_takes _, by decide, by decide +kernel, ⟨_, base_takes { unit with state := .querying ⟨.waiting, 3⟩ }, rfl, nofun⟩, ⟨rfl, rfl⟩, fun t ht q h => ?_,
    by decide +kernel, by decide +kernel, ⟨{ base with timebase.sync := .unsynced }, base_takes unit, rfl, nofun⟩,
    ⟨{ base with scheduler.latestExecute := some 2991 }, base_takes unit, rfl, rfl, by decide +kernel⟩, by decide,
    base_takes { unit with state := .ordered }, moving_scheduleRight _, cold_tree, rfl⟩
  fin_cases ht <;> cases q <;> first | exact .inl rfl | (revert h; decide)

theorem witness_EntriesEndAtTheirCycles :
    (moving (.queued false)).hold = none ∧ (moving (.queued false)).ScheduleRight ∧ (moving .sent).SumsRight
      ∧ TreeRule (moving .sent).tables.active ∧ (moving .sent).balancer.sums.length = 16
      -- withdrawn at 1 ahead, a reply deadline at the execute cycle, a report deadline at the deadline
      ∧ tooNear 1025 1024 = true ∧ tooNear 1025 1023 = false ∧ (entry .sent).execute = 1025
      ∧ (entry .accepted).deadline = 1050 :=
  ⟨rfl, moving_scheduleRight _, moving_sumsRight, cold_tree, rfl, by decide, by decide, rfl, rfl⟩

theorem witness_AnswerTaken :
    (moving .sent).hold = none ∧ (moving .sent).ScheduleRight ∧ (moving .sent).mapped 1 = some 0
      ∧ entry .sent ∈ (moving .sent).scheduler.schedule ∧ (entry .sent).consumer = 0 ∧ (entry .sent).tag = 7
      ∧ (moving .sent).record 0 = some { unit with state := .ordered } ∧ (entry .sent).target ≠ (entry .sent).fromPhase
      ∧ 1 ≤ (4 : Byte).toNat ∧ (4 : Byte).toNat ≤ 4 ∧ (moving .sent).rescue.event = none
      ∧ (moving .sent).ports.notices.length ≤ 14 ∧ (moving .sent).SumsRight
      ∧ entry .unconfirmed ∈ (moving .unconfirmed).scheduler.schedule ∧ (moving .unconfirmed).ScheduleRight :=
  ⟨rfl, moving_scheduleRight _, rfl, List.mem_singleton.mpr rfl, rfl, rfl, rfl, nofun, by decide, by decide, rfl,
    by decide, moving_sumsRight, List.mem_singleton.mpr rfl, moving_scheduleRight _⟩

theorem witness_ReportTaken :
    ((moving .accepted).hold = none ∧ (moving .accepted).ScheduleRight ∧ (moving .accepted).mapped 1 = some 0
        ∧ (moving .accepted).record 0 = some { unit with state := .accepted }
        ∧ entry .accepted ∈ (moving .accepted).scheduler.schedule ∧ (moving .accepted).rescue.event = none
        ∧ (moving .accepted).ports.notices.length < 16)
      ∧ ((2 : Byte) = 2 ∧ 1 ≤ (4 : Byte).toNat ∧ (4 : Byte).toNat ≤ 4) ∧ phaseCode .l1 = 1 ∧ phaseCode .l3 = 3
      ∧ ∃ s : State, s.hold = none ∧ s.ScheduleRight ∧ s.mapped 1 = some 0
        ∧ s.record 0 = some { unit with state := .querying ⟨.waiting, 3⟩, lastTag := some 7 }
        ∧ (∀ e ∈ s.scheduler.schedule, e.consumer = 0 → e.tag ≠ 7) :=
  ⟨⟨rfl, moving_scheduleRight _, rfl, rfl, List.mem_singleton.mpr rfl, rfl, by decide⟩, by decide, rfl, rfl,
    base { unit with state := .querying ⟨.waiting, 3⟩, lastTag := some 7 }, rfl, base_scheduleRight _ rfl, rfl, rfl, nofun⟩

theorem witness_StaleFrames :
    base.hold = none ∧ base.mapped 2 = none ∧ (0 : Byte) ≠ 1 ∧ 3 < (4 : Byte).toNat ∧ 1 < (2 : Byte).toNat
      ∧ base.mapped 1 = some 0 ∧ (moving .accepted).ScheduleRight
      ∧ (∀ e ∈ (moving .accepted).scheduler.schedule, e.consumer = 0 → e.tag = 7 → e.stage = .accepted)
      ∧ (∀ e ∈ (moving (.queued true)).scheduler.schedule, e.consumer = 0 → e.tag = 7 → ∃ b, e.stage = .queued b)
      ∧ (∀ e ∈ base.scheduler.schedule, e.consumer = 0 → e.tag ≠ 7)
      ∧ (∀ r q, base.record 0 = some r → r.state = .querying q → r.lastTag ≠ some 7)
      ∧ (∀ r q left, base.record 0 = some r → r.state.query = some q → q.stage ≠ .asked 7 left) := by
  refine ⟨rfl, rfl, by decide, by decide, by decide, rfl, moving_scheduleRight _, fun e he _ _ => ?_, fun e he _ _ => ?_,
    nofun, fun r q h hq => ?_, fun r q left h hq => ?_⟩
  · rw [List.mem_singleton.mp he]; rfl
  · rw [List.mem_singleton.mp he]; exact ⟨true, rfl⟩
  · cases h; cases hq
  · cases h; cases hq

/-- The part with its downstream transmitter sending a frame of some source. -/
def sending (source : Source) (s : State) : State := { s with ports.down.transmitter := .busy source startNoticeFrame }

/-- The part sending a notice, with four responses, some forwarded frames, and a request that waits for room. -/
def requestWaits (forward : List Frame) : State :=
  { base with
    ports.up.transmitter := .busy .notice startNoticeFrame
    ports.up.forward := forward
    ports.responses := List.replicate 4 (goodFrame 255 240 0x51 1 [1, 0])
    management.requests := [⟨255, 2, [0x0D]⟩] }

theorem witness_TransmissionsEnd :
    ((sending .order (moving (.queued true))).hold = none
        ∧ (sending .order (moving (.queued true))).ports.down.transmitter = .busy .order startNoticeFrame
        ∧ (moving (.queued true)).ScheduleRight
        ∧ ((moving (.queued true)).scheduler.schedule.filter fun x => x.stage == .queued true) = [entry (.queued true)]
        ∧ (moving (.queued true)).record 0 = some { unit with state := .ordered })
      ∧ (∃ s : State, s.hold = none ∧ s.ports.down.transmitter = .busy .query startNoticeFrame
        ∧ s.scheduler.queries = [⟨0, true⟩] ∧ s.record 0 = some { unit with state := .querying ⟨.queued, 3⟩ })
      ∧ (∀ e, (sending .query base).scheduler.queries.head? = some e → e.inTransmission = false)
      ∧ (sending .mark base).ports.down.transmitter = .busy .mark startNoticeFrame
      ∧ State.reset.ports.up.transmitter = .busy .notice startNoticeFrame ∧ State.reset.management.requests = []
      ∧ ((responding [1, 0]).ports.up.transmitter = .busy .response (goodFrame 255 240 0x51 1 [1, 0])
        ∧ (responding [1, 0]).management.restartPending = false ∧ (responding [1, 0]).management.requests = [])
      -- a notice ends while a request waits, with and without room for its response after the grant
      ∧ (∃ s : State, s.ports.up.transmitter = .busy .notice startNoticeFrame
        ∧ s.management.requests = [⟨255, 2, [0x0D]⟩] ∧ s.management.restartPending = false
        ∧ (finish { s with ports.up.transmitter := .idle }).ports.responses.length = 3)
      ∧ (∃ s : State, s.ports.up.transmitter = .busy .notice startNoticeFrame
        ∧ s.management.requests = [⟨255, 2, [0x0D]⟩]
        ∧ (finish { s with ports.up.transmitter := .idle }).ports.responses.length = 4)
      ∧ base.ports.down.transmitter = .idle ∧ base.ports.up.transmitter = .idle :=
  ⟨⟨rfl, rfl, moving_scheduleRight _, by decide +kernel, rfl⟩,
    ⟨{ sending .query (asking .queued) with scheduler.queries := [⟨0, true⟩] }, rfl, rfl, rfl, rfl⟩, nofun, rfl, rfl,
    rfl, ⟨rfl, rfl, rfl⟩, ⟨requestWaits [], rfl, rfl, rfl, by decide +kernel⟩,
    ⟨{ requestWaits [startNoticeFrame] with ports.up.burst := 4 }, rfl, rfl, by decide +kernel⟩, rfl, rfl⟩

theorem witness_QueriesEnd :
    ((asking (.asked 9 1)).hold = none ∧ (asking (.asked 9 1)).mapped 1 = some 0
        ∧ (asking (.asked 9 1)).record 0 = some { unit with state := .querying ⟨.asked 9 1, 3⟩ } ∧ (1 : Byte).toNat ≤ 1
        ∧ (asking (.asked 9 1)).rescue.event = none ∧ (asking (.asked 9 1)).rescue.list = [])
      ∧ (RecordState.querying ⟨.asked 9 0, 2⟩).query = some ⟨.asked 9 0, 2⟩
      ∧ (∀ tag tries, unit.state.query ≠ some ⟨.asked tag 0, tries⟩) :=
  ⟨⟨rfl, rfl, rfl, by decide, rfl, rfl⟩, rfl, nofun⟩

theorem witness_CycleEndRunsTheExchanges :
    (∃ s : State, s.hold = none ∧ s.ScheduleRight ∧ Phase.l1 = s.timebase.reference
        ∧ s.timebase.reanchorPending = false ∧ s.earlyLimit ≤ s.timebase.tickCounter ∧ s.scheduler.schedule = [entry .sent])
      ∧ (∃ s : State, s.hold = none ∧ s.ScheduleRight ∧ s.timebase.nextSample = none ∧ s.scheduler.schedule = [entry .sent])
      ∧ (RecordState.querying ⟨.asked 9 2, 2⟩).query = some ⟨.asked 9 2, 2⟩ :=
  ⟨⟨{ moving .sent with timebase.tickCounter := 18750 }, rfl, moving_scheduleRight _, rfl, rfl, by decide +kernel, rfl⟩,
    ⟨{ moving .sent with timebase.tickCounter := 19375 }, rfl, moving_scheduleRight _, by decide +kernel, rfl⟩, rfl⟩

theorem witness_ReceiverTakesFrames :
    (goodFrame 3 4 5 6 (List.replicate 48 0)).payload.length ≤ 48 ∧ 48 < (49 : Byte).toNat := by decide +kernel

/-- The part with part of a frame collected at both receivers. -/
def receiving (collected : List Byte) : State :=
  { base with ports.up.receiver := .receiving collected, ports.down.receiver := .receiving collected }

theorem witness_CharactersAndDrops :
    let f := goodFrame 3 4 5 6 []
    let s := receiving ((frameBytes f).take 7)
    (receive s.ports.up.receiver ((frameBytes f).getLast?.getD 0) false = (.hunting, .arrived f)
        ∧ f = goodFrame f.dest f.src f.kind f.tag f.payload)
      ∧ receive s.ports.down.receiver 0 true = (.hunting, .dropped)
      ∧ receive State.reset.ports.up.receiver 0xA5 false = (.receiving [0xA5], .nothing)
      ∧ s.hold = none ∧ s.ports.up.receiver ≠ .hunting ∧ s.ports.down.receiver ≠ .hunting
      ∧ base.ports.up.receiver = .hunting ∧ base.ports.down.receiver = .hunting := by decide +kernel

theorem witness_FramesFromUpstream :
    base.hold = none ∧ (List.replicate 48 (0 : Byte)).length ≤ 48 ∧ (240 : Byte) = base.ownAddress
      ∧ List.replicate 48 (0 : Byte) ≠ [] ∧ (1 : Byte) ≠ base.ownAddress ∧ base.mapped 1 = some 0 ∧ base.mapped 2 = none := by
  decide +kernel

theorem witness_FramesFromDownstream :
    base.hold = none ∧ (240 : Byte) = base.ownAddress ∧ ([1, 2] : List Byte).length ≠ 3
      ∧ be2 (7 : Word16).toNat ++ [1, 10] = ([0, 7, 1, 10] : List Byte) ∧ (255 : Byte) ≠ base.ownAddress
      ∧ base.mapped 2 = none ∧ ([0, 7, 2, 10] : List Byte)[2]? = some 2 ∧ 1 < (2 : Byte).toNat := by decide +kernel

theorem witness_GrantsFollowRank :
    let f := goodFrame 3 4 0x20 6 []
    let m := moving (.queued false)
    let late : State := { m with timebase.cycleCount := 1024 }
    let busy : State := { m with ports.down.forward := [f], ports.down.burst := 4 }
    let q : State := { asking .queued with scheduler.queries := [⟨0, false⟩] }
    let up : State := { base with ports.up.forward := [f], ports.responses := [f], ports.notices := [⟨1, 0, 0, []⟩] }
    -- a mark; a full burst; an order at the last cycle it may start; a query; the forward queue alone
    (base.ports.down.transmitter = .idle ∧ ({ base with timebase.markWaiting := true } : State).timebase.markWaiting = true)
      ∧ (busy.timebase.markWaiting = false ∧ 2 ^ busy.management.active.burstLimit ≤ busy.ports.down.burst
        ∧ busy.ports.down.forward = f :: [])
      ∧ (m.timebase.sync = .synced ∧ m.ScheduleRight ∧ m.scheduler.schedule = [] ++ entry (.queued false) :: []
        ∧ m.record 0 = some { unit with state := .ordered } ∧ tooNear 1025 1023 = false)
      ∧ (q.scheduler.queries = ⟨0, false⟩ :: [] ∧ q.record 0 = some { unit with state := .querying ⟨.queued, 3⟩ }
        ∧ ¬ ∃ e ∈ q.scheduler.schedule, e.stage = .queued false)
      ∧ (up.ports.up.transmitter = .idle ∧ up.ports.responses = f :: []
        ∧ ¬ 2 ^ up.management.active.burstLimit ≤ up.ports.up.burst)
      ∧ ({ up with ports.responses := [] } : State).ports.notices = ⟨1, 0, 0, []⟩ :: []
      ∧ ({ up with ports.up.burst := 4 } : State).ports.up.forward = f :: []
      -- an entry too near, the only one; and nothing waiting at all
      ∧ ((late.timebase.markWaiting = false ∧ late.timebase.sync = .synced ∧ late.ScheduleRight
          ∧ late.ports.down.forward = [] ∧ late.scheduler.queries = [] ∧ late.rescue.event = none)
        ∧ late.scheduler.schedule = [entry (.queued false)] ∧ tooNear 1025 late.now = true)
      ∧ base.ports.down.forward = [] ∧ base.scheduler.schedule = [] ∧ base.scheduler.queries = []
      ∧ base.ports.up.forward = [] ∧ base.ports.responses = [] ∧ base.ports.notices = [] :=
  ⟨⟨rfl, rfl⟩, ⟨rfl, by decide, rfl⟩, ⟨rfl, moving_scheduleRight _, rfl, rfl, by decide⟩, ⟨rfl, rfl, nofun⟩,
    ⟨rfl, rfl, by decide⟩, rfl, rfl, ⟨⟨rfl, rfl, moving_scheduleRight _, rfl, rfl, rfl⟩, rfl, by decide +kernel⟩,
    rfl, rfl, rfl, rfl, rfl, rfl⟩

theorem witness_TheEndOfAnEventServesAll :
    base.Bounded ∧ (finish base).ports.up.transmitter = .idle ∧ (finish base).ports.down.transmitter = .idle
      ∧ (finish base).scheduler.queries.length < 8
      -- a list whose records cannot be drawn yet, with draws allowed
      ∧ (let s : State := { asking (.asked 9 2) with supervision.phases.l1.condition := .lost, rescue.list := [0] }
        (finish s).drawsAllowed = true ∧ 0 ∈ (finish s).rescue.list) := by
  refine ⟨base_bounded _, by decide +kernel, by decide +kernel, by decide +kernel, by decide +kernel⟩

theorem witness_RequestsAreExecutedInTurn :
    (base.hold = none ∧ base.TakesRequests ∧ ([0x0D] : List Byte) ≠ [] ∧ ([0x0D] : List Byte).length ≤ 48)
      ∧ ({ base with management.restartPending := true } : State).management.restartPending = true
      ∧ (let f := goodFrame 255 240 0x51 1 [1, 0]
        let s : State := { responding [1, 0] with
          management.requests := [⟨255, 2, [0x0D]⟩], ports.responses := [f, f, f, f] }
        s.ports.up.transmitter = .busy .response f ∧ s.management.restartPending = false
          ∧ s.management.requests = [⟨255, 2, [0x0D]⟩] ∧ s.ports.responses = f :: [f, f, f] ∧ [f, f, f].length ≤ 3
          ∧ s.ports.up.forward = [] ∧ 4 ≤ s.ports.responses.length) :=
  ⟨⟨rfl, base_takes _, nofun, by decide⟩, rfl, rfl, rfl, rfl, rfl, by decide, rfl, by decide⟩

theorem witness_ReadsAnswer :
    base.TakesRequests ∧ ([] : List Byte).length ≠ 1 ∧ (List.replicate 47 (0 : Byte)).length < 48
      ∧ 3 < (4 : Byte).toNat ∧ 1 < (2 : Byte).toNat ∧ 16 ≤ (16 : Byte).toNat ∧ (15 : Byte).toNat < 16 ∧ base.QueuesFit
      ∧ base.tables.marks[15]? = some false
      ∧ ({ base with tables.marks := List.replicate 16 true } : State).tables.marks[15]? = some true
      ∧ (segmentAt base.tables.active 15).valid = false ∧ (segmentAt base.tables.active 0).valid = true
      ∧ 240 ≤ (240 : Byte).toNat ∧ base.record (239 : Byte).toNat = none ∧ base.record (0 : Byte).toNat = some unit
      ∧ unit.state.moving = false
      ∧ (let m := moving .sent
        m.TakesRequests ∧ m.record (0 : Byte).toNat = some { unit with state := .ordered }
          ∧ RecordState.moving .ordered = true
          ∧ (m.scheduler.schedule.filter fun x => x.consumer == (0 : Byte).toNat) = [entry .sent]) :=
  ⟨base_takes _, by decide, by decide, by decide, by decide, by decide, by decide, (base_bounded _).2.2.2.2.1, rfl, rfl,
    rfl, rfl, by decide, rfl, rfl, rfl, base_takes { unit with state := .ordered }, rfl, rfl, rfl⟩

theorem witness_ReadScheduleAnswers :
    (moving .sent).TakesRequests ∧ 7 < (8 : Byte).toNat ∧ (7 : Byte).toNat ≤ 7 :=
  ⟨base_takes { unit with state := .ordered }, by decide, by decide⟩

theorem witness_PolicyAndSegmentWrites :
    let stopped : State := { base with balancer.state := .stopped }
    base.TakesRequests ∧ base.balancer.state ≠ .stopped ∧ stopped.TakesRequests ∧ stopped.balancer.state = .stopped
      ∧ ([] : List Byte).length ≠ 40 ∧ ([] : List Byte).length < 48
      ∧ ((List.replicate 40 (0 : Byte)).length = 40 ∧ policyOfBytes (List.replicate 40 0) = none)
      ∧ ((policyBytes Policy.cold).length = 40 ∧ policyOfBytes (policyBytes Policy.cold) = some Policy.cold)
      ∧ 16 ≤ (16 : Byte).toNat ∧ (1 < (2 : Byte).toNat ∧ (15 : Byte).toNat < 16)
      -- segment 1: under itself and under the unused 14 of 15 refused, under 0 accepted; used by no record or child
      ∧ ((1 : Byte).toNat ≤ (1 : Byte).toNat ∧ (segmentAt base.tables.shadow 14).valid = false)
      ∧ ((0 : Byte).toNat < (1 : Byte).toNat ∧ (segmentAt base.tables.shadow 0).valid = true)
      ∧ (∃ j r, (base { unit with segment := 1 }).record j = some r ∧ r.segment = 1)
      ∧ ¬ ((∃ j r, base.record j = some r ∧ r.segment = 1)
        ∨ ∃ seg ∈ base.tables.shadow, seg.valid = true ∧ seg.parent = some 1) := by
  refine ⟨base_takes _, nofun, base_takes unit, rfl, by decide, by decide, by decide +kernel, by decide +kernel, by decide,
    by decide, ⟨by decide, rfl⟩, ⟨by decide, rfl⟩, ⟨0, _, rfl, rfl⟩, ?_⟩
  rintro (⟨j, r, h, hs⟩ | h)
  · obtain ⟨-, rfl⟩ := record_one h
    cases hs
  · revert h
    decide +kernel

theorem witness_PolicyRecordRoundTrip :
    Policy.cold.InRange ∧ (policyBytes { Policy.cold with window := 9 }).length = 40
      ∧ policyOfBytes (policyBytes { Policy.cold with window := 9 }) = some { Policy.cold with window := 9 } :=
  ⟨cold_inRange, by decide +kernel, by decide +kernel⟩

theorem witness_WriteConsumer :
    base.TakesRequests ∧ base.Bounded ∧ 240 ≤ (240 : Byte).toNat
      ∧ (∃ r, (asking .waiting).record 0 = some r ∧ ∃ q, r.state = .querying q)
      ∧ ((0 : Byte).toNat < 1 ∧ 239 < (240 : Byte).toNat)
      ∧ (base.record 239 = none ∧ base.mapped 1 = some 0 ∧ (0 : Nat) ≠ 239)
      -- record 0 written again with its address, and with a new one
      ∧ (¬ ((1 : Byte).toNat < 1 ∨ 239 < (1 : Byte).toNat) ∧ (segmentAt base.tables.shadow 0).valid = true
        ∧ ¬ 1 < (1 : Byte).toNat ∧ (7 : Byte) ≠ 0 ∧ ¬ 7 < (7 : Byte).toNat ∧ (7 : Byte).getLsbD ((3 : Byte).toNat - 1) = true)
      ∧ (¬ ∃ j, base.mapped 1 = some j ∧ j ≠ 0) ∧ base.mapped 239 = none ∧ base.record 0 = some unit
      ∧ unit.address = 1 ∧ unit.address ≠ 239 ∧ base.SumsRight ∧ TreeRule base.tables.active := by
  refine ⟨base_takes _, base_bounded _, by decide, ⟨_, rfl, _, rfl⟩, by decide, ⟨rfl, rfl, by decide⟩,
    by decide +kernel, ?_, rfl, rfl, rfl, by decide, base_sumsRight, cold_tree⟩
  rintro ⟨j, h, hj⟩
  exact hj (Option.some.inj h).symm

theorem witness_ClearsAndLocks :
    base.TakesRequests ∧ 240 ≤ (240 : Byte).toNat ∧ ([] : List Byte).length ≠ 1 ∧ ([] : List Byte).length ≠ 2
      ∧ base.record (239 : Byte).toNat = none ∧ (1 : Byte).toNat ≤ 1 ∧ 1 < (2 : Byte).toNat
      ∧ base.record (0 : Byte).toNat = some unit ∧ base.MapRight ∧ base.Bounded ∧ base.SumsRight
      ∧ (∃ r, (asking .waiting).TakesRequests ∧ (asking .waiting).record 0 = some r ∧ ∃ q, r.state = .querying q)
      ∧ (∀ x, unit.state ≠ .faulted x)
      ∧ ∃ r, (base { unit with state := .faulted .openContact }).record 0 = some r ∧ r.state = .faulted .openContact :=
  ⟨base_takes _, by decide, by decide, by decide, rfl, by decide, by decide, rfl, base_mapRight, base_bounded _,
    base_sumsRight, ⟨_, base_takes { unit with state := .querying ⟨.waiting, 3⟩ }, rfl, _, rfl⟩, nofun, _, rfl, rfl⟩

theorem witness_ControlRestartAndUnknownKinds :
    base.TakesRequests ∧ (∀ p, base.balancer.state ≠ .evaluating p) ∧ (passing pass).balancer.state = .evaluating pass
      ∧ (passing pass).TakesRequests ∧ base.balancer.state ≠ .stopped
      ∧ ({ base with balancer.state := .stopped } : State).balancer.state = .stopped
      ∧ (([] : List Byte) ≠ [1] ∧ ([] : List Byte) ≠ [2] ∧ ([] : List Byte) ≠ [3])
      ∧ ([0] : List Byte) ≠ [] ∧ knownRequest 0 = false ∧ knownRequest 0x11 = false :=
  ⟨base_takes _, nofun, rfl, base_takes unit, nofun, rfl, by decide, by decide, by decide, by decide⟩

/-! The invariants hold of the base state with a command waiting, and its step answers a next state. -/

/-- The base state with a command waiting. -/
def ready : State := { base with pending := [.syntheticCycleEnd] }

theorem witness_BoundedIsKept : ready.Bounded ∧ step ready = .next (after .syntheticCycleEnd base) :=
  ⟨base_bounded unit, rfl⟩

theorem witness_TreeRuleIsKept :
    ready.TreesRight ∧ step ready = .next (after .syntheticCycleEnd base) ∧ TreeRule Segment.coldTable
      ∧ (segmentAt Segment.coldTable 0).valid = true := ⟨⟨cold_tree, cold_tree⟩, rfl, cold_tree, rfl⟩

theorem witness_AddressMapIsKept :
    ready.Bounded ∧ ready.MapRight ∧ step ready = .next (after .syntheticCycleEnd base) :=
  ⟨base_bounded unit, base_mapRight, rfl⟩

theorem witness_ExchangesAreKept :
    ready.Bounded ∧ ready.ScheduleRight ∧ ready.QueriesRight ∧ ready.LatestRight
      ∧ step ready = .next (after .syntheticCycleEnd base) :=
  ⟨base_bounded unit, base_scheduleRight unit rfl, base_queriesRight, nofun, rfl⟩

theorem witness_SumTableIsKept :
    ready.Bounded ∧ ready.TreesRight ∧ ready.ScheduleRight ∧ ready.SumsRight
      ∧ step ready = .next (after .syntheticCycleEnd base) :=
  ⟨base_bounded unit, ⟨cold_tree, cold_tree⟩, base_scheduleRight unit rfl, base_sumsRight, rfl⟩

theorem witness_RescueIsKept :
    ready.Bounded ∧ ready.ScheduleRight ∧ ready.RescueRight ∧ step ready = .next (after .syntheticCycleEnd base) :=
  ⟨base_bounded unit, base_scheduleRight unit rfl, base_rescueRight, rfl⟩

theorem witness_RecordsAreKept :
    ready.Bounded ∧ ready.ScheduleRight ∧ ready.RecordsRight ∧ ready.TargetsRight
      ∧ step ready = .next (after .syntheticCycleEnd base) :=
  ⟨base_bounded unit, base_scheduleRight unit rfl, base_recordsRight, base_targetsRight, rfl⟩

theorem witness_PhasesAndTimebaseAreKept :
    ready.PhasesRight ∧ ready.TimebaseRight ∧ step ready = .next (after .syntheticCycleEnd base) :=
  ⟨base_phasesRight, base_timebaseRight, rfl⟩

end Sys2Proof.Tests
end

namespace Sys2Proof.Machine

/-! ## The segment tree: paths under the tree rule (R1, R2) -/

theorem segmentAt_of_length_le {t : List Segment} {i : Nat} (h : t.length ≤ i) : segmentAt t i = Segment.unused := by
  simp [segmentAt, List.getElem?_eq_none h]

/-- A segment of a right tree that has a parent is a valid one of the table, below a valid parent. -/
theorem TreeRule.of_parent {t : List Segment} (h : TreeRule t) {i p : Nat} (hp : (segmentAt t i).parent = some p) :
    i < Config.segments ∧ p < i ∧ (segmentAt t i).valid = true ∧ (segmentAt t p).valid = true := by
  obtain ⟨hlen, -, hrec⟩ := h
  by_cases hi : i < Config.segments
  · have hm := (hrec i hi).2.2
    rw [hp] at hm
    exact ⟨hi, hm⟩
  · rw [segmentAt_of_length_le (by omega)] at hp
    cases hp

/-- A segment without a parent is segment 0 or one that is not in use. -/
theorem TreeRule.of_root {t : List Segment} (h : TreeRule t) {i : Nat} (hp : (segmentAt t i).parent = none) :
    i = 0 ∨ (segmentAt t i).valid = false := by
  obtain ⟨hlen, -, hrec⟩ := h
  by_cases hi : i < Config.segments
  · have hm := (hrec i hi).2.2
    rwa [hp] at hm
  · exact .inr (by rw [segmentAt_of_length_le (by omega)]; rfl)

theorem TreeRule.lt_of_valid {t : List Segment} (h : TreeRule t) {i : Nat} (hv : (segmentAt t i).valid = true) :
    i < Config.segments := by
  by_contra hi
  rw [segmentAt_of_length_le (by have := h.1; omega)] at hv
  cases hv

/-- Enough fuel for the index is as good as more. -/
theorem TreeRule.pathFrom_fuel {t : List Segment} (h : TreeRule t) {fuel i : Nat} (hi : i < fuel) :
    pathFrom t (fuel + 1) i = pathFrom t fuel i := by
  induction fuel generalizing i with
  | zero => omega
  | succ fuel ih =>
    rw [pathFrom, pathFrom]
    cases hp : (segmentAt t i).parent with
    | none => rfl
    | some p =>
      obtain ⟨-, hlt, -⟩ := h.of_parent hp
      exact congrArg _ (ih (by omega))

/-- The path of a segment goes on as the path of its parent. -/
theorem TreeRule.segmentPath_eq {t : List Segment} (h : TreeRule t) (i : Nat) :
    segmentPath t i = i :: match (segmentAt t i).parent with
      | some p => segmentPath t p
      | none => [] := by
  rw [segmentPath, show Config.segments = 15 + 1 from rfl, pathFrom]
  cases hp : (segmentAt t i).parent with
  | none => rfl
  | some p =>
    obtain ⟨hi, hlt, -⟩ := h.of_parent hp
    have hs : Config.segments = 16 := rfl
    exact congrArg _ (h.pathFrom_fuel (by omega)).symm

theorem TreeRule.segmentPath_root {t : List Segment} (h : TreeRule t) {i : Nat}
    (hp : (segmentAt t i).parent = none) : segmentPath t i = [i] := by
  rw [h.segmentPath_eq, hp]

theorem TreeRule.segmentPath_child {t : List Segment} (h : TreeRule t) {i p : Nat}
    (hp : (segmentAt t i).parent = some p) : segmentPath t i = i :: segmentPath t p := by
  rw [h.segmentPath_eq, hp]

/-- No segment of a path has an index above that of its first. -/
theorem TreeRule.le_of_mem_segmentPath {t : List Segment} (h : TreeRule t) {i k : Nat}
    (hk : k ∈ segmentPath t i) : k ≤ i := by
  induction i using Nat.strong_induction_on with
  | _ i ih =>
    cases hp : (segmentAt t i).parent with
    | none => rw [h.segmentPath_root hp] at hk; simp_all
    | some p =>
      obtain ⟨-, hlt, -⟩ := h.of_parent hp
      rw [h.segmentPath_child hp] at hk
      rcases List.mem_cons.mp hk with rfl | hk
      · exact Nat.le_refl _
      · exact (ih p hlt hk).trans hlt.le

/-- A path descends in its indices. -/
theorem TreeRule.segmentPath_pairwise {t : List Segment} (h : TreeRule t) (i : Nat) :
    (segmentPath t i).Pairwise (· > ·) := by
  induction i using Nat.strong_induction_on with
  | _ i ih =>
    cases hp : (segmentAt t i).parent with
    | none => rw [h.segmentPath_root hp]; exact List.pairwise_singleton ..
    | some p =>
      obtain ⟨-, hlt, -⟩ := h.of_parent hp
      rw [h.segmentPath_child hp]
      exact List.pairwise_cons.mpr ⟨fun k hk => lt_of_le_of_lt (h.le_of_mem_segmentPath hk) hlt, ih p hlt⟩

theorem TreeRule.segmentPath_nodup {t : List Segment} (h : TreeRule t) (i : Nat) : (segmentPath t i).Nodup :=
  (h.segmentPath_pairwise i).imp fun hgt => Nat.ne_of_gt hgt

/-- The path of a valid segment keeps to valid segments and ends at segment 0. -/
theorem TreeRule.segmentPath_valid {t : List Segment} (h : TreeRule t) {i : Nat}
    (hv : (segmentAt t i).valid = true) :
    (segmentPath t i).getLast? = some 0 ∧ ∀ k ∈ segmentPath t i, (segmentAt t k).valid = true := by
  induction i using Nat.strong_induction_on with
  | _ i ih =>
    cases hp : (segmentAt t i).parent with
    | none =>
      have hi : i = 0 := (h.of_root hp).resolve_right (by simp [hv])
      rw [h.segmentPath_root hp]
      exact ⟨by simp [hi], by simpa using hv⟩
    | some p =>
      obtain ⟨-, hlt, -, hvp⟩ := h.of_parent hp
      obtain ⟨hlast, hall⟩ := ih p hlt hvp
      rw [h.segmentPath_child hp]
      exact ⟨by rw [List.getLast?_cons, hlast]; rfl, by simpa [hv] using hall⟩

/-- Every segment of a valid segment's path is one of the table. -/
theorem TreeRule.lt_of_mem_segmentPath {t : List Segment} (h : TreeRule t) {i k : Nat}
    (hv : (segmentAt t i).valid = true) (hk : k ∈ segmentPath t i) : k < Config.segments :=
  h.lt_of_valid ((h.segmentPath_valid hv).2 k hk)

theorem length_segmentPath_le (t : List Segment) (i : Nat) :
    (segmentPath t i).length ≤ Config.segments := by
  have hle (fuel i : Nat) : (pathFrom t fuel i).length ≤ fuel := by
    induction fuel generalizing i with
    | zero => exact Nat.le_refl _
    | succ fuel ih =>
      rw [pathFrom]
      cases (segmentAt t i).parent with
      | none => simp
      | some p => simpa using ih p
  exact hle _ i

/-! ## The Sum Table as sums over subtrees (R84, R85) -/

/-- What one contribution adds to the sum of a segment on a phase. -/
def shareOf (active : List Segment) (segment : Nat) (p : Phase) : Option Contribution → Int
  | some c => if c.phase = p ∧ segment ∈ segmentPath active c.segment then c.load else 0
  | none => 0

theorem State.record_of_length_le (s : State) {i : Nat} (h : s.tables.consumers.length ≤ i) : s.record i = none := by
  simp [State.record, List.getElem?_eq_none h]

theorem State.lt_of_record {s : State} {i : Nat} {r : Consumer} (h : s.record i = some r) :
    i < s.tables.consumers.length := by
  by_contra hn
  rw [s.record_of_length_le (Nat.le_of_not_lt hn)] at h
  cases h

/-- The contributions are those of the indices, in turn. -/
theorem State.contributions_eq (s : State) :
    s.contributions = (List.range s.tables.consumers.length).filterMap s.contribution := by
  have hz : s.tables.consumers.zipIdx
      = (List.range s.tables.consumers.length).map fun i => ((s.tables.consumers[i]?).join, i) := by
    refine List.ext_getElem (by simp) fun i h₁ h₂ => ?_
    have hi : i < s.tables.consumers.length := by simpa using h₁
    simp [List.getElem?_eq_getElem hi]
  rw [State.contributions, hz, List.filterMap_map]
  rfl

/-- The sum over a subtree adds what each index shares in it. -/
theorem State.subtreeSum_eq (s : State) (segment : Nat) (p : Phase) :
    s.subtreeSum segment p
      = ∑ i ∈ Finset.range s.tables.consumers.length, shareOf s.tables.active segment p (s.contribution i) := by
  rw [State.subtreeSum, s.contributions_eq]
  generalize s.tables.consumers.length = n
  induction n with
  | zero => rfl
  | succ n ih =>
    rw [List.range_succ, List.filterMap_append, List.filter_append, List.map_append, List.sum_append, ih,
      Finset.sum_range_succ]
    cases hn : s.contribution n with
    | none => simp [shareOf, hn]
    | some c =>
      by_cases hp : c.phase = p <;> by_cases hm : segment ∈ segmentPath s.tables.active c.segment <;>
        simp [shareOf, hn, hp, hm]

/-- A contributing record stands on a valid segment. -/
theorem State.valid_of_contribution {s : State} {i : Nat} {c : Contribution} (h : s.contribution i = some c) :
    (segmentAt s.tables.active c.segment).valid = true := by
  unfold State.contribution at h
  cases hr : s.record i with
  | none => simp [hr] at h
  | some r =>
    simp only [hr, Option.bind_some, State.contributionOf] at h
    split at h
    · rename_i hc
      cases h
      exact (Bool.and_eq_true_iff.mp hc).2
    · cases h

theorem sumAt_addContribution {active : List Segment} (h : TreeRule active) {o : Option Contribution}
    (ho : ∀ c, o = some c → (segmentAt active c.segment).valid = true) {t : List (PerPhase Int)}
    (hl : t.length = Config.segments) (k : Nat) (p : Phase) :
    sumAt (addContribution active o t) k p = sumAt t k p + shareOf active k p o := by
  cases o with
  | none => simp [addContribution, shareOf]
  | some c =>
    rw [addContribution, sumAt_addAlong (h.segmentPath_nodup _)
      (fun i hi => hl ▸ h.lt_of_mem_segmentPath (ho c rfl) hi)]
    simp [shareOf, and_comm]

theorem sumAt_removeContribution {active : List Segment} (h : TreeRule active) {o : Option Contribution}
    (ho : ∀ c, o = some c → (segmentAt active c.segment).valid = true) {t : List (PerPhase Int)}
    (hl : t.length = Config.segments) (k : Nat) (p : Phase) :
    sumAt (removeContribution active o t) k p = sumAt t k p - shareOf active k p o := by
  cases o with
  | none => simp [removeContribution, shareOf]
  | some c =>
    rw [removeContribution, sumAt_addAlong (h.segmentPath_nodup _)
      (fun i hi => hl ▸ h.lt_of_mem_segmentPath (ho c rfl) hi)]
    simp only [shareOf, and_comm]
    split <;> omega

/-- Where two states agree on every contribution but one, their subtree sums differ by what it shares. -/
theorem State.subtreeSum_change {s t : State} {i : Nat} (ha : t.tables.active = s.tables.active)
    (hn : t.tables.consumers.length = s.tables.consumers.length)
    (hc : ∀ j, j ≠ i → t.contribution j = s.contribution j) (k : Nat) (p : Phase) :
    t.subtreeSum k p = s.subtreeSum k p - shareOf s.tables.active k p (s.contribution i)
      + shareOf s.tables.active k p (t.contribution i) := by
  have hd : t.subtreeSum k p - s.subtreeSum k p
      = shareOf s.tables.active k p (t.contribution i) - shareOf s.tables.active k p (s.contribution i) := by
    rw [t.subtreeSum_eq, s.subtreeSum_eq, ha, hn, ← Finset.sum_sub_distrib]
    by_cases hi : i < s.tables.consumers.length
    · exact Finset.sum_eq_single_of_mem i (Finset.mem_range.mpr hi) fun j _ hj => by rw [hc j hj, sub_self]
    · have hs : s.contribution i = none := by
        rw [State.contribution, s.record_of_length_le (Nat.le_of_not_lt hi)]; rfl
      have ht : t.contribution i = none := by
        rw [State.contribution, t.record_of_length_le (by omega)]; rfl
      rw [hs, ht, sub_self]
      refine Finset.sum_eq_zero fun j hj => ?_
      rw [hc j (by rintro rfl; exact hi (Finset.mem_range.mp hj)), sub_self]
  omega

/-- A change of one contribution, handed over, keeps the Sum Table at the subtree sums (R85). -/
theorem recontribute_sumsRight {i : Nat} {f : State → State} {s : State} (htree : TreeRule s.tables.active)
    (hl : s.balancer.sums.length = Config.segments) (ha : (f s).tables.active = s.tables.active)
    (hb : (f s).balancer.sums = s.balancer.sums)
    (hn : (f s).tables.consumers.length = s.tables.consumers.length)
    (hc : ∀ j, j ≠ i → (f s).contribution j = s.contribution j) (h : s.SumsRight) :
    (recontribute i f s).SumsRight := by
  intro k hk p
  have hsub : (recontribute i f s).subtreeSum k p = (f s).subtreeSum k p := by
    obtain ⟨sums, e⟩ := recontribute_sums i f s
    rw [e]; rfl
  rw [hsub, State.subtreeSum_change ha hn hc, recontribute_eq]
  dsimp only
  by_cases heq : s.contribution i = (f s).contribution i
  · rw [if_pos heq, hb, h k hk p, heq]; omega
  · rw [if_neg heq, hb, ha,
      sumAt_addContribution htree (fun c e => ha ▸ State.valid_of_contribution e) (by simpa using hl),
      sumAt_removeContribution htree (fun c e => State.valid_of_contribution e) hl, h k hk p]

/-- States with the same sums and the same contributions have right sums together. -/
theorem State.SumsRight.congr {s t : State} (ha : t.tables.active = s.tables.active)
    (hb : t.balancer.sums = s.balancer.sums) (hn : t.tables.consumers.length = s.tables.consumers.length)
    (hc : ∀ j, t.contribution j = s.contribution j) (h : s.SumsRight) : t.SumsRight := by
  intro k hk p
  rw [hb, h k hk p, t.subtreeSum_eq, s.subtreeSum_eq, ha, hn]
  exact Finset.sum_congr rfl fun j _ => by rw [hc]

/-! ## A rebuild (R84) -/

@[simp] theorem length_foldIntoParent (active : List Segment) (t : List (PerPhase Int)) (i : Nat) :
    (foldIntoParent active t i).length = t.length := by
  unfold foldIntoParent
  dsimp only
  split <;> simp [Phase.all]

theorem length_foldl_foldIntoParent (active : List Segment) (l : List Nat) (t : List (PerPhase Int)) :
    (l.foldl (foldIntoParent active) t).length = t.length := by
  induction l generalizing t with
  | nil => rfl
  | cons i l ih => exact (ih _).trans (length_foldIntoParent ..)

theorem sumAt_zeroSums (k : Nat) (p : Phase) : sumAt zeroSums k p = 0 := by
  unfold sumAt zeroSums
  rw [List.getElem?_replicate]
  split <;> exact PerPhase.get_const _ p

theorem foldl_addTo_spec (cs : List Contribution) (t : List (PerPhase Int)) (hl : t.length = Config.segments)
    (hcs : ∀ c ∈ cs, c.segment < Config.segments) :
    (cs.foldl (fun t c => addTo c.phase c.load t c.segment) t).length = Config.segments
      ∧ ∀ k p, sumAt (cs.foldl (fun t c => addTo c.phase c.load t c.segment) t) k p
        = sumAt t k p + (cs.map fun c => if c.segment = k ∧ c.phase = p then c.load else 0).sum := by
  induction cs generalizing t with
  | nil => exact ⟨hl, by simp⟩
  | cons c cs ih =>
    obtain ⟨hlen, hsum⟩ := ih (addTo c.phase c.load t c.segment) (by simpa using hl)
      fun c' hc' => hcs c' (List.mem_cons_of_mem _ hc')
    refine ⟨hlen, fun k p => ?_⟩
    have hc := hcs c List.mem_cons_self
    rw [List.foldl_cons, hsum, sumAt_addTo]
    simp only [List.map_cons, List.sum_cons, hl, hc, and_true]
    omega

/-- One step of the fold adds the sums of a valid segment into its parent's. -/
theorem sumAt_foldIntoParent {active : List Segment} (h : TreeRule active) {t : List (PerPhase Int)}
    (hl : t.length = Config.segments) (i k : Nat) (p : Phase) :
    sumAt (foldIntoParent active t i) k p
      = sumAt t k p + if (segmentAt active i).parent = some k then sumAt t i p else 0 := by
  unfold foldIntoParent
  dsimp only
  cases hp : (segmentAt active i).parent with
  | none => simp
  | some q =>
    obtain ⟨hi, hlt, hv, -⟩ := h.of_parent hp
    have hq : q < Config.segments := by omega
    have hqi : q ≠ i := by omega
    simp only [hv, Phase.all, List.foldl_cons, List.foldl_nil, sumAt_addTo, length_addTo, hl, hq, and_true,
      Option.some.injEq]
    by_cases hk : q = k
    · subst hk
      cases p <;> simp [hqi]
    · simp [hk]

/-- How much of the entry of segment `k` reaches that of `j` while the segments up to `m` are still to be folded. -/
def reaches (active : List Segment) (j m k : Nat) : Int :=
  if (if k ≤ m then j ∈ segmentPath active k else k = j) then 1 else 0

/-- Folding segment `m + 1` into its parent leaves the same amount to reach `j`. -/
theorem sum_reaches_foldIntoParent {active : List Segment} (h : TreeRule active) {t : List (PerPhase Int)}
    (hl : t.length = Config.segments) {m : Nat} (hm : m + 1 < Config.segments) (j : Nat) (p : Phase) :
    ∑ k ∈ Finset.range Config.segments, sumAt (foldIntoParent active t (m + 1)) k p * reaches active j m k
      = ∑ k ∈ Finset.range Config.segments, sumAt t k p * reaches active j (m + 1) k := by
  have hother : ∀ k, k ≠ m + 1 → reaches active j m k = reaches active j (m + 1) k := by
    intro k hk
    have : k ≤ m ↔ k ≤ m + 1 := by omega
    simp [reaches, this]
  have hgain : ∑ k ∈ Finset.range Config.segments,
      (if (segmentAt active (m + 1)).parent = some k then sumAt t (m + 1) p else 0) * reaches active j m k
      = sumAt t (m + 1) p * (reaches active j (m + 1) (m + 1) - reaches active j m (m + 1)) := by
    cases hp : (segmentAt active (m + 1)).parent with
    | none => simp [reaches, h.segmentPath_root hp, eq_comm]
    | some q =>
      obtain ⟨-, hlt, -⟩ := h.of_parent hp
      rw [Finset.sum_eq_single_of_mem q (Finset.mem_range.mpr (by omega))
        fun k _ hk => by simp [Ne.symm hk]]
      have hq : q ≤ m := by omega
      have hnot : m + 1 ∉ segmentPath active q := fun hmem => by
        have := h.le_of_mem_segmentPath hmem; omega
      simp only [reaches, hq, if_true, Nat.le_refl, h.segmentPath_child hp, List.mem_cons,
        Nat.not_succ_le_self, if_false]
      by_cases hj : j = m + 1
      · subst hj; simp [hnot]
      · simp [hj, Ne.symm hj]
  have hkeep : ∑ k ∈ Finset.range Config.segments, sumAt t k p * reaches active j (m + 1) k
      = ∑ k ∈ Finset.range Config.segments, sumAt t k p * reaches active j m k
        + sumAt t (m + 1) p * (reaches active j (m + 1) (m + 1) - reaches active j m (m + 1)) := by
    have hdiff : ∑ k ∈ Finset.range Config.segments,
        (sumAt t k p * reaches active j (m + 1) k - sumAt t k p * reaches active j m k)
        = sumAt t (m + 1) p * reaches active j (m + 1) (m + 1) - sumAt t (m + 1) p * reaches active j m (m + 1) :=
      Finset.sum_eq_single_of_mem (m + 1) (Finset.mem_range.mpr hm) fun k _ hk => by rw [hother k hk, sub_self]
    rw [Finset.sum_sub_distrib] at hdiff
    rw [mul_sub, ← hdiff]
    omega
  simp only [sumAt_foldIntoParent h hl, add_mul, Finset.sum_add_distrib]
  rw [hgain, hkeep]

/-- Folding the segments from `m` down to 1 gathers in each entry all that reaches it. -/
theorem sumAt_foldl_foldIntoParent {active : List Segment} (h : TreeRule active) {m : Nat}
    (hm : m < Config.segments) {t : List (PerPhase Int)} (hl : t.length = Config.segments) {j : Nat}
    (hj : j < Config.segments) (p : Phase) :
    sumAt (((List.range m).reverse.map (· + 1)).foldl (foldIntoParent active) t) j p
      = ∑ k ∈ Finset.range Config.segments, sumAt t k p * reaches active j m k := by
  induction m generalizing t with
  | zero =>
    have hzero : ∀ k, reaches active j 0 k = if k = j then 1 else 0 := by
      intro k
      rcases Nat.eq_zero_or_pos k with rfl | hk
      · have hr : (segmentAt active 0).parent = none := by
          cases hp : (segmentAt active 0).parent with
          | none => rfl
          | some q => have := (h.of_parent hp).2.1; omega
        simp [reaches, h.segmentPath_root hr, eq_comm]
      · simp [reaches, Nat.pos_iff_ne_zero.mp hk]
    simp [hzero, Finset.sum_ite_eq', hj]
  | succ m ih =>
    have hlist : (List.range (m + 1)).reverse.map (· + 1) = (m + 1) :: (List.range m).reverse.map (· + 1) := by
      simp [List.range_succ]
    rw [hlist, List.foldl_cons, ih (by omega) (by simpa using hl)]
    exact sum_reaches_foldIntoParent h hl hm j p

/-- A list of numbered things adds up over the numbers. -/
theorem sum_range_map_sum {α : Type} (n : Nat) (l : List α) (f : α → Nat → Int) :
    ∑ k ∈ Finset.range n, (l.map fun a => f a k).sum = (l.map fun a => ∑ k ∈ Finset.range n, f a k).sum := by
  induction l with
  | nil => simp
  | cons a l ih => simp [Finset.sum_add_distrib, ih]

/-- A rebuild makes each entry the sum over the paths that pass its segment. -/
theorem sumAt_rebuiltSums {active : List Segment} (h : TreeRule active) {cs : List Contribution}
    (hcs : ∀ c ∈ cs, c.segment < Config.segments) {j : Nat} (hj : j < Config.segments) (p : Phase) :
    sumAt (rebuiltSums active cs) j p
      = (cs.map fun c => if c.phase = p ∧ j ∈ segmentPath active c.segment then c.load else 0).sum := by
  obtain ⟨hlen, hsum⟩ := foldl_addTo_spec cs zeroSums rfl hcs
  unfold rebuiltSums
  dsimp only
  rw [sumAt_foldl_foldIntoParent h (by decide) hlen hj]
  simp only [hsum, sumAt_zeroSums, zero_add, ← List.sum_map_mul_right]
  rw [sum_range_map_sum]
  refine congrArg List.sum (List.map_congr_left fun c hc => ?_)
  have hseg := hcs c hc
  have h16 : Config.segments = 16 := rfl
  rw [Finset.sum_eq_single_of_mem c.segment (Finset.mem_range.mpr hseg) fun k _ hk => by simp [Ne.symm hk]]
  have hle : c.segment ≤ Config.segments - 1 := by omega
  simp only [true_and, reaches, hle, if_true]
  by_cases hp : c.phase = p <;> simp [hp]

theorem State.segment_of_mem_contributions {s : State} {c : Contribution}
    (hc : c ∈ s.contributions) : (segmentAt s.tables.active c.segment).valid = true := by
  rw [s.contributions_eq, List.mem_filterMap] at hc
  obtain ⟨i, -, hi⟩ := hc
  exact State.valid_of_contribution hi

/-- A rebuild makes the Sum Table right (R84). -/
theorem rebuild_sumsRight {s : State} (h : TreeRule s.tables.active) : (rebuild s).SumsRight := by
  intro j hj p
  have hsub : (rebuild s).subtreeSum j p = s.subtreeSum j p := rfl
  rw [hsub, State.subtreeSum, show (rebuild s).balancer.sums = rebuiltSums s.tables.active s.contributions from rfl,
    sumAt_rebuiltSums h (fun c hc => h.lt_of_valid (State.segment_of_mem_contributions hc)) hj]
  generalize s.contributions = cs
  induction cs with
  | nil => rfl
  | cons c cs ih =>
    rw [List.map_cons, List.sum_cons, ih, List.filter_cons]
    by_cases hp : c.phase = p <;> by_cases hm : j ∈ segmentPath s.tables.active c.segment <;> simp [hp, hm]

@[simp] theorem rebuild_length (s : State) : (rebuild s).balancer.sums.length = Config.segments := by
  have hown (cs : List Contribution) (t : List (PerPhase Int)) :
      (cs.foldl (fun t c => addTo c.phase c.load t c.segment) t).length = t.length := by
    induction cs generalizing t with
    | nil => rfl
    | cons c cs ih => exact (ih _).trans (length_addTo ..)
  exact (length_foldl_foldIntoParent ..).trans (hown ..)

/-- No valid segment's path passes a segment that is not valid. -/
theorem State.subtreeSum_invalid {s : State} (h : TreeRule s.tables.active) {i : Nat}
    (hi : (segmentAt s.tables.active i).valid = false) (p : Phase) : s.subtreeSum i p = 0 := by
  have hnone : (s.contributions.filter fun c =>
      c.phase == p && (segmentPath s.tables.active c.segment).contains i) = [] := by
    refine List.filter_eq_nil_iff.mpr fun c hc hpass => ?_
    have hmem : i ∈ segmentPath s.tables.active c.segment := by
      simp only [Bool.and_eq_true, List.contains_iff_mem] at hpass
      exact hpass.2
    have := (h.segmentPath_valid (State.segment_of_mem_contributions hc)).2 i hmem
    simp [hi] at this
  rw [State.subtreeSum, hnone]
  rfl

/-- Settles O28: the rebuilt entry gathers what reaches its segment along the paths, and no path of a contributing
record passes a segment that is not valid. -/
theorem rebuildGivesTheSubtreeSums : Obligations.RebuildGivesTheSubtreeSums := by
  intro s htree
  have hright := rebuild_sumsRight htree
  refine ⟨hright, fun i hi hv p => ?_⟩
  rw [hright i hi p]
  exact State.subtreeSum_invalid (s := s) htree hv p

end Sys2Proof.Machine

namespace Sys2Proof.Machine

/-! ## The gain of a trial (R88, R91) -/

/-- The three sums of a segment in a table of sums. -/
def entryAt (t : List (PerPhase Int)) (k : Nat) : PerPhase Int := (t[k]?).getD (PerPhase.const 0)

theorem get_entryAt (t : List (PerPhase Int)) (k : Nat) (p : Phase) : (entryAt t k).get p = sumAt t k p := rfl

theorem PerPhase.ext_get {α : Type} {e f : PerPhase α} (h : ∀ p, e.get p = f.get p) : e = f := by
  obtain ⟨a, b, c⟩ := e
  obtain ⟨a', b', c'⟩ := f
  have h₁ : a = a' := h .l1
  have h₂ : b = b' := h .l2
  have h₃ : c = c' := h .l3
  rw [h₁, h₂, h₃]

/-- What a valid segment gives to the cost (R88). -/
def segmentCost (segments : List Segment) (t : List (PerPhase Int)) (k : Nat) : Int :=
  if (segmentAt segments k).valid then (segmentAt segments k).weight * imbalance (entryAt t k) else 0

theorem cost_eq (segments : List Segment) (t : List (PerPhase Int)) :
    cost segments t = ∑ k ∈ Finset.range segments.length, segmentCost segments t k := by
  have hz : segments.zipIdx = (List.range segments.length).map fun k => (segmentAt segments k, k) := by
    refine List.ext_getElem (by simp) fun k h₁ h₂ => ?_
    have hk : k < segments.length := by simpa using h₁
    simp [segmentAt, List.getElem?_eq_getElem hk]
  rw [cost, hz, List.foldl_map]
  generalize segments.length = n
  induction n with
  | zero => rfl
  | succ n ih =>
    rw [List.range_succ, List.foldl_append, ih, Finset.sum_range_succ]
    simp only [List.foldl_cons, List.foldl_nil, segmentCost, entryAt]
    split <;> simp

/-- The working sums after a trial (R91, step 1). -/
def afterTrial (pass : Pass) (c : Candidate) (q : Phase) : List (PerPhase Int) :=
  let path := segmentPath pass.segments c.segment
  addAlong path q c.load (addAlong path c.fromPhase (-c.load) pass.sums)

/-- What a trial does to the sums of a segment. -/
theorem get_trialSums (e : PerPhase Int) (load : Int) {a q : Phase} (h : q ≠ a) (x : Phase) :
    (trialSums e load a q).get x = e.get x + (if a = x then -load else 0) + if q = x then load else 0 := by
  unfold trialSums
  dsimp only
  by_cases hq : x = q
  · subst hq
    rw [PerPhase.get_set_same, PerPhase.get_set_other _ _ h]
    simp [Ne.symm h]
  · rw [PerPhase.get_set_other _ _ hq]
    by_cases ha : x = a
    · subst ha
      rw [PerPhase.get_set_same]
      simp [h, Int.sub_eq_add_neg]
    · rw [PerPhase.get_set_other _ _ ha]
      simp [Ne.symm hq, Ne.symm ha]

section
variable {pass : Pass} {c : Candidate} {q : Phase}

/-- A trial changes the sums of the segments on its path alone, each by `trialSums`. -/
theorem entryAt_afterTrial (h : TreeRule pass.segments) (hl : pass.sums.length = Config.segments)
    (hv : (segmentAt pass.segments c.segment).valid = true) (hq : q ≠ c.fromPhase) (k : Nat) :
    entryAt (afterTrial pass c q) k =
      if k ∈ segmentPath pass.segments c.segment then trialSums (entryAt pass.sums k) c.load c.fromPhase q
      else entryAt pass.sums k := by
  have hn := h.segmentPath_nodup c.segment
  have hlt : ∀ i ∈ segmentPath pass.segments c.segment, i < pass.sums.length :=
    fun i hi => hl ▸ h.lt_of_mem_segmentPath hv hi
  refine PerPhase.ext_get fun x => ?_
  rw [get_entryAt, afterTrial, sumAt_addAlong hn (by simpa using hlt), sumAt_addAlong hn hlt]
  by_cases hk : k ∈ segmentPath pass.segments c.segment
  · rw [if_pos hk, get_trialSums _ _ hq, get_entryAt]
    simp only [hk, true_and]
  · rw [if_neg hk, get_entryAt]
    simp only [hk, false_and, if_false, Int.add_zero]

/-- The gain so far and what one more segment gives, if neither excludes the trial. -/
def addGain : Option Int → Option Int → Option Int
  | some g, some d => some (g + d)
  | _, _ => none

@[simp] theorem addGain_some_none (g : Int) : addGain (some g) none = none := rfl
@[simp] theorem addGain_some_some (g d : Int) : addGain (some g) (some d) = some (g + d) := rfl

theorem trialGain_eq (pass : Pass) (c : Candidate) (q : Phase) :
    trialGain pass c q
      = (segmentPath pass.segments c.segment).foldl (fun g k => addGain g (segmentGain pass c q k)) (some 0) := rfl

theorem foldl_addGain_none (path : List Nat) (f : Nat → Option Int) :
    path.foldl (fun g k => addGain g (f k)) none = none := by
  induction path with
  | nil => rfl
  | cons k path ih => exact ih

/-- The gain over a path is the sum of what its segments give, and one segment that excludes the trial excludes
it. -/
theorem foldl_addGain_eq_some (path : List Nat) (f : Nat → Option Int) (g₀ g : Int) :
    path.foldl (fun g k => addGain g (f k)) (some g₀) = some g
      ↔ (∀ k ∈ path, (f k).isSome = true) ∧ g = g₀ + (path.map fun k => (f k).getD 0).sum := by
  induction path generalizing g₀ with
  | nil => exact ⟨fun h => by cases h; simp, fun h => by simp [h.2]⟩
  | cons k path ih =>
    rw [List.foldl_cons]
    cases hf : f k with
    | none => simp [foldl_addGain_none, hf]
    | some d => simp [ih, hf, Int.add_assoc]

theorem trialGain_eq_some (g : Int) :
    trialGain pass c q = some g
      ↔ (∀ k ∈ segmentPath pass.segments c.segment, (segmentGain pass c q k).isSome = true)
        ∧ g = ((segmentPath pass.segments c.segment).map fun k => (segmentGain pass c q k).getD 0).sum := by
  rw [trialGain_eq, foldl_addGain_eq_some, Int.zero_add]

theorem isSome_trialGain :
    (trialGain pass c q).isSome = true
      ↔ ∀ k ∈ segmentPath pass.segments c.segment, (segmentGain pass c q k).isSome = true := by
  rw [Option.isSome_iff_exists]
  exact ⟨fun ⟨g, hg⟩ => ((trialGain_eq_some g).mp hg).1, fun hall => ⟨_, (trialGain_eq_some _).mpr ⟨hall, rfl⟩⟩⟩

/-- A trial is not excluded by a segment exactly when neither phase is driven above its limit and further out. -/
theorem isSome_segmentGain (k : Nat) :
    (segmentGain pass c q k).isSome = true ↔ ∀ x, x = c.fromPhase ∨ x = q →
      overloads (segmentAt pass.segments k).limit (entryAt pass.sums k)
        (trialSums (entryAt pass.sums k) c.load c.fromPhase q) x = false := by
  unfold segmentGain
  dsimp only
  rw [← entryAt]
  split
  · rename_i ho
    simp only [Option.isSome_none, Bool.false_eq_true, false_iff, not_forall]
    rcases Bool.or_eq_true_iff.mp ho with ho | ho
    · exact ⟨_, .inl rfl, by simp [ho]⟩
    · exact ⟨_, .inr rfl, by simp [ho]⟩
  · rename_i ho
    simp only [Bool.or_eq_true, not_or, Bool.not_eq_true] at ho
    simp [ho]

theorem overloads_eq_false (limit : Nat) (working trial : PerPhase Int) (x : Phase) :
    overloads limit working trial x = false ↔ limit = Config.noLimit ∨ (trial.get x).natAbs ≤ limit
      ∨ (trial.get x).natAbs ≤ (working.get x).natAbs := by
  simp only [overloads, Bool.and_eq_false_iff, bne_eq_false_iff_eq, decide_eq_false_iff_not, Nat.not_lt, or_assoc]

/-- A segment that does not exclude a trial gives it the fall of its own cost. -/
theorem segmentGain_getD (h : TreeRule pass.segments) (hl : pass.sums.length = Config.segments)
    (hv : (segmentAt pass.segments c.segment).valid = true) (hq : q ≠ c.fromPhase) {k : Nat}
    (hk : k ∈ segmentPath pass.segments c.segment) (hs : (segmentGain pass c q k).isSome = true) :
    (segmentGain pass c q k).getD 0
      = segmentCost pass.segments pass.sums k - segmentCost pass.segments (afterTrial pass c q) k := by
  have hvk := (h.segmentPath_valid hv).2 k hk
  rw [segmentCost, segmentCost, if_pos hvk, if_pos hvk, entryAt_afterTrial h hl hv hq, if_pos hk]
  unfold segmentGain at hs ⊢
  dsimp only at hs ⊢
  split at hs
  · cases hs
  · rename_i ho
    rw [if_neg ho, ← entryAt, Option.getD_some, Int.mul_sub]

/-- The cost falls by what the segments of the path give. -/
theorem cost_sub_afterTrial (h : TreeRule pass.segments) (hl : pass.sums.length = Config.segments)
    (hv : (segmentAt pass.segments c.segment).valid = true) (hq : q ≠ c.fromPhase) :
    cost pass.segments pass.sums - cost pass.segments (afterTrial pass c q)
      = ((segmentPath pass.segments c.segment).map fun k =>
          segmentCost pass.segments pass.sums k - segmentCost pass.segments (afterTrial pass c q) k).sum := by
  rw [cost_eq, cost_eq, ← Finset.sum_sub_distrib, h.1, ← List.sum_toFinset _ (h.segmentPath_nodup _)]
  symm
  refine Finset.sum_subset (fun k hk => ?_) fun k _ hk => ?_
  · exact Finset.mem_range.mpr (h.lt_of_mem_segmentPath hv (List.mem_toFinset.mp hk))
  · have hk : k ∉ segmentPath pass.segments c.segment := fun hm => hk (List.mem_toFinset.mpr hm)
    rw [segmentCost, segmentCost, entryAt_afterTrial h hl hv hq, if_neg hk, sub_self]

end

/-- Settles O26: segment by segment of the path, by the fall of the segment's own cost. -/
theorem gainIsTheFallOfCost : Obligations.GainIsTheFallOfCost := by
  intro pass c q htree hlen _ hv hq path trial
  refine ⟨fun g hg => ?_, ?_⟩
  · obtain ⟨hall, rfl⟩ := (trialGain_eq_some g).mp hg
    rw [show trial = afterTrial pass c q from rfl, cost_sub_afterTrial htree hlen hv hq]
    exact congrArg List.sum (List.map_congr_left fun k hk => segmentGain_getD htree hlen hv hq hk (hall k hk))
  · rw [isSome_trialGain]
    refine forall₂_congr fun k hk => ?_
    rw [isSome_segmentGain]
    refine forall₂_congr fun x _ => ?_
    have hentry := entryAt_afterTrial htree hlen hv hq k
    rw [if_pos hk] at hentry
    rw [overloads_eq_false, ← hentry]
    rfl

end Sys2Proof.Machine

namespace Sys2Proof.Machine

/-! ## Sizes and ranges, field by field -/

/-- `State.Bounded` field by field, without the remaining count, which is out of its range inside a fold completion
(R40). -/
structure State.Fits (s : State) : Prop where
  sized : s.tables.Sized
  sums : s.balancer.sums.length = Config.segments
  active : s.management.active.InRange
  shadow : s.management.shadow.InRange
  schedule : s.scheduler.schedule.length ≤ Config.scheduleRoom
  queries : s.scheduler.queries.length ≤ Config.queryRoom
  upForward : s.ports.up.forward.length ≤ Config.upForwardRoom
  downForward : s.ports.down.forward.length ≤ Config.downForwardRoom
  notices : s.ports.notices.length ≤ Config.noticeRoom
  responses : s.ports.responses.length ≤ Config.responseRoom
  requests : s.management.requests.length ≤ Config.requestRoom
  counters : ∀ n ∈ counterList s.ports.counters, n ≤ Config.counterTop
  lost : s.ports.lostNotices ≤ 255
  upBurst : s.ports.up.burst ≤ 16
  downBurst : s.ports.down.burst ≤ 16
  rescued : s.rescue.rescued ≤ 255
  unrescuable : s.rescue.unrescuable ≤ 255
  restored : s.rescue.restored ≤ 255
  window : s.intake.windowCounter ≤ 255
  mark : s.timebase.markCounter ≤ 255
  tag : s.scheduler.tagCounter ≠ 0

theorem State.bounded_iff (s : State) :
    s.Bounded ↔ s.Fits ∧ 1 ≤ s.balancer.remaining ∧ s.balancer.remaining ≤ s.management.active.passDivider := by
  constructor
  · rintro ⟨sized, sums, active, shadow, ⟨schedule, queries, up, down, notices, responses, requests⟩,
      counters, lost, upBurst, downBurst, rescued, unrescuable, restored, low, high, window, mark, tag⟩
    exact ⟨⟨sized, sums, active, shadow, schedule, queries, up, down, notices, responses, requests, counters, lost,
      upBurst, downBurst, rescued, unrescuable, restored, window, mark, tag⟩, low, high⟩
  · rintro ⟨h, low, high⟩
    exact ⟨h.sized, h.sums, h.active, h.shadow,
      ⟨h.schedule, h.queries, h.upForward, h.downForward, h.notices, h.responses, h.requests⟩,
      h.counters, h.lost, h.upBurst, h.downBurst, h.rescued, h.unrescuable, h.restored, low, high, h.window, h.mark,
      h.tag⟩

theorem State.Bounded.fits {s : State} (h : s.Bounded) : s.Fits := (s.bounded_iff.mp h).1

/-- The range of one clamped field of a policy in range. -/
theorem clamp_bounds {low high n : Nat} (hlh : low ≤ high) (h : clamp low high n = n) : low ≤ n ∧ n ≤ high := by
  unfold clamp at h; omega

theorem Policy.InRange.passDivider {p : Policy} (h : p.InRange) : 1 ≤ p.passDivider ∧ p.passDivider ≤ 8 :=
  clamp_bounds (by decide) (congrArg Policy.passDivider h.1)

theorem Policy.InRange.window_le {p : Policy} (h : p.InRange) : p.window ≤ 255 :=
  (clamp_bounds (by decide) (congrArg Policy.window h.1)).2

theorem Policy.InRange.markInterval_le {p : Policy} (h : p.InRange) : p.markInterval ≤ 255 :=
  (clamp_bounds (by decide) (congrArg Policy.markInterval h.1)).2

theorem Policy.InRange.divider_le {p : Policy} (h : p.InRange) : p.divider ≤ 8 :=
  (clamp_bounds (by decide) (congrArg Policy.divider h.1)).2

theorem Policy.InRange.inFlightLimit_le {p : Policy} (h : p.InRange) : p.inFlightLimit ≤ 8 :=
  (clamp_bounds (by decide) (congrArg Policy.inFlightLimit h.1)).2

theorem Policy.cold_inRange : Policy.cold.InRange := by
  unfold Policy.InRange; decide

/-- A record with its fields in the ranges of R9, apart from its rescue attempts. -/
structure Consumer.Ranged (r : Consumer) : Prop where
  segment : r.segment < Config.segments
  allowed : r.allowed.get r.assigned = true
  priority : r.priority ≤ 3
  moveCount : r.moveCount ≤ 15
  fresh : r.fresh.natAbs ≤ 2000
  stable : r.stable.natAbs ≤ 2000
  firstBank : r.firstBank.InRange
  secondBank : r.secondBank.InRange
  silence : r.silence ≤ 255
  forward : r.forward ≤ 7

/-- Rescue attempts in range, for a record that waits in the rescue list or not (R146, R152). -/
def attemptsInRange (listed : Prop) (mark : Option RescueMark) : Prop :=
  ∀ m, mark = some m → m.attempts ≤ 2 ∧ (listed → m.attempts ≤ 1)

theorem attemptsInRange_none (listed : Prop) : attemptsInRange listed none := fun _ h => nomatch h

theorem State.recordsRight_iff (s : State) :
    s.RecordsRight ↔ ∀ i r, s.record i = some r → r.Ranged ∧ attemptsInRange (i ∈ s.rescue.list) r.rescue := by
  refine forall₃_congr fun i r _ => ⟨?_, ?_⟩
  · rintro ⟨h₁, h₂, h₃, h₄, h₅, h₆, h₇, h₈, h₉, h₁₀, h⟩
    exact ⟨⟨h₁, h₂, h₃, h₄, h₅, h₆, h₇, h₈, h₉, h₁₀⟩, h⟩
  · rintro ⟨h, hm⟩
    exact ⟨h.segment, h.allowed, h.priority, h.moveCount, h.fresh, h.stable, h.firstBank, h.secondBank, h.silence,
      h.forward, hm⟩

/-! ## Changes that leave moves, sums and the map alone -/

/-- The state of a record that an entry of the Move Schedule names; none for one in another state (R103). -/
def RecordState.motion (st : RecordState) : Option RecordState := if st.moving then some st else none

/-- What of a record the Address Map, the Sum Table and the Move Schedule rest on. -/
structure Gist where
  address : Byte
  segment : Nat
  allowed : PhaseSet
  assigned : Phase
  stable : Int
  contributes : Bool
  motion : Option RecordState

/-- The gist of a record. -/
def Consumer.gist (r : Consumer) : Gist :=
  ⟨r.address, r.segment, r.allowed, r.assigned, r.stable, r.state.contributes, r.state.motion⟩

/-- A change that leaves the tables, the Sum Table, the schedule and the gist of every record as they were, and
keeps sizes and ranges. -/
structure State.Gentle (s t : State) : Prop where
  active : t.tables.active = s.tables.active
  shadow : t.tables.shadow = s.tables.shadow
  addressMap : t.tables.addressMap = s.tables.addressMap
  size : t.tables.consumers.length = s.tables.consumers.length
  balancer : t.balancer = s.balancer
  schedule : t.scheduler.schedule = s.scheduler.schedule
  policy : t.management.active = s.management.active
  gist : ∀ i, (t.record i).map Consumer.gist = (s.record i).map Consumer.gist
  fits : s.Fits → t.Fits
  records : s.Fits → s.RecordsRight → t.RecordsRight

theorem State.Gentle.refl (s : State) : s.Gentle s :=
  ⟨rfl, rfl, rfl, rfl, rfl, rfl, rfl, fun _ => rfl, id, fun _ => id⟩

theorem State.Gentle.trans {s t u : State} (h : s.Gentle t) (k : t.Gentle u) : s.Gentle u where
  active := k.active.trans h.active
  shadow := k.shadow.trans h.shadow
  addressMap := k.addressMap.trans h.addressMap
  size := k.size.trans h.size
  balancer := k.balancer.trans h.balancer
  schedule := k.schedule.trans h.schedule
  policy := k.policy.trans h.policy
  gist i := (k.gist i).trans (h.gist i)
  fits hs := k.fits (h.fits hs)
  records hs hr := k.records (h.fits hs) (h.records hs hr)

/-- Steps folded over a list are gentle when each is. -/
theorem State.Gentle.foldl {α : Type} (f : State → α → State) (hf : ∀ (s : State) (a : α), s.Gentle (f s a))
    (l : List α) (s : State) : s.Gentle (l.foldl f s) := by
  induction l generalizing s with
  | nil => exact .refl s
  | cons a l ih => exact (hf s a).trans (ih (f s a))

/-- A change of other blocks alone is gentle when it keeps their sizes. -/
theorem State.Gentle.side {s t : State} (hf : s.Fits → t.Fits) (htables : t.tables = s.tables := by rfl)
    (hbalancer : t.balancer = s.balancer := by rfl)
    (hschedule : t.scheduler.schedule = s.scheduler.schedule := by rfl)
    (hlist : t.rescue.list = s.rescue.list := by rfl)
    (hpolicy : t.management.active = s.management.active := by rfl) : s.Gentle t where
  active := by rw [htables]
  shadow := by rw [htables]
  addressMap := by rw [htables]
  size := by rw [htables]
  balancer := hbalancer
  schedule := hschedule
  policy := hpolicy
  gist i := by rw [State.record, htables, State.record]
  fits := hf
  records _ hr i r hi := by
    rw [State.record, htables] at hi
    rw [hlist]
    exact hr i r hi

/-! ### Changes of one record and of all -/

@[simp] theorem modifyRecord_active (i : Nat) (f : Consumer → Consumer) (s : State) :
    (s.modifyRecord i f).tables.active = s.tables.active := by
  unfold State.modifyRecord; split <;> rfl

@[simp] theorem modifyRecord_size (i : Nat) (f : Consumer → Consumer) (s : State) :
    (s.modifyRecord i f).tables.consumers.length = s.tables.consumers.length := by
  unfold State.modifyRecord; split
  · exact List.length_set ..
  · rfl

/-- A change of one record changes the Consumer Table alone, and not its size. -/
theorem modifyRecord_eq (i : Nat) (f : Consumer → Consumer) (s : State) :
    ∃ l, l.length = s.tables.consumers.length
      ∧ s.modifyRecord i f = { s with tables.consumers := l } := by
  unfold State.modifyRecord
  split
  · exact ⟨_, List.length_set .., rfl⟩
  · exact ⟨_, rfl, rfl⟩

theorem State.Fits.withConsumers {s : State} (h : s.Fits) {l : List (Option Consumer)}
    (hl : l.length = s.tables.consumers.length) : State.Fits { s with tables.consumers := l } :=
  { h with sized := ⟨h.sized.1, h.sized.2.1, h.sized.2.2.1, hl.trans h.sized.2.2.2.1, h.sized.2.2.2.2⟩ }

theorem modifyRecord_fits (i : Nat) (f : Consumer → Consumer) {s : State} (h : s.Fits) :
    (s.modifyRecord i f).Fits := by
  obtain ⟨l, hl, e⟩ := modifyRecord_eq i f s
  rw [e]
  exact h.withConsumers hl

/-- Where the Consumer Table alone changes, and every record keeps its gist and its ranges, the change is gentle. -/
theorem State.Gentle.ofRecords {s : State} {l : List (Option Consumer)}
    (hl : l.length = s.tables.consumers.length)
    (hr : ∀ i r', State.record { s with tables.consumers := l } i = some r' → ∃ r, s.record i = some r
      ∧ r'.gist = r.gist ∧ (s.Fits → r.Ranged → r'.Ranged)
      ∧ (attemptsInRange (i ∈ s.rescue.list) r.rescue → attemptsInRange (i ∈ s.rescue.list) r'.rescue))
    (hn : ∀ i, State.record { s with tables.consumers := l } i = none → s.record i = none) :
    s.Gentle { s with tables.consumers := l } where
  active := rfl
  shadow := rfl
  addressMap := rfl
  size := hl
  balancer := rfl
  schedule := rfl
  policy := rfl
  gist i := by
    cases h : State.record { s with tables.consumers := l } i with
    | none => rw [hn i h]
    | some r' =>
      obtain ⟨r, hi, hg, -⟩ := hr i r' h
      rw [hi]
      exact congrArg some hg
  fits h := h.withConsumers hl
  records hf h := by
    rw [State.recordsRight_iff] at h ⊢
    intro i r' hi
    obtain ⟨r, hi, -, hranged, hmark⟩ := hr i r' hi
    exact ⟨hranged hf (h i r hi).1, hmark (h i r hi).2⟩

theorem modifyRecord_gentle {i : Nat} {f : Consumer → Consumer} {s : State}
    (hg : ∀ r, s.record i = some r → (f r).gist = r.gist)
    (hr : ∀ r, s.Fits → r.Ranged → (f r).Ranged)
    (hm : ∀ r, s.record i = some r → attemptsInRange (i ∈ s.rescue.list) r.rescue →
      attemptsInRange (i ∈ s.rescue.list) (f r).rescue) :
    s.Gentle (s.modifyRecord i f) := by
  have hrec : ∀ j, (s.modifyRecord i f).record j = if i = j then (s.record j).map f else s.record j :=
    fun j => record_modifyRecord s i j f
  obtain ⟨l, hl, e⟩ := modifyRecord_eq i f s
  rw [e] at hrec ⊢
  refine .ofRecords hl (fun j r' hj => ?_) fun j hj => ?_
  · rw [hrec] at hj
    by_cases hij : i = j
    · subst hij
      rw [if_pos rfl, Option.map_eq_some_iff] at hj
      obtain ⟨r, hi, rfl⟩ := hj
      exact ⟨r, hi, hg r hi, hr r, hm r hi⟩
    · rw [if_neg hij] at hj
      exact ⟨r', hj, rfl, fun _ h => h, fun h => h⟩
  · rw [hrec] at hj
    by_cases hij : i = j
    · simpa [hij] using hj
    · simpa [hij] using hj

theorem record_mapRecords (s : State) (f : Consumer → Consumer) (i : Nat) :
    State.record { s with tables.consumers := s.tables.consumers.map fun r => r.map f } i = (s.record i).map f := by
  simp only [State.record, List.getElem?_map]
  cases s.tables.consumers[i]? with
  | none => rfl
  | some r => rfl

theorem mapRecords_gentle {f : Consumer → Consumer} {s : State} (hg : ∀ r, (f r).gist = r.gist)
    (hr : ∀ r, r.Ranged → (f r).Ranged) (hm : ∀ r, (f r).rescue = r.rescue) :
    s.Gentle { s with tables.consumers := s.tables.consumers.map fun r => r.map f } := by
  refine .ofRecords (by simp) (fun i r' hi => ?_) fun i hi => ?_
  · rw [record_mapRecords, Option.map_eq_some_iff] at hi
    obtain ⟨r, hi, rfl⟩ := hi
    exact ⟨r, hi, hg r, fun _ => hr r, fun h => by rwa [hm]⟩
  · rw [record_mapRecords] at hi
    simpa using hi

/-! ### Counters, notices and the Rescue Unit -/

/-- A status counter raised keeps all of them within their limit. -/
theorem count_gentle {f : Counters → Counters} (s : State)
    (hf : ∀ c : Counters, (∀ n ∈ counterList c, n ≤ Config.counterTop) →
      ∀ n ∈ counterList (f c), n ≤ Config.counterTop) : s.Gentle (s.count f) :=
  .side fun h => { h with counters := hf _ h.counters }

theorem countBad_gentle (port : Port) (s : State) : s.Gentle (countBad port s) := by
  cases port
  · exact count_gentle (f := fun c => { c with badUp := bump c.badUp }) s fun c h => by simp_all [counterList, bump_le]
  · exact count_gentle (f := fun c => { c with badDown := bump c.badDown }) s
      fun c h => by simp_all [counterList, bump_le]

theorem countMisaddressed_gentle (s : State) : s.Gentle (countMisaddressed s) :=
  count_gentle s fun c h => by simp_all [counterList, bump_le]
theorem countRequestDrop_gentle (s : State) : s.Gentle (countRequestDrop s) :=
  count_gentle s fun c h => by simp_all [counterList, bump_le]
theorem countDownDrop_gentle (s : State) : s.Gentle (countDownDrop s) :=
  count_gentle s fun c h => by simp_all [counterList, bump_le]
theorem countUpDrop_gentle (s : State) : s.Gentle (countUpDrop s) :=
  count_gentle s fun c h => by simp_all [counterList, bump_le]
theorem countForeign_gentle (s : State) : s.Gentle (countForeign s) :=
  count_gentle s fun c h => by simp_all [counterList, bump_le]
theorem countStaleFrame_gentle (s : State) : s.Gentle (countStaleFrame s) :=
  count_gentle s fun c h => by simp_all [counterList, bump_le]
theorem countStaleMove_gentle (s : State) : s.Gentle (countStaleMove s) :=
  count_gentle s fun c h => by simp_all [counterList, bump_le]
theorem countOverrun_gentle (s : State) : s.Gentle (countOverrun s) :=
  count_gentle s fun c h => by simp_all [counterList, bump_le]
theorem countSuppressed_gentle (s : State) : s.Gentle (countSuppressed s) :=
  count_gentle s fun c h => by simp_all [counterList, bump_le]
theorem countGlitch_gentle (s : State) : s.Gentle (countGlitch s) :=
  count_gentle s fun c h => by simp_all [counterList, bump_le]

theorem queueNotice_gentle (k : NoticeKind) (x : List Byte) (s : State) : s.Gentle (queueNotice k x s) := by
  unfold queueNotice
  split
  · rename_i hroom
    exact .side fun h => { h with notices := by simpa using hroom, lost := Nat.zero_le _ }
  · exact .side fun h => { h with lost := raise_le h.lost }

theorem raiseNotice_gentle (k : NoticeKind) (x : List Byte) (s : State) : s.Gentle (raiseNotice k x s) := by
  unfold raiseNotice
  split
  · exact queueNotice_gentle k x s
  · exact .refl s

theorem dropChoice_gentle (s : State) : s.Gentle (dropChoice s) := .side fun h => { h with }

theorem leaveQueue_gentle (i : Nat) (s : State) : s.Gentle (leaveQueue i s) :=
  .side fun h => { h with queries := (List.length_filter_le ..).trans h.queries }

theorem countRescued_gentle (s : State) : s.Gentle (countRescued s) :=
  .side fun h => { h with rescued := raise_le h.rescued }
theorem countUnrescuable_gentle (s : State) : s.Gentle (countUnrescuable s) :=
  .side fun h => { h with unrescuable := raise_le h.unrescuable }
theorem countRestored_gentle (s : State) : s.Gentle (countRestored s) :=
  .side fun h => { h with restored := raise_le h.restored }

theorem setEvent_gentle (ev : Option LossEvent) (s : State) : s.Gentle { s with rescue.event := ev } :=
  .side fun h => { h with }

theorem closeTest_gentle (s : State) : s.Gentle (closeTest s) := by
  unfold closeTest
  split
  · split
    · exact .refl s
    · exact (setEvent_gentle none s).trans (raiseNotice_gentle _ _ _)
  · exact .refl s

theorem unlist_gentle (i : Nat) (s : State) : s.Gentle (unlist i s) where
  active := rfl
  shadow := rfl
  addressMap := rfl
  size := rfl
  balancer := rfl
  schedule := rfl
  policy := rfl
  gist _ := rfl
  fits h := { h with }
  records _ h := by
    rw [State.recordsRight_iff] at h ⊢
    intro j r hj
    obtain ⟨hranged, hmark⟩ := h j r hj
    exact ⟨hranged, fun m hm => ⟨(hmark m hm).1, fun hl => (hmark m hm).2 ((mem_unlist i j s).mp hl).1⟩⟩

theorem delist_gentle (i : Nat) (s : State) : s.Gentle (delist i s) := by
  unfold delist
  split
  · exact (unlist_gentle i s).trans (closeTest_gentle _)
  · exact .refl s

theorem record_enlist (i n : Nat) (p : Phase) (s : State) (j : Nat) :
    (enlist i n p s).record j
      = if i = j then (s.record j).map fun r => { r with rescue := some ⟨n, p⟩ } else s.record j :=
  record_modifyRecord _ i j _

/-- An insertion into the rescue list with at most one attempt made (R152). -/
theorem enlist_gentle (i : Nat) {n : Nat} (hn : n ≤ 1) (p : Phase) (s : State) : s.Gentle (enlist i n p s) := by
  have hrec := record_enlist i n p s
  have hlist : (enlist i n p s).rescue.list = insertInOrder s.listedBefore i s.rescue.list := by
    obtain ⟨l, -, e⟩ := modifyRecord_eq i (fun r => { r with rescue := some ⟨n, p⟩ })
      { s with rescue.list := insertInOrder s.listedBefore i s.rescue.list }
    rw [enlist, e]
  obtain ⟨l, hl, e⟩ := modifyRecord_eq i (fun r => { r with rescue := some ⟨n, p⟩ })
    { s with rescue.list := insertInOrder s.listedBefore i s.rescue.list }
  have e : enlist i n p s = _ := e
  have hfits : s.Fits → (enlist i n p s).Fits := fun h =>
    modifyRecord_fits _ _ (s := { s with rescue.list := insertInOrder s.listedBefore i s.rescue.list }) { h with }
  have hrecords : s.Fits → s.RecordsRight → (enlist i n p s).RecordsRight := fun _ h => by
    rw [State.recordsRight_iff] at h ⊢
    intro j r hj
    rw [hrec] at hj
    rw [hlist]
    by_cases hij : i = j
    · subst hij
      rw [if_pos rfl, Option.map_eq_some_iff] at hj
      obtain ⟨r, hi, rfl⟩ := hj
      refine ⟨{ (h i r hi).1 with }, fun m hm => ?_⟩
      cases hm
      exact ⟨by dsimp only; omega, fun _ => hn⟩
    · rw [if_neg hij] at hj
      obtain ⟨hranged, hmark⟩ := h j r hj
      refine ⟨hranged, fun m hm => ⟨(hmark m hm).1, fun hmem => (hmark m hm).2 ?_⟩⟩
      exact ((mem_insertInOrder ..).mp hmem).resolve_left (Ne.symm hij)
  have hgist : ∀ j, ((enlist i n p s).record j).map Consumer.gist = (s.record j).map Consumer.gist := fun j => by
    rw [hrec]
    split
    · cases s.record j <;> rfl
    · rfl
  rw [e] at hfits hrecords hgist ⊢
  exact ⟨rfl, rfl, rfl, hl, rfl, rfl, rfl, hgist, hfits, hrecords⟩

/-- R152 inserts a record with at most one attempt made. -/
theorem handOverInsertion_le {s : State} {i n : Nat} {p : Phase} (h : s.handOverInsertion i = some (n, p)) :
    n ≤ 1 := by
  unfold State.handOverInsertion at h
  split at h
  · dsimp only at h
    split at h
    · obtain ⟨k, hk, e⟩ := Option.map_eq_some_iff.mp h
      cases e
      unfold attemptsAllowed at hk
      split at hk
      · cases hk; exact Nat.zero_le _
      · split at hk
        · cases hk; omega
        · cases hk
    · cases h
  · cases h

theorem insertByHandOver_gentle (i : Nat) (s : State) : s.Gentle (insertByHandOver i s) := by
  unfold insertByHandOver
  split
  · rename_i n p h
    exact enlist_gentle i (handOverInsertion_le h) p s
  · exact .refl s

theorem rescueEntryEnd_gentle (e : MoveEntry) (s : State) : s.Gentle (rescueEntryEnd e s) := by
  unfold rescueEntryEnd
  split
  · exact countUnrescuable_gentle s
  · split
    · split
      · split
        · rename_i h
          exact enlist_gentle _ (handOverInsertion_le h) _ s
        · exact countUnrescuable_gentle s
      · split
        · exact countRestored_gentle s
        · exact countRescued_gentle s
    · exact .refl s

theorem handOverEnd_gentle (e : MoveEntry) (s : State) : s.Gentle (handOverEnd e s) := by
  unfold handOverEnd
  refine .trans ?_ (closeTest_gentle _)
  split
  · exact rescueEntryEnd_gentle e s
  · exact insertByHandOver_gentle e.consumer s
  · exact insertByHandOver_gentle e.consumer s

theorem noteSettlement_gentle (i : Nat) (s : State) : s.Gentle (noteSettlement i s) := by
  unfold noteSettlement
  split
  · split
    · split
      · exact .refl s
      · exact insertByHandOver_gentle i s
    · exact delist_gentle i s
  · exact .refl s

theorem noteOutOfService_gentle (i : Nat) (s : State) : s.Gentle (noteOutOfService i s) := by
  unfold noteOutOfService
  split
  · exact ((unlist_gentle i s).trans (countUnrescuable_gentle _)).trans (closeTest_gentle _)
  · exact .refl s

theorem dropRescueMark_gentle (i : Nat) (s : State) : s.Gentle (dropRescueMark i s) :=
  modifyRecord_gentle (fun _ _ => rfl) (fun _ _ h => { h with }) fun _ _ _ => attemptsInRange_none _

theorem openOrExtend_gentle (p : Phase) (s : State) : s.Gentle (openOrExtend p s) := by
  unfold openOrExtend
  split
  · exact .side fun h =>
      { h with rescued := Nat.zero_le _, unrescuable := Nat.zero_le _, restored := Nat.zero_le _ }
  · exact setEvent_gentle _ s

theorem rescueTrigger_gentle (p : Phase) (s : State) : s.Gentle (rescueTrigger p s) := by
  unfold rescueTrigger
  split
  · exact (openOrExtend_gentle p s).trans
      ((State.Gentle.foldl _ (fun t i => enlist_gentle i (Nat.zero_le 1) p t) _ _).trans (closeTest_gentle _))
  · exact .refl s

theorem rescueRecovery_gentle (p : Phase) (s : State) : s.Gentle (rescueRecovery p s) := by
  have h (l m : List Nat) : s.Gentle
      (m.foldl (fun s i => dropRescueMark i s) (l.foldl (fun s i => countRestored (unlist i s)) s)) :=
    (State.Gentle.foldl _ (fun t i => (unlist_gentle i t).trans (countRestored_gentle _)) l s).trans
      (State.Gentle.foldl _ (fun t i => dropRescueMark_gentle i t) m _)
  unfold rescueRecovery
  dsimp only
  split
  · exact ((h _ _).trans (setEvent_gentle _ _)).trans (closeTest_gentle _)
  · exact (h _ _).trans (closeTest_gentle _)

theorem rescueDisabled_gentle (s : State) : s.Gentle (rescueDisabled s) := by
  unfold rescueDisabled
  split
  · exact (State.Gentle.foldl _ (fun t i => (unlist_gentle i t).trans (countUnrescuable_gentle _)) _ s).trans
      (closeTest_gentle _)
  · exact .refl s

/-! ### The schedule's own counts, the query queue and the deadlines -/

theorem expireLatest_gentle (s : State) : s.Gentle (expireLatest s) := by
  unfold expireLatest
  split
  · split
    · exact .refl s
    · exact .side fun h => { h with }
  · exact .refl s

/-- A record's query taken further: the record stays where it stood for its moves and its sums. -/
theorem withQuery_gist (r : Consumer) (q : Query) :
    ({ r with state := r.state.withQuery q } : Consumer).gist = r.gist := by
  obtain ⟨st⟩ := r
  cases st <;> rfl

theorem setQueryStage_gist (stage : QueryStage) (r : Consumer) : (setQueryStage stage r).gist = r.gist := by
  unfold setQueryStage
  split
  · exact withQuery_gist r _
  · rfl

theorem setQueryStage_ranged (stage : QueryStage) {r : Consumer} (h : r.Ranged) : (setQueryStage stage r).Ranged := by
  unfold setQueryStage
  split
  · exact { h with }
  · exact h

theorem setQueryStage_rescue (stage : QueryStage) (r : Consumer) : (setQueryStage stage r).rescue = r.rescue := by
  unfold setQueryStage
  split <;> rfl

theorem modify_setQueryStage_gentle (i : Nat) (stage : QueryStage) (s : State) :
    s.Gentle (s.modifyRecord i (setQueryStage stage)) :=
  modifyRecord_gentle (fun r _ => setQueryStage_gist stage r) (fun _ _ h => setQueryStage_ranged stage h)
    fun r _ h => by rwa [setQueryStage_rescue]

theorem enqueueQuery_gentle (i : Nat) {s : State} (h : s.scheduler.queries.length < Config.queryRoom) :
    s.Gentle (enqueueQuery s i) :=
  State.Gentle.trans (t := { s with scheduler.queries := s.scheduler.queries ++ [QueryEntry.mk i false] })
    (.side fun hf => { hf with queries := by simpa using h }) (modify_setQueryStage_gentle i _ _)

@[simp] theorem modifyRecord_scheduler (i : Nat) (f : Consumer → Consumer) (s : State) :
    (s.modifyRecord i f).scheduler = s.scheduler := by
  unfold State.modifyRecord; split <;> rfl

theorem enqueueQuery_queries (i : Nat) (s : State) :
    (enqueueQuery s i).scheduler.queries = s.scheduler.queries ++ [QueryEntry.mk i false] :=
  congrArg Scheduler.queries (modifyRecord_scheduler i _ _)

/-- Records enter the query queue gently as long as it has room for them. -/
theorem foldl_enqueueQuery_gentle (l : List Nat) (s : State)
    (h : s.scheduler.queries.length + l.length ≤ Config.queryRoom) : s.Gentle (l.foldl enqueueQuery s) := by
  induction l generalizing s with
  | nil => exact .refl s
  | cons i l ih =>
    rw [List.length_cons] at h
    refine (enqueueQuery_gentle i (by omega)).trans (ih _ ?_)
    simp only [enqueueQuery_queries, List.length_append, List.length_cons, List.length_nil]
    omega

theorem fill_gentle (s : State) : s.Gentle (fill s) := by
  unfold fill
  by_cases h : s.scheduler.queries.length ≤ Config.queryRoom
  · refine foldl_enqueueQuery_gentle _ s ?_
    have := List.length_take_le (Config.queryRoom - s.scheduler.queries.length)
      (s.indicesWhere fun _ r => r.state.waiting)
    omega
  · rw [Nat.sub_eq_zero_of_le (by omega), List.take_zero]
    exact .refl s

theorem noticeSilent_gentle (i : Nat) (cause : Byte) (s : State) : s.Gentle (noticeSilent i cause s) :=
  raiseNotice_gentle _ _ s

theorem lowerDeadline_gist (r : Consumer) : (lowerDeadline r).gist = r.gist := by
  unfold lowerDeadline
  split
  · exact withQuery_gist r _
  · rfl

theorem lowerDeadlines_gentle (s : State) :
    s.Gentle { s with tables.consumers := s.tables.consumers.map fun r => r.map lowerDeadline } := by
  refine mapRecords_gentle lowerDeadline_gist (fun r h => ?_) fun r => ?_
  · unfold lowerDeadline
    split
    · exact { h with }
    · exact h
  · unfold lowerDeadline
    split <;> rfl

theorem staleFrame_gentle (s : State) : s.Gentle (staleFrame s) := countStaleFrame_gentle s

theorem querySent_gentle (tag : Byte) (s : State) : s.Gentle (querySent tag s) := by
  unfold querySent
  split
  · rename_i e rest hq
    split
    · refine State.Gentle.trans (t := { s with scheduler.queries := rest }) (.side fun h => ?_)
        (modify_setQueryStage_gentle _ _ _)
      have := h.queries
      rw [hq, List.length_cons] at this
      exact { h with queries := by dsimp only; omega }
    · exact .refl s
  · exact .refl s

/-! ### Forward queues and grants -/

theorem forwardDown_gentle (f : Frame) (s : State) : s.Gentle (forwardDown f s) := by
  unfold forwardDown
  split
  · rename_i h
    exact .side fun hf => { hf with downForward := by simpa using h }
  · exact countDownDrop_gentle s

theorem forwardUp_gentle (f : Frame) (s : State) : s.Gentle (forwardUp f s) := by
  unfold forwardUp
  split
  · rename_i h
    exact .side fun hf => { hf with upForward := by simpa using h }
  · exact countUpDrop_gentle s

theorem burstAfter_le {n : Nat} (h : n ≤ 16) (forward : List Frame) : burstAfter n forward ≤ 16 := by
  unfold burstAfter
  split
  · omega
  · exact raise_le h

theorem startDown_gentle (o : Source) (f : Frame) (s : State) : s.Gentle (startDown o f s) :=
  .side fun h => { h with downBurst := burstAfter_le h.downBurst _ }

theorem startUp_gentle (o : Source) (f : Frame) (s : State) : s.Gentle (startUp o f s) :=
  .side fun h => { h with upBurst := burstAfter_le h.upBurst _ }

theorem grantMark_gentle (s : State) : s.Gentle (grantMark s) := .side fun h => { h with }

theorem grantForwardDown_gentle (s : State) : s.Gentle (grantForwardDown s) := by
  unfold grantForwardDown
  split
  · rename_i f rest h
    refine .side fun hf => ?_
    have := hf.downForward
    rw [h, List.length_cons] at this
    exact { hf with downForward := by dsimp only; omega, downBurst := Nat.zero_le _ }
  · exact .refl s

theorem grantForwardUp_gentle (s : State) : s.Gentle (grantForwardUp s) := by
  unfold grantForwardUp
  split
  · rename_i f rest h
    refine .side fun hf => ?_
    have := hf.upForward
    rw [h, List.length_cons] at this
    exact { hf with upForward := by dsimp only; omega, upBurst := Nat.zero_le _ }
  · exact .refl s

theorem nextTag_ne_zero (t : Byte) : nextTag t ≠ 0 := by
  unfold nextTag
  split <;> bv_omega

/-- A grant to a head of the query queue that is there. -/
theorem grantQuery_gentle {e : QueryEntry} {s : State} (h : s.scheduler.queries ≠ []) :
    s.Gentle (grantQuery e s) := by
  refine State.Gentle.trans (.side fun hf => ?_) (startDown_gentle _ _ _)
  have hlen := hf.queries
  have hpos : 0 < s.scheduler.queries.length := List.length_pos_iff.mpr h
  refine { hf with queries := ?_, tag := nextTag_ne_zero _ }
  simp only [List.length_cons, List.length_tail]
  omega

theorem queryHead_ne_nil {s : State} {e : QueryEntry} (h : s.queryHead = some e) : s.scheduler.queries ≠ [] := by
  intro hn
  simp [State.queryHead, hn] at h

theorem grantBelowOrder_gentle (s : State) : s.Gentle (grantBelowOrder s) := by
  unfold grantBelowOrder
  split
  · rename_i h
    exact grantQuery_gentle (queryHead_ne_nil h)
  · exact grantForwardDown_gentle s

theorem grantNotice_gentle (s : State) : s.Gentle (grantNotice s) := by
  unfold grantNotice
  split
  · rename_i n rest h
    refine State.Gentle.trans (t := { s with ports.notices := rest }) (.side fun hf => ?_) (startUp_gentle _ _ _)
    have := hf.notices
    rw [h, List.length_cons] at this
    exact { hf with notices := by dsimp only; omega }
  · exact grantForwardUp_gentle s

theorem grantUp_gentle (s : State) : s.Gentle (grantUp s) := by
  unfold grantUp
  split
  · unfold chooseUp
    split
    · exact grantForwardUp_gentle s
    · split
      · rename_i f rest h
        refine State.Gentle.trans (t := { s with ports.responses := rest }) (.side fun hf => ?_)
          (startUp_gentle _ _ _)
        have := hf.responses
        rw [h, List.length_cons] at this
        exact { hf with responses := by dsimp only; omega }
      · exact grantNotice_gentle s
  · exact .refl s

theorem endDown_gentle (s : State) : s.Gentle (endDown s) := .side fun h => { h with }
theorem endUp_gentle (s : State) : s.Gentle (endUp s) := .side fun h => { h with }

/-! ### Phase Supervision -/

theorem setWatch_gentle (p : Phase) (w : PhaseWatch) (s : State) : s.Gentle (s.setWatch p w) :=
  .side fun h => { h with }

theorem driveSelectLines_gentle (s : State) : s.Gentle (driveSelectLines s) := .side fun h => { h with }

theorem noticeCondition_gentle (p : Phase) (left entered : Condition) (cause : ConditionCause) (s : State) :
    s.Gentle (noticeCondition p left entered cause s) := by
  unfold noticeCondition
  dsimp only
  split
  · exact queueNotice_gentle _ _ s
  · exact queueNotice_gentle _ _ s
  · split
    · exact raiseNotice_gentle _ _ s
    · exact .refl s
  · split
    · exact raiseNotice_gentle _ _ s
    · exact .refl s
  · exact raiseNotice_gentle _ _ s
  · exact .refl s

theorem rescueOnCondition_gentle (p : Phase) (left entered : Condition) (s : State) :
    s.Gentle (rescueOnCondition p left entered s) := by
  unfold rescueOnCondition
  split
  · exact rescueTrigger_gentle p s
  · exact rescueTrigger_gentle p s
  · exact rescueRecovery_gentle p s
  · exact .refl s

theorem changeCondition_gentle (p : Phase) (entered : Condition) (cause : ConditionCause) (s : State) :
    s.Gentle (changeCondition p entered cause s) := by
  unfold changeCondition
  dsimp only
  refine (setWatch_gentle p { s.watch p with condition := entered } s).trans ?_
  split
  · exact (noticeCondition_gentle _ _ _ _ _).trans (rescueOnCondition_gentle _ _ _ _)
  · exact (rescueOnCondition_gentle _ _ _ _).trans (noticeCondition_gentle _ _ _ _ _)

theorem onFilteredLevel_gentle (p : Phase) (s : State) : s.Gentle (onFilteredLevel p s) := by
  unfold onFilteredLevel
  dsimp only
  split
  · exact changeCondition_gentle _ _ _ s
  · exact changeCondition_gentle _ _ _ s
  · exact changeCondition_gentle _ _ _ s
  · split
    · exact changeCondition_gentle _ _ _ s
    · exact .refl s
  · exact .refl s

theorem filteredLevelChange_gentle (p : Phase) (s : State) : s.Gentle (filteredLevelChange p s) := by
  unfold filteredLevelChange
  dsimp only
  split
  · exact (setWatch_gentle p _ s).trans (onFilteredLevel_gentle p _)
  · exact .refl s

theorem samplePhase_gentle (level : Bool) (p : Phase) (s : State) : s.Gentle (samplePhase level p s) := by
  unfold samplePhase
  dsimp only
  split
  · exact setWatch_gentle p _ s
  · exact (setWatch_gentle p _ s).trans (filteredLevelChange_gentle p _)

theorem sampleAll_gentle (s : State) : s.Gentle (sampleAll s) :=
  .foldl _ (fun t p => samplePhase_gentle _ p t) _ s

theorem onPresence_gentle (p : Phase) (s : State) : s.Gentle (onPresence p s) := by
  unfold onPresence
  dsimp only
  split
  · split
    · exact changeCondition_gentle _ _ _ s
    · exact .refl s
  all_goals
    split
    · exact .refl s
    · exact changeCondition_gentle _ _ _ s

theorem sagDelayReached_gentle (p : Phase) (s : State) : s.Gentle (sagDelayReached p s) := by
  unfold sagDelayReached
  split
  · split
    · exact changeCondition_gentle _ _ _ s
    · exact .refl s
  all_goals exact .refl s

theorem holdReached_gentle (p : Phase) (s : State) : s.Gentle (holdReached p s) := by
  unfold holdReached
  dsimp only
  split
  · split
    · exact changeCondition_gentle _ _ _ s
    · exact .refl s
  all_goals exact .refl s

theorem conditionAtCycleEnd_gentle (began : PerPhase PhaseWatch) (p : Phase) (s : State) :
    s.Gentle (conditionAtCycleEnd began p s) := by
  unfold conditionAtCycleEnd
  dsimp only
  split
  · split
    · exact .refl s
    · exact (setWatch_gentle p _ s).trans (sagDelayReached_gentle p _)
    · exact onPresence_gentle p s
    · split
      · exact .refl s
      · exact (setWatch_gentle p _ s).trans (holdReached_gentle p _)
  · exact onPresence_gentle p s

theorem presenceUpdates_gentle (s : State) : s.Gentle (presenceUpdates s) :=
  .foldl _ (fun t p => setWatch_gentle p _ t) _ s

theorem conditionsAtCycleEnd_gentle (began : PerPhase PhaseWatch) (s : State) :
    s.Gentle (conditionsAtCycleEnd began s) :=
  .foldl _ (fun t p => conditionAtCycleEnd_gentle began p t) _ s

theorem presenceChange_gentle (p : Phase) (s : State) : s.Gentle (presenceChange p s) := by
  unfold presenceChange
  dsimp only
  split
  · exact .refl s
  · exact (setWatch_gentle p _ s).trans (onPresence_gentle p _)

theorem markEdge_gentle (p : Phase) (s : State) : s.Gentle (markEdge p s) := setWatch_gentle p _ s

theorem supervisionBlock_gentle (how : CycleEnd) (s : State) : s.Gentle (supervisionBlock how s) := by
  have hboth (began : PerPhase PhaseWatch) (t : State) : t.Gentle (sampleAndConditions began t) := by
    unfold sampleAndConditions
    split
    · exact (sampleAll_gentle t).trans (conditionsAtCycleEnd_gentle _ _)
    · exact (conditionsAtCycleEnd_gentle _ t).trans (sampleAll_gentle _)
  unfold supervisionBlock
  dsimp only
  split
  · exact (presenceUpdates_gentle s).trans (conditionsAtCycleEnd_gentle _ _)
  · exact (presenceUpdates_gentle s).trans (hboth _ _)
  · split
    · exact ((sampleAll_gentle s).trans (presenceUpdates_gentle _)).trans (conditionsAtCycleEnd_gentle _ _)
    · exact (presenceUpdates_gentle s).trans (hboth _ _)

/-! ### Measurement Intake -/

theorem Bank.InRange.takeReading {b : Bank} (h : b.InRange) (supply : Bool) (x : Int) :
    (b.takeReading supply (clampLoad x)).InRange := by
  obtain ⟨hcount, hsum⟩ := h
  unfold Bank.takeReading
  split
  · rename_i hroom
    have hlt : b.count < 255 := by simpa using (Bool.and_eq_true_iff.mp hroom).2
    refine ⟨by dsimp only; omega, ?_⟩
    dsimp only
    unfold clampLoad
    omega
  · exact ⟨hcount, hsum⟩

theorem changeOpenBank_gist (second : Bool) (f : Bank → Bank) (r : Consumer) :
    (changeOpenBank second f r).gist = r.gist := by
  unfold changeOpenBank; split <;> rfl

theorem changeOpenBank_rescue (second : Bool) (f : Bank → Bank) (r : Consumer) :
    (changeOpenBank second f r).rescue = r.rescue := by
  unfold changeOpenBank; split <;> rfl

theorem changeOpenBank_ranged (second : Bool) {f : Bank → Bank} (hf : ∀ b : Bank, b.InRange → (f b).InRange)
    {r : Consumer} (h : r.Ranged) : (changeOpenBank second f r).Ranged := by
  unfold changeOpenBank
  split
  · exact { h with secondBank := hf _ h.secondBank }
  · exact { h with firstBank := hf _ h.firstBank }

theorem nextForward_le {divider count : Nat} (hd : divider ≤ 8) (hc : count ≤ 7) : nextForward divider count ≤ 7 := by
  unfold nextForward
  split
  · exact hc
  · split <;> omega

theorem accumulate_gentle (i : Nat) (reading : Word16) (supply : Bool) (s : State) :
    s.Gentle (s.modifyRecord i fun r =>
      { changeOpenBank s.intake.secondOpen (Bank.takeReading supply (clampLoad reading.toInt)) r with
        forward := nextForward s.management.active.divider r.forward }) := by
  refine modifyRecord_gentle (fun r _ => ?_) (fun r hf h => ?_) fun r _ h => ?_
  · exact changeOpenBank_gist _ _ r
  · exact { changeOpenBank_ranged s.intake.secondOpen (fun b hb => hb.takeReading supply reading.toInt) h with
      forward := nextForward_le hf.active.divider_le h.forward }
  · have := changeOpenBank_rescue s.intake.secondOpen (Bank.takeReading supply (clampLoad reading.toInt)) r
    dsimp only
    rwa [this]

theorem closeWindow_gentle (s : State) : s.Gentle (closeWindow s) :=
  .side fun h => { h with window := Nat.zero_le _ }

theorem closeIfDue_gentle (s : State) : s.Gentle (closeIfDue s) := by
  unfold closeIfDue
  split
  · split
    · exact closeWindow_gentle s
    · exact .refl s
  · exact .refl s

theorem intakeAtCycleEnd_gentle (s : State) : s.Gentle (intakeAtCycleEnd s) := by
  refine State.Gentle.trans (.side fun h => ?_) (closeIfDue_gentle _)
  refine { h with window := ?_ }
  have := h.active.window_le
  have := h.window
  dsimp only
  unfold raise
  split <;> omega

/-- A mean of clamped samples is a load in range (R36). -/
theorem Bank.InRange.mean {b : Bank} (h : b.InRange) : (b.sum.tdiv b.count).natAbs ≤ 2000 := by
  rw [Int.natAbs_tdiv, Int.natAbs_natCast]
  exact Nat.div_le_of_le_mul (by rw [Nat.mul_comm]; exact h.2)

/-- A load pulled toward a mean stays between the two (R36). -/
theorem smooth_natAbs_le (shift : Nat) {fresh mean : Int} (hf : fresh.natAbs ≤ 2000) (hm : mean.natAbs ≤ 2000) :
    (smooth shift fresh mean).natAbs ≤ 2000 := by
  have hpow : (0 : Int) < 2 ^ shift := Int.pow_pos (by decide)
  unfold smooth
  rcases Int.le_total 0 (mean - fresh) with h | h
  · have h₀ : 0 ≤ (mean - fresh).tdiv (2 ^ shift) := Int.tdiv_nonneg h hpow.le
    have h₁ : (mean - fresh).tdiv (2 ^ shift) ≤ mean - fresh := Int.tdiv_le_self _ h
    omega
  · have h₀ : 0 ≤ (-(mean - fresh)).tdiv (2 ^ shift) := Int.tdiv_nonneg (by omega) hpow.le
    have h₁ : (-(mean - fresh)).tdiv (2 ^ shift) ≤ -(mean - fresh) := Int.tdiv_le_self _ (by omega)
    rw [Int.neg_tdiv] at h₀ h₁
    omega

theorem Bank.zeroed_inRange : Bank.zeroed.InRange := ⟨by decide, by decide⟩

theorem zeroClosed_ranged (second : Bool) {r : Consumer} (h : r.Ranged) : (zeroClosed second r).Ranged := by
  unfold zeroClosed
  split
  · exact { h with firstBank := Bank.zeroed_inRange }
  · exact { h with secondBank := Bank.zeroed_inRange }

theorem foldRecord_ranged (second : Bool) (shift : Nat) {r : Consumer} (h : r.Ranged) :
    (foldRecord second shift r).Ranged := by
  have hz := zeroClosed_ranged second h
  have hb : (closedBank second r).InRange := by
    unfold closedBank
    split
    · exact h.firstBank
    · exact h.secondBank
  unfold foldRecord
  dsimp only
  split
  · refine { hz with silence := Nat.zero_le _, fresh := ?_ }
    dsimp only
    split
    · exact smooth_natAbs_le shift hz.fresh hb.mean
    · exact hb.mean
  · split
    · exact { hz with silence := Nat.zero_le _ }
    · exact { hz with silence := raise_le hz.silence }

theorem foldRecord_gist (second : Bool) (shift : Nat) (r : Consumer) : (foldRecord second shift r).gist = r.gist := by
  have hz : (zeroClosed second r).gist = r.gist := by unfold zeroClosed; split <;> rfl
  unfold foldRecord
  dsimp only
  split
  · exact hz
  · split <;> exact hz

theorem foldRecord_rescue (second : Bool) (shift : Nat) (r : Consumer) :
    (foldRecord second shift r).rescue = r.rescue := by
  have hz : (zeroClosed second r).rescue = r.rescue := by unfold zeroClosed; split <;> rfl
  unfold foldRecord
  dsimp only
  split
  · exact hz
  · split <;> exact hz

theorem modify_foldRecord_gentle (i : Nat) (second : Bool) (shift : Nat) (s : State) :
    s.Gentle (s.modifyRecord i (foldRecord second shift)) :=
  modifyRecord_gentle (fun r _ => foldRecord_gist second shift r) (fun _ _ h => foldRecord_ranged second shift h)
    fun r _ h => by rwa [foldRecord_rescue]

theorem setFold_gentle (x : Fold) (s : State) : s.Gentle { s with intake.fold := x } := .side fun h => { h with }

/-! ### The Mains Timebase -/

/-- A change of the Mains Timebase that leaves the cycle-mark counter in range. -/
theorem setTimebase_gentle (x : Timebase) (s : State) (hx : s.timebase.markCounter ≤ 255 → x.markCounter ≤ 255) :
    s.Gentle { s with timebase := x } := .side fun h => { h with mark := hx h.mark }

theorem noticeTimebase_gentle (before : SyncState × Phase) (s : State) : s.Gentle (noticeTimebase before s) := by
  unfold noticeTimebase
  split
  · exact .refl s
  · exact raiseNotice_gentle _ _ s

theorem unsyncAtLimit_gentle (s : State) : s.Gentle (unsyncAtLimit s) := by
  unfold unsyncAtLimit
  split
  · exact setTimebase_gentle _ s id
  · exact .refl s

theorem failoverIfDue_gentle (s : State) : s.Gentle (failoverIfDue s) := by
  unfold failoverIfDue
  split
  · exact setTimebase_gentle _ s id
  · exact .refl s

theorem timebaseAtCycleEnd_gentle (how : CycleEnd) (s : State) : s.Gentle (timebaseAtCycleEnd how s) := by
  unfold timebaseAtCycleEnd
  refine .trans ?_ (noticeTimebase_gentle _ _)
  cases how with
  | accepted =>
    dsimp only
    unfold syncAfterAccepted
    split
    · exact setTimebase_gentle _ s id
    · exact .refl s
  | reanchor => exact .refl s
  | synthetic =>
    refine State.Gentle.trans ?_ (failoverIfDue_gentle _)
    unfold syncAfterSynthetic
    split
    · exact setTimebase_gentle _ s id
    · exact unsyncAtLimit_gentle s
    · exact .refl s

theorem markIfDue_gentle (s : State) : s.Gentle (markIfDue s) := by
  unfold markIfDue
  split
  · exact setTimebase_gentle _ s fun _ => Nat.zero_le _
  · exact .refl s

theorem marksAtCycleEnd_gentle (s : State) : s.Gentle (marksAtCycleEnd s) := by
  refine State.Gentle.trans (.side fun h => ?_) (markIfDue_gentle _)
  refine { h with mark := ?_ }
  have := h.active.markInterval_le
  have := h.mark
  dsimp only
  unfold raise
  split <;> omega

theorem setBudgetCounter_gentle (n : Nat) (s : State) : s.Gentle { s with tables.budgetCounter := n } where
  active := rfl
  shadow := rfl
  addressMap := rfl
  size := rfl
  balancer := rfl
  schedule := rfl
  policy := rfl
  gist _ := rfl
  fits h := { h with }
  records _ h := h

theorem budgetIfDue_gentle (s : State) : s.Gentle (budgetIfDue s) := by
  unfold budgetIfDue
  split
  · exact (setBudgetCounter_gentle 0 s).trans
      (mapRecords_gentle (f := fun r => { r with moveCount := 0 }) (fun _ => rfl)
        (fun _ h => { h with moveCount := Nat.zero_le _ }) fun _ => rfl)
  · exact .refl s

theorem budgetAtCycleEnd_gentle (s : State) : s.Gentle (budgetAtCycleEnd s) :=
  (setBudgetCounter_gentle _ s).trans (budgetIfDue_gentle _)

theorem setTick_gentle (n : Nat) (s : State) : s.Gentle (setTick n s) := setTimebase_gentle _ s id

theorem setSagLines_gentle (sag : PhaseSet) (s : State) : s.Gentle (setSagLines sag s) := .side fun h => { h with }

/-! ### Holds, receivers, requests and responses -/

theorem holdWith_gentle (add : ResetSources → ResetSources) (s : State) : s.Gentle (holdWith add s) :=
  .side fun h => { h with }

theorem setReceiver_gentle (port : Port) (x : Receiver) (s : State) : s.Gentle (setReceiver port x s) := by
  cases port <;> exact .side fun h => { h with }

theorem enterRequests_gentle (f : Frame) (s : State) : s.Gentle (enterRequests f s) := by
  unfold enterRequests
  split
  · rename_i h
    exact .side fun hf => { hf with requests := by simpa using h }
  · exact countRequestDrop_gentle s

theorem blockForeign_gentle (i : Nat) (f : Frame) (s : State) : s.Gentle (blockForeign i f s) :=
  (countForeign_gentle s).trans (raiseNotice_gentle _ _ _)

theorem passDown_gentle (f : Frame) (s : State) : s.Gentle (passDown f s) := by
  unfold passDown
  split
  · split
    · exact blockForeign_gentle _ f s
    · exact forwardDown_gentle f s
  · exact forwardDown_gentle f s

/-- A response placed while the response queue has room. -/
theorem respond_gentle (r : Request) (kind : Byte) (result : Result) (data : List Byte) {s : State}
    (h : s.ports.responses.length < Config.responseRoom) : s.Gentle (respond r kind result data s) :=
  .side fun hf => { hf with responses := by simpa [respond] using h }

end Sys2Proof.Machine

namespace Sys2Proof.Machine

/-! ## What a step is made of

Every command runs through gentle changes and a few changes that reach moves, sums or the map. `State.Change` names
them with what holds where each is made; `step_path` says that a step is a run of them. An invariant is then kept by
every step when every change keeps it. -/

/-- A record whose move ends, or that has none, with its ranges kept. -/
structure Consumer.Closes (r r' : Consumer) : Prop where
  address : r'.address = r.address
  segment : r'.segment = r.segment
  still : r'.state.moving = false
  ranged : r.Ranged → r'.Ranged
  rescue : r'.rescue = r.rescue

/-- What a WRITE CONSUMER that is not refused carries (R16). -/
structure ConsumerWrite.Sound (w : ConsumerWrite) : Prop where
  address : 1 ≤ w.address.toNat ∧ w.address.toNat ≤ 239
  segment : w.segment < Config.segments
  allowed : w.allowed.get w.assigned = true
  priority : w.priority ≤ 3

/-- One change that a step is made of. -/
inductive State.Change : State → State → Prop
  /-- A change that moves, sums and the map do not rest on. -/
  | gentle {s t : State} (h : s.Gentle t) : State.Change s t
  /-- An entry takes a stage in which its record's state is the same (R103). -/
  | stage {s : State} {e : MoveEntry} (he : e ∈ s.scheduler.schedule) (st : Stage)
      (hst : st.recordState = e.stage.recordState) : State.Change s (setStage e.consumer st s)
  /-- An ACCEPT is taken (R117). -/
  | accept {s : State} {e : MoveEntry} (he : e ∈ s.scheduler.schedule) (hst : e.stage.takesAnswer = true) :
      State.Change s (acceptEntry e.consumer s)
  /-- An entry is made for a SETTLED record (R109). -/
  | make {s : State} {i : Nat} {r : Consumer} {q : Phase} (o : Origin) (hr : s.record i = some r)
      (hs : r.state = .settled) (hroom : s.scheduler.schedule.length < Config.scheduleRoom) (hq : q ≠ r.assigned)
      (ha : r.allowed.get q = true) : State.Change s (makeEntry o i q s)
  /-- An entry ends and its record with it (R115 to R122). -/
  | close {s : State} (i : Nat) (f : Consumer → Consumer) (hf : ∀ r, s.record i = some r → r.Closes (f r)) :
      State.Change s (closeEntry i f s)
  /-- A record without a move changes its state or its phase. -/
  | change {s : State} (i : Nat) (f : Consumer → Consumer)
      (hf : ∀ r, s.record i = some r → r.state.moving = false ∧ r.Closes (f r)) :
      State.Change s (changeRecord i f s)
  /-- A record that no entry names loses a phase of its allowed set, not its assigned one (R118). -/
  | prune {s : State} {i : Nat} {f : Consumer → Consumer} (hi : ∀ e ∈ s.scheduler.schedule, e.consumer ≠ i)
      (hf : ∀ r, ∃ a : PhaseSet, f r = { r with allowed := a } ∧ a.get r.assigned = r.allowed.get r.assigned) :
      State.Change s (s.modifyRecord i f)
  /-- The Move Schedule at a cycle end (R114, R119, R123). -/
  | cycleEnd {s : State} : State.Change s (scheduleAtCycleEnd s)
  /-- The report deadlines of now (R123). -/
  | reports {s : State} : State.Change s (reportDeadlines s)
  /-- The reply deadlines of now (R119). -/
  | replies {s : State} : State.Change s (replyDeadlines s)
  /-- The adoption that a write while STOPPED makes (R83). -/
  | written {s : State} : State.Change s (afterTableWrite s)
  /-- A pass trigger that is due (R82). -/
  | trigger {s : State} : State.Change s (triggerIfDue s)
  /-- The completion of a fold (R40). -/
  | fold {s : State} : State.Change s (completeFold s)
  /-- A search (R92). -/
  | search {s : State} : State.Change s (searchStep s)
  /-- A pass completion (R94). -/
  | completion {s : State} : State.Change s (completionStep s)
  /-- The balancer takes a state without a pass (R79). -/
  | balancer {s : State} {b : BalancerState} (hb : ∀ pass, b ≠ .evaluating pass) : State.Change s (setBalancer b s)
  /-- A start (R201). -/
  | start {s : State} (sources : ResetSources) (straps : Straps) : State.Change s (startWith sources straps s)
  /-- A segment record is written to the shadow (R5). -/
  | segment {s : State} {i valid parent : Nat} (weight limit : Nat)
      (hr : s.segmentRefusal i valid parent = none) : State.Change s (storeSegment i valid parent weight limit s)
  /-- A consumer record is written (R17, R18). -/
  | consumer {s : State} (i : Nat) (w : ConsumerWrite) (hi : i < Config.consumers) (he : s.engaged i = false)
      (hw : w.Sound) (hm : ∀ j, s.mapped w.address = some j → j = i) : State.Change s (storeConsumer i w s)
  /-- A consumer record is made VACANT (R20). -/
  | vacate {s : State} (i : Nat) (r : Consumer) (hr : s.record i = some r) (he : s.engaged i = false) :
      State.Change s (vacate i r s)

/-- A run of changes. -/
abbrev State.Path (s t : State) : Prop := Relation.ReflTransGen State.Change s t

theorem State.Path.keeps {P : State → Prop} (hP : ∀ s t : State, s.Change t → P s → P t) {s t : State}
    (h : s.Path t) (hs : P s) : P t := by
  induction h with
  | refl => exact hs
  | tail _ hc ih => exact hP _ _ hc ih

theorem State.Gentle.path {s t : State} (h : s.Gentle t) : s.Path t := .single (.gentle h)

/-- A gentle change after a run. -/
theorem State.Path.gently {s t u : State} (h : s.Path t) (k : t.Gentle u) : s.Path u := h.tail (.gentle k)

theorem State.Path.foldl {α : Type} (f : State → α → State) (hf : ∀ (s : State) (a : α), s.Path (f s a))
    (l : List α) (s : State) : s.Path (l.foldl f s) := by
  induction l generalizing s with
  | nil => exact .refl
  | cons a l ih => exact (hf s a).trans (ih (f s a))

/-! ### Entries and draws -/

theorem close_still {st : RecordState} (h : st.moving = false) (r : Consumer) : r.Closes { r with state := st } :=
  ⟨rfl, rfl, h, fun h => { h with }, rfl⟩

theorem close_settled (r : Consumer) : r.Closes { r with state := .settled } := close_still rfl r

theorem withdraw_path (reason : Byte) (e : MoveEntry) (s : State) : s.Path (withdraw reason e s) := by
  unfold withdraw noticeMoveFailed
  refine .gently (.gently ?_ (raiseNotice_gentle _ _ _)) (handOverEnd_gentle e _)
  exact .single (.close e.consumer _ fun r _ => close_settled r)

theorem withdrawTooNear_path (s : State) : s.Path (withdrawTooNear s) :=
  .foldl _ (fun t e => withdraw_path _ e t) _ s

/-- A closed entry has left the schedule. -/
theorem closeEntry_schedule (i : Nat) (f : Consumer → Consumer) (s : State) :
    (closeEntry i f s).scheduler
      = { s.scheduler with schedule := s.scheduler.schedule.filter fun e => e.consumer != i } := by
  obtain ⟨sums, e⟩ := recontribute_sums i (fun s => (removeEntry i s).modifyRecord i f) s
  rw [closeEntry, e]
  exact modifyRecord_scheduler i f _

theorem raiseNotice_scheduler (k : NoticeKind) (x : List Byte) (s : State) :
    (raiseNotice k x s).scheduler = s.scheduler := by
  obtain ⟨_, _, e⟩ := raiseNotice_eq k x s
  rw [e]

theorem PerPhase.get_set_ne {t : PhaseSet} {p q : Phase} {x : Bool} (h : p ≠ q) : (t.set q x).get p = t.get p :=
  PerPhase.get_set_other t x h

/-- A refused entry closed, with its notice (R118). -/
def closeRefused (reason : Byte) (e : MoveEntry) (s : State) : State :=
  noticeMoveFailed e .answer reason none (closeEntry e.consumer (fun r => { r with state := .settled }) s)

/-- The target taken out of the allowed set of a record that is not on it (R13, R118). -/
def unwire (target : Phase) (r : Consumer) : Consumer :=
  if r.assigned != target then { r with allowed := r.allowed.set target false } else r

/-- The wiring learned from a refusal, with its notice (R118). -/
def learnWiring (e : MoveEntry) (s : State) : State :=
  let t := s.modifyRecord e.consumer (unwire e.target)
  raiseNotice .wiringLearned
    [byte e.consumer, t.addressOf e.consumer, phaseCode e.target,
      match t.record e.consumer with
        | some r => phaseSetCode r.allowed
        | none => 0] t

theorem refuseEntry_eq (reason : Byte) (e : MoveEntry) (s : State) :
    refuseEntry reason e s
      = handOverEnd e
        (if reason = 2 then learnWiring e (closeRefused reason e s) else closeRefused reason e s) := by
  unfold refuseEntry reasonNotWired
  by_cases h : reason = 2
  · subst h
    rfl
  · have hf : (reason == 2) = false := by simpa using h
    simp only [hf, Bool.false_eq_true, if_false, if_neg h]
    rfl

theorem closeRefused_path (reason : Byte) (e : MoveEntry) (s : State) : s.Path (closeRefused reason e s) := by
  unfold closeRefused noticeMoveFailed
  refine .gently ?_ (raiseNotice_gentle _ _ _)
  exact .single (.close e.consumer _ fun r _ => close_settled r)

theorem closeRefused_scheduler (reason : Byte) (e : MoveEntry) (s : State) :
    (closeRefused reason e s).scheduler
      = { s.scheduler with schedule := s.scheduler.schedule.filter fun x => x.consumer != e.consumer } :=
  (raiseNotice_scheduler _ _ _).trans (closeEntry_schedule _ _ s)

theorem unwire_spec (target : Phase) (r : Consumer) :
    ∃ a : PhaseSet, unwire target r = { r with allowed := a } ∧ a.get r.assigned = r.allowed.get r.assigned := by
  unfold unwire
  split
  · rename_i h
    exact ⟨r.allowed.set target false, rfl, PerPhase.get_set_ne (by simpa using h)⟩
  · exact ⟨r.allowed, rfl, rfl⟩

theorem refuseEntry_path (reason : Byte) (e : MoveEntry) (s : State) : s.Path (refuseEntry reason e s) := by
  rw [refuseEntry_eq]
  refine .gently ?_ (handOverEnd_gentle e _)
  split
  · unfold learnWiring
    dsimp only
    refine .gently ((closeRefused_path reason e s).tail (.prune (fun x hx => ?_) (unwire_spec e.target)))
      (raiseNotice_gentle _ _ _)
    rw [closeRefused_scheduler] at hx
    simpa using (List.mem_filter.mp hx).2
  · exact closeRefused_path reason e s

theorem reportFaulted_path (e : MoveEntry) (s : State) : s.Path (reportFaulted e s) := by
  unfold reportFaulted noticeConsumerFault
  refine .gently (.gently ?_ (raiseNotice_gentle _ _ _)) (handOverEnd_gentle e _)
  exact .single (.close e.consumer _ fun r _ => close_still rfl r)

theorem settleReported_closes (e : MoveEntry) (p : Phase) (cycle : Word32) (r : Consumer) :
    r.Closes (settleReported e p cycle r) := by
  unfold settleReported
  dsimp only
  split
  · exact ⟨rfl, rfl, rfl, fun h => { h with allowed := PerPhase.get_set_same .. }, rfl⟩
  · exact ⟨rfl, rfl, rfl,
      fun h => { h with allowed := PerPhase.get_set_same .., moveCount := raise_le h.moveCount }, rfl⟩

theorem reportSettled_path (e : MoveEntry) (p : Phase) (outcome reason : Byte) (s : State) :
    s.Path (reportSettled e p outcome reason s) := by
  unfold reportSettled
  dsimp only
  refine .gently ?_ (handOverEnd_gentle e _)
  have hclosed : s.Path (closeEntry e.consumer (settleReported e p s.timebase.cycleCount) s) :=
    .single (.close e.consumer _ fun r _ => settleReported_closes e p _ r)
  split
  · exact hclosed.gently (raiseNotice_gentle _ _ _)
  · exact hclosed.gently (raiseNotice_gentle _ _ _)

theorem lowestPhase_mem {load : Phase → Int} {l : List Phase} {q : Phase} (h : lowestPhase load l = some q) : q ∈ l :=
  (lowestPhase_spec load h).1

/-- The target of a draw is an allowed phase other than the record's own (R151). -/
theorem drawTarget_spec {s : State} {r : Consumer} {q : Phase} (h : s.drawTarget r = some q) :
    q ≠ r.assigned ∧ r.allowed.get q = true := by
  have hmem : q ∈ s.drawTargets r := by
    unfold State.drawTarget at h
    split at h
    · exact lowestPhase_mem h
    · exact List.mem_of_head? h
  have := (List.mem_filter.mp hmem).2
  simp only [Bool.and_eq_true, bne_iff_ne] at this
  exact ⟨this.2, this.1.1⟩

/-- A listed record leaves the list with one attempt more made (R151). -/
theorem drawn_gentle {i : Nat} {s : State} (hi : i ∈ s.rescue.list) :
    s.Gentle ((unlist i s).modifyRecord i fun r => { r with rescue := raiseAttempts r.assigned r.rescue }) := by
  have hrec := record_modifyRecord (unlist i s) i
  have hstep : (unlist i s).record = s.record := rfl
  obtain ⟨l, hl, e⟩ := modifyRecord_eq i (fun r => { r with rescue := raiseAttempts r.assigned r.rescue }) (unlist i s)
  have hfits : s.Fits → State.Fits { unlist i s with tables.consumers := l } := fun h =>
    ((unlist_gentle i s).fits h).withConsumers hl
  have hgist : ∀ j, (State.record { unlist i s with tables.consumers := l } j).map Consumer.gist
      = (s.record j).map Consumer.gist := fun j => by
    rw [← e, hrec, hstep]
    split
    · cases s.record j <;> rfl
    · rfl
  have hrecords : s.Fits → s.RecordsRight → State.RecordsRight { unlist i s with tables.consumers := l } :=
    fun hf h => by
      have hu := (State.recordsRight_iff _).mp ((unlist_gentle i s).records hf h)
      rw [State.recordsRight_iff] at h ⊢
      intro j r hj
      rw [← e, hrec, hstep] at hj
      by_cases hij : i = j
      · subst hij
        rw [if_pos rfl, Option.map_eq_some_iff] at hj
        obtain ⟨r, hr, rfl⟩ := hj
        refine ⟨{ (h i r hr).1 with }, fun m hm => ⟨?_, fun hmem => ?_⟩⟩
        · dsimp only at hm
          unfold raiseAttempts at hm
          split at hm
          · rename_i m' hm'
            cases hm
            have := ((h i r hr).2 m' hm').2 hi
            dsimp only
            omega
          · cases hm
            exact Nat.le_succ 1
        · exact absurd rfl ((mem_unlist i i s).mp hmem).2
      · rw [if_neg hij] at hj
        exact hu j r hj
  rw [e]
  exact ⟨rfl, rfl, rfl, hl, rfl, rfl, rfl, hgist, hfits, hrecords⟩

theorem isSettled_eq {s : State} {i : Nat} {r : Consumer} (h : s.isSettled i = true) (hr : s.record i = some r) :
    r.state = .settled := by
  simpa [State.isSettled, hr] using h

theorem draw_path {i : Nat} {s : State} (hi : i ∈ s.rescue.list) (hs : s.isSettled i = true)
    (hroom : s.scheduler.schedule.length < Config.scheduleRoom) : s.Path (draw i s) := by
  unfold draw
  split
  · exact (unlist_gentle i s).path
  · rename_i r hr
    split
    · exact (((unlist_gentle i s).trans (countUnrescuable_gentle _)).trans (closeTest_gentle _)).path
    · rename_i q hq
      obtain ⟨hne, hallowed⟩ := drawTarget_spec hq
      have hsettled : r.state = .settled := isSettled_eq hs hr
      refine .tail (drawn_gentle hi).path (.make .rescue (r := { r with rescue := raiseAttempts r.assigned r.rescue })
        ?_ hsettled ?_ hne hallowed)
      · rw [record_modifyRecord, if_pos rfl, show (unlist i s).record i = some r from hr]
        rfl
      · rw [modifyRecord_scheduler]
        exact hroom

theorem drawUpTo_path (n : Nat) (s : State) : s.Path (drawUpTo n s) := by
  induction n generalizing s with
  | zero => exact .refl
  | succ n ih =>
    unfold drawUpTo
    split
    · rename_i hd
      have hroom : s.scheduler.schedule.length < Config.scheduleRoom := by
        unfold State.drawsAllowed at hd
        simp only [Bool.and_eq_true, decide_eq_true_eq] at hd
        exact hd.1.1.2
      split
      · rename_i i hi
        exact (draw_path (List.mem_of_find?_eq_some hi) (List.find?_some hi) hroom).trans (ih _)
      · exact .refl
    · exact .refl

theorem draws_path (s : State) : s.Path (draws s) := drawUpTo_path _ s

/-! ### Grants and the end of an event -/

theorem earliestWaiting_spec {s : State} {e : MoveEntry} (h : s.earliestWaiting = some e) :
    e ∈ s.scheduler.schedule ∧ e.stage = .queued false :=
  ⟨List.mem_of_find?_eq_some h, by simpa [MoveEntry.waits] using List.find?_some h⟩

theorem grantOrder_path (s : State) : s.Path (grantOrder s) := by
  unfold grantOrder
  dsimp only
  refine (withdrawTooNear_path s).trans ?_
  split
  · rename_i e he
    obtain ⟨hmem, hst⟩ := earliestWaiting_spec he
    exact .trans (.single (.stage hmem (.queued true) (by rw [hst]; rfl))) (startDown_gentle _ _ _).path
  · exact (grantBelowOrder_gentle _).path

theorem grantDown_path (s : State) : s.Path (grantDown s) := by
  unfold grantDown
  split
  · unfold chooseDown
    split
    · exact (grantMark_gentle s).path
    · split
      · exact (grantForwardDown_gentle s).path
      · split
        · exact grantOrder_path s
        · exact (grantBelowOrder_gentle s).path
  · exact .refl

theorem finish_path (s : State) : s.Path (finish s) :=
  (((((draws_path s).trans (fill_gentle _).path).trans (grantDown_path _)).trans (draws_path _)).trans
    (grantDown_path _)).trans (grantUp_gentle _).path

/-! ### Phase queries -/

theorem withQuery_gentle (i : Nat) (q : Query) (s : State) :
    s.Gentle (s.modifyRecord i fun r => { r with state := r.state.withQuery q }) :=
  modifyRecord_gentle (fun r _ => withQuery_gist r q) (fun _ _ h => { h with }) fun _ _ h => h

/-- A record goes SILENT that has no move. -/
theorem goSilent_path {i : Nat} {s : State} (h : ∀ r, s.record i = some r → r.state.moving = false) :
    s.Path (goSilent i s) :=
  .gently (.single (.change i _ fun r hr => ⟨h r hr, close_still rfl r⟩)) (leaveQueue_gentle i _)

theorem moving_of_query {st : RecordState} {q : Query} (h : st.query = some q) : st.moving = false := by
  cases st with
  | unverified q' => rfl
  | querying q' => rfl
  | settled => rfl
  | silent => rfl
  | faulted reason => rfl
  | ordered => cases h
  | accepted => cases h

theorem moving_withQuery (st : RecordState) (q : Query) : (st.withQuery q).moving = st.moving := by
  cases st <;> rfl

theorem spendTry_path (i : Nat) (s : State) : s.Path (spendTry s i) := by
  unfold spendTry
  split
  · rename_i q hq
    split
    · refine (withQuery_gentle i ⟨.waiting, 0⟩ s).path.trans ?_
      refine (goSilent_path fun r' hr' => ?_).trans
        ((noticeSilent_gentle i _ _).trans (noteOutOfService_gentle i _)).path
      rw [record_modifyRecord, if_pos rfl, Option.map_eq_some_iff] at hr'
      obtain ⟨r, hr, rfl⟩ := hr'
      rw [hr] at hq
      exact (moving_withQuery _ _).trans (moving_of_query hq)
    · exact (withQuery_gentle i _ s).path
  · exact .refl

theorem queryDeadlines_path (s : State) : s.Path (queryDeadlines s) :=
  .foldl _ (fun t i => spendTry_path i t) _ s

theorem queriesAtCycleEnd_path (s : State) : s.Path (queriesAtCycleEnd s) :=
  (lowerDeadlines_gentle s).path.trans (queryDeadlines_path _)

theorem settleOn_closes (p : Phase) (r : Consumer) : r.Closes (settleOn p r) :=
  ⟨rfl, rfl, rfl, fun h => { h with allowed := PerPhase.get_set_same .. }, rfl⟩

theorem markHeard_gentle (i : Nat) (second : Bool) (s : State) :
    s.Gentle (s.modifyRecord i (changeOpenBank second fun b => { b with heard := true })) :=
  modifyRecord_gentle (fun r _ => changeOpenBank_gist second _ r)
    (fun _ _ h => changeOpenBank_ranged second (f := fun b => { b with heard := true }) (fun b hb => ⟨hb.1, hb.2⟩) h)
    fun r _ h => by rwa [changeOpenBank_rescue]

section
variable {i : Nat} {s : State} (h : ∀ r, s.record i = some r → r.state.moving = false)
include h

theorem settleByAnswer_path (p : Phase) : s.Path (settleByAnswer i p s) := by
  unfold settleByAnswer
  refine .gently (.gently (.gently ?_ (leaveQueue_gentle i _)) (markHeard_gentle i _ _)) (noteSettlement_gentle i _)
  exact .single (.change i _ fun r hr => ⟨h r hr, settleOn_closes p r⟩)

theorem settleByLateReport_path (p : Phase) : s.Path (settleByLateReport i p s) := by
  unfold settleByLateReport
  refine .gently (.gently ?_ (leaveQueue_gentle i _)) (noteSettlement_gentle i _)
  exact .single (.change i _ fun r hr => ⟨h r hr, settleOn_closes p r⟩)

theorem faultByFrame_path (reason : FaultReason) (tag : Byte) : s.Path (faultByFrame i reason tag s) := by
  unfold faultByFrame noticeConsumerFault
  refine .gently (.gently (.gently ?_ (leaveQueue_gentle i _)) (raiseNotice_gentle _ _ _))
    (noteOutOfService_gentle i _)
  exact .single (.change i _ fun r hr => ⟨h r hr, close_still rfl r⟩)

theorem silentAtFold_path : s.Path (silentAtFold i s) := by
  unfold silentAtFold
  dsimp only
  refine (goSilent_path h).trans (.trans ?_ (dropChoice_gentle _).path)
  split
  · exact ((noticeSilent_gentle i _ _).trans (noteOutOfService_gentle i _)).path
  · exact ((noteOutOfService_gentle i _).trans (noticeSilent_gentle i _ _)).path

end

theorem takePhaseAnswer_path (src tag : Byte) (payload : List Byte) (s : State) :
    s.Path (takePhaseAnswer src tag payload s) := by
  unfold takePhaseAnswer
  split
  · rename_i i phaseNow supply _
    split
    · exact (staleFrame_gentle s).path
    · split
      · rename_i hq
        have hstill : ∀ r, s.record i = some r → r.state.moving = false := fun r hr => by
          rw [hr] at hq
          exact moving_of_query hq
        split
        · split
          · exact settleByAnswer_path hstill _
          · exact faultByFrame_path hstill _ _
        · exact (staleFrame_gentle s).path
      · exact (staleFrame_gentle s).path
  · exact (staleFrame_gentle s).path

theorem matchedEntry_spec {s : State} {i : Nat} {tag : Byte} {e : MoveEntry} (h : s.matchedEntry i tag = some e) :
    e ∈ s.scheduler.schedule ∧ e.consumer = i ∧ e.tag = tag :=
  ⟨List.mem_of_find?_eq_some h, by simpa using List.find?_some h⟩

theorem takeTransferAnswer_path (src tag : Byte) (payload : List Byte) (s : State) :
    s.Path (takeTransferAnswer src tag payload s) := by
  unfold takeTransferAnswer
  split
  · split
    · rename_i e he
      obtain ⟨hmem, hi, -⟩ := matchedEntry_spec he
      split
      · exact (staleFrame_gentle s).path
      · rename_i hst
        split
        · rw [← hi]
          exact .single (.accept hmem (by simpa using hst))
        · split
          · exact refuseEntry_path _ e s
          · exact (staleFrame_gentle s).path
    · exact (staleFrame_gentle s).path
  · exact (staleFrame_gentle s).path

theorem takeLateReport_path (i : Nat) (tag phaseNow : Byte) (s : State) :
    s.Path (takeLateReport i tag phaseNow s) := by
  unfold takeLateReport
  split
  · rename_i r hr
    split
    · rename_i q hq
      have hstill : ∀ r', s.record i = some r' → r'.state.moving = false := fun r' hr' => by
        rw [hr] at hr'
        cases hr'
        rw [hq]
        rfl
      split
      · split
        · exact settleByLateReport_path hstill _
        · exact faultByFrame_path hstill _ _
      · exact (staleFrame_gentle s).path
    · exact (staleFrame_gentle s).path
  · exact (staleFrame_gentle s).path

theorem takeTransferReport_path (src tag : Byte) (payload : List Byte) (s : State) :
    s.Path (takeTransferReport src tag payload s) := by
  unfold takeTransferReport
  split
  · split
    · exact (staleFrame_gentle s).path
    · split
      · split
        · exact (staleFrame_gentle s).path
        · split
          · exact reportSettled_path _ _ _ _ s
          · exact reportFaulted_path _ s
      · exact takeLateReport_path _ _ _ s
  · exact (staleFrame_gentle s).path

theorem orderSent_path (s : State) : s.Path (orderSent s) := by
  unfold orderSent
  split
  · rename_i e he
    have hst : e.stage = .queued true := by simpa using List.find?_some he
    have hstate : (if ahead e.execute s.now then Stage.sent else Stage.unconfirmed).recordState
        = e.stage.recordState := by
      rw [hst]
      split <;> rfl
    refine .gently (.single (.stage (List.mem_of_find?_eq_some he) _ hstate)) ?_
    exact modifyRecord_gentle (fun _ _ => rfl) (fun _ _ h => { h with }) fun _ _ h => h
  · exact .refl

/-! ### Readings and the fold -/

theorem return_closes (q : Query) (r : Consumer) : r.Closes { r with state := .unverified q, silence := 0 } :=
  ⟨rfl, rfl, rfl, fun h => { h with silence := Nat.zero_le _ }, rfl⟩

theorem returnToService_path {i : Nat} {s : State} (h : s.isSilent i = true) : s.Path (returnToService i s) := by
  unfold returnToService
  dsimp only
  refine .gently (.gently ?_ (raiseNotice_gentle _ _ _)) (insertByHandOver_gentle i _)
  refine .single (.change i _ fun r hr => ⟨?_, return_closes _ r⟩)
  have : r.state = .silent := by simpa [State.isSilent, hr] using h
  rw [this]
  rfl

theorem takeReading_path (i : Nat) (f : Frame) (reading : Word16) (supply : Bool) (s : State) :
    s.Path (takeReading i f reading supply s) := by
  have hback : s.Path (if s.isSilent i then returnToService i s else s) := by
    split
    · rename_i h
      exact returnToService_path h
    · exact .refl
  unfold takeReading
  dsimp only
  generalize (if s.isSilent i then returnToService i s else s) = t at hback
  refine hback.trans ((accumulate_gentle i reading supply t).path.trans ?_)
  split
  · exact (forwardUp_gentle f _).path
  · exact .refl

theorem foldRecord_state (second : Bool) (shift : Nat) (r : Consumer) : (foldRecord second shift r).state = r.state := by
  have hz : (zeroClosed second r).state = r.state := by unfold zeroClosed; split <;> rfl
  unfold foldRecord
  dsimp only
  split
  · exact hz
  · split <;> exact hz

theorem foldAt_path (shift limit i : Nat) (s : State) : s.Path (foldAt shift limit i s) := by
  unfold foldAt
  split
  · rename_i r hr
    dsimp only
    refine (modify_foldRecord_gentle i s.intake.secondOpen shift s).path.trans ?_
    split
    · rename_i hsil
      refine silentAtFold_path fun r' hr' => ?_
      rw [record_modifyRecord, if_pos rfl, hr, Option.map_some, Option.some.injEq] at hr'
      rw [← hr', foldRecord_state]
      unfold foldSilences at hsil
      revert hsil
      cases r.state <;> simp [RecordState.moving]
    · exact .refl
  · exact .refl

theorem foldStep_path (s : State) : s.Path (foldStep s) := by
  unfold foldStep
  split
  · rename_i i shift limit _
    dsimp only
    refine (foldAt_path shift limit i s).trans ?_
    split
    · exact (setFold_gentle _ _).path
    · exact .single .fold
  · exact .refl

theorem completeIfPast_path (s : State) : s.Path (completeIfPast s) := by
  unfold completeIfPast
  split
  · split
    · exact .single .fold
    · exact .refl
  · exact .refl

/-! ### Cycle ends and the running of the tick counter -/

theorem schedulerAtCycleEnd_path (s : State) : s.Path (schedulerAtCycleEnd s) := by
  unfold schedulerAtCycleEnd
  refine .trans ?_ (expireLatest_gentle _).path
  split
  · exact .trans (.single .cycleEnd) (queriesAtCycleEnd_path _)
  · exact (queriesAtCycleEnd_path s).trans (.single .cycleEnd)

theorem blocksInOrder_path (order : Config.BlockOrder) (how : CycleEnd) (s : State) :
    s.Path (blocksInOrder order how s) := by
  have t (x : State) : x.Path (timebaseAtCycleEnd how x) := (timebaseAtCycleEnd_gentle how x).path
  have p (x : State) : x.Path (supervisionBlock how x) := (supervisionBlock_gentle how x).path
  have c (x : State) : x.Path (schedulerAtCycleEnd x) := schedulerAtCycleEnd_path x
  cases order with
  | tps => exact ((t s).trans (p _)).trans (c _)
  | tsp => exact ((t s).trans (c _)).trans (p _)
  | pts => exact ((p s).trans (t _)).trans (c _)
  | pst => exact ((p s).trans (c _)).trans (t _)
  | stp => exact ((c s).trans (t _)).trans (p _)
  | spt => exact ((c s).trans (p _)).trans (t _)

theorem cycleEnd_path (how : CycleEnd) (s : State) : s.Path (cycleEnd how s) := by
  unfold cycleEnd
  refine .trans ?_ (blocksInOrder_path _ _ _)
  refine State.Path.gently (.gently (.gently ?_ (budgetAtCycleEnd_gentle _)) (intakeAtCycleEnd_gentle _))
    (marksAtCycleEnd_gentle _)
  exact State.Gentle.path (setTimebase_gentle _ s id)

theorem acceptedCrossing_path (s : State) : s.Path (acceptedCrossing s) := by
  unfold acceptedCrossing
  refine .trans ?_ (cycleEnd_path _ _)
  exact State.Gentle.path (setTimebase_gentle _ s id)

theorem reanchorCrossing_path (s : State) : s.Path (reanchorCrossing s) := by
  unfold reanchorCrossing
  dsimp only
  split
  · refine .trans ?_ (cycleEnd_path _ _)
    exact State.Gentle.path (setTimebase_gentle _ s id)
  · refine .gently ?_ (sampleAll_gentle _)
    exact State.Gentle.path (setTimebase_gentle _ s id)

theorem crossing_path (s : State) : s.Path (crossing s) := by
  unfold crossing
  split
  · exact reanchorCrossing_path s
  · split
    · exact (countGlitch_gentle s).path
    · exact acceptedCrossing_path s

theorem edge_path (line : Phase) (s : State) : s.Path (edge line s) := by
  have judge (x : State) : x.Path (if x.onReference line then crossing x else x) := by
    split
    · exact crossing_path x
    · exact .refl
  unfold edge
  dsimp only
  refine .trans ?_ (dropChoice_gentle _).path
  split
  · exact (markEdge_gentle line s).path.trans (judge _)
  · exact (judge s).trans (markEdge_gentle line _).path

theorem syntheticEnd_path (s : State) : s.Path (syntheticEnd s) := by
  unfold syntheticEnd
  refine .gently (.trans ?_ (cycleEnd_path _ _)) (dropChoice_gentle _)
  exact State.Gentle.path (setTimebase_gentle _ s id)

theorem sampleEvent_path (point : Nat) (s : State) : s.Path (sampleEvent point s) :=
  (((setTick_gentle point s).trans (sampleAll_gentle _)).trans (dropChoice_gentle _)).path.trans (finish_path _)

theorem samplesUpTo_path (fuel tick : Nat) (s : State) : s.Path (samplesUpTo fuel tick s) := by
  induction fuel generalizing s with
  | zero => exact .refl
  | succ fuel ih =>
    unfold samplesUpTo
    split
    · split
      · exact (sampleEvent_path _ s).trans (ih _)
      · exact .refl
    · exact .refl

theorem runTo_path (tick : Nat) (s : State) : s.Path (runTo tick s) :=
  (samplesUpTo_path _ _ s).trans (setTick_gentle _ _).path

theorem lateLimitEvent_path (s : State) : s.Path (lateLimitEvent s) :=
  (((samplesUpTo_path _ _ s).trans (setTick_gentle _ _).path).trans (syntheticEnd_path _)).trans (finish_path _)

theorem runTicks_path (fuel n : Nat) (s : State) : s.Path (runTicks fuel n s) := by
  induction fuel generalizing n s with
  | zero => exact .refl
  | succ fuel ih =>
    unfold runTicks
    split
    · exact runTo_path _ s
    · exact (lateLimitEvent_path s).trans (ih _ _)

theorem advance_path (n : Nat) (s : State) : s.Path (advance n s) := by
  unfold advance
  split
  · exact .refl
  · exact runTicks_path _ _ s

theorem sampleStep_path (s : State) : s.Path (sampleStep s) := by
  unfold sampleStep
  split
  · exact sampleEvent_path _ s
  · exact .refl

/-! ### Management requests -/

/-- What an event leaves of the ports but for its notices. -/
def State.PortsStand (s t : State) : Prop :=
  ∃ notices lost, t.ports = { s.ports with notices := notices, lostNotices := lost }

theorem State.PortsStand.of_eq {s t : State} (h : t.ports = s.ports) : s.PortsStand t := ⟨_, _, h⟩

theorem State.PortsStand.refl (s : State) : s.PortsStand s := .of_eq rfl

theorem State.PortsStand.trans {s t u : State} (h : s.PortsStand t) (k : t.PortsStand u) : s.PortsStand u := by
  obtain ⟨_, _, h⟩ := h
  obtain ⟨n, l, k⟩ := k
  exact ⟨n, l, by rw [k, h]⟩

theorem State.PortsStand.foldl {α : Type} (f : State → α → State) (hf : ∀ (s : State) (a : α), s.PortsStand (f s a))
    (l : List α) (s : State) : s.PortsStand (l.foldl f s) := by
  induction l generalizing s with
  | nil => exact .refl s
  | cons a l ih => exact (hf s a).trans (ih (f s a))

theorem State.PortsStand.responses {s t : State} (h : s.PortsStand t) : t.ports.responses = s.ports.responses := by
  obtain ⟨_, _, h⟩ := h
  rw [h]

theorem raiseNotice_ports (k : NoticeKind) (x : List Byte) (s : State) : s.PortsStand (raiseNotice k x s) := by
  obtain ⟨n, l, e⟩ := raiseNotice_eq k x s
  exact ⟨n, l, by rw [e]⟩

theorem modifyRecord_ports (i : Nat) (f : Consumer → Consumer) (s : State) : (s.modifyRecord i f).ports = s.ports := by
  unfold State.modifyRecord; split <;> rfl

theorem recontribute_ports {i : Nat} {f : State → State} {s : State} (h : (f s).ports = s.ports) :
    (recontribute i f s).ports = s.ports := by
  obtain ⟨_, e⟩ := recontribute_sums i f s
  rw [e]
  exact h

theorem closeTest_ports (s : State) : s.PortsStand (closeTest s) := by
  rcases closeTest_eq s with h | ⟨n, l, -, -, h⟩
  · exact .of_eq (by rw [h])
  · exact ⟨n, l, by rw [h]⟩

theorem delist_ports (i : Nat) (s : State) : s.PortsStand (delist i s) := by
  unfold delist
  split
  · exact State.PortsStand.trans (t := unlist i s) (.of_eq rfl) (closeTest_ports _)
  · exact .refl s

theorem enlist_ports (i n : Nat) (p : Phase) (s : State) : (enlist i n p s).ports = s.ports :=
  modifyRecord_ports i _ _

theorem insertByHandOver_ports (i : Nat) (s : State) : (insertByHandOver i s).ports = s.ports := by
  unfold insertByHandOver
  split
  · exact enlist_ports ..
  · rfl

theorem handOverEnd_ports (e : MoveEntry) (s : State) : s.PortsStand (handOverEnd e s) := by
  unfold handOverEnd
  refine State.PortsStand.trans (.of_eq ?_) (closeTest_ports _)
  split
  · unfold rescueEntryEnd
    split
    · rfl
    · split
      · split
        · split
          · exact enlist_ports ..
          · rfl
        · split <;> rfl
      · rfl
  · exact insertByHandOver_ports ..
  · exact insertByHandOver_ports ..

theorem closeEntry_ports (i : Nat) (f : Consumer → Consumer) (s : State) : (closeEntry i f s).ports = s.ports :=
  recontribute_ports (modifyRecord_ports i f _)

theorem changeRecord_ports (i : Nat) (f : Consumer → Consumer) (s : State) : (changeRecord i f s).ports = s.ports :=
  recontribute_ports (modifyRecord_ports i f _)

theorem withdraw_ports (reason : Byte) (e : MoveEntry) (s : State) : s.PortsStand (withdraw reason e s) :=
  (State.PortsStand.of_eq (closeEntry_ports ..)).trans ((raiseNotice_ports _ _ _).trans (handOverEnd_ports e _))

theorem makeEntry_ports (o : Origin) (i : Nat) (q : Phase) (s : State) : s.PortsStand (makeEntry o i q s) := by
  unfold makeEntry
  split
  · exact (State.PortsStand.of_eq (recontribute_ports (modifyRecord_ports i _ _))).trans (delist_ports i _)
  · exact .refl s

theorem rescueDisabled_ports (s : State) : s.PortsStand (rescueDisabled s) := by
  unfold rescueDisabled
  split
  · exact State.PortsStand.trans (.foldl (fun s i => countUnrescuable (unlist i s)) (fun t i => .of_eq rfl) _ s)
      (closeTest_ports _)
  · exact .refl s

/-- The shadows taken, with the Sum Table rebuilt where the tree changed (R81). -/
def adopted (s : State) : State :=
  if s.tables.shadow = s.tables.active then driveSelectLines (takeShadows s)
  else rebuild (driveSelectLines (takeShadows s))

theorem adopt_eq (s : State) :
    adopt s = if s.rescueEnabled && !(adopted s).rescueEnabled then rescueDisabled (adopted s) else adopted s := rfl

theorem adopt_ports (s : State) : s.PortsStand (adopt s) := by
  have h : s.PortsStand (adopted s) := by
    unfold adopted
    split <;> exact .of_eq rfl
  rw [adopt_eq]
  split
  · exact h.trans (rescueDisabled_ports _)
  · exact h

theorem afterTableWrite_ports (s : State) : s.PortsStand (afterTableWrite s) := by
  unfold afterTableWrite
  split
  · exact State.PortsStand.trans (adopt_ports s) (.of_eq rfl)
  · exact .refl s

theorem storeConsumer_ports (i : Nat) (w : ConsumerWrite) (s : State) : s.PortsStand (storeConsumer i w s) := by
  unfold storeConsumer
  dsimp only
  refine State.PortsStand.trans (.of_eq ?_) (delist_ports i _)
  have hremap (old : Option Consumer) (t : State) : (remap i old w.address t).ports = t.ports := by
    unfold remap
    dsimp only
    split
    · split <;> rfl
    · rfl
  exact (hremap _ _).trans (recontribute_ports rfl)

theorem vacate_ports (i : Nat) (r : Consumer) (s : State) : s.PortsStand (vacate i r s) :=
  State.PortsStand.trans
    (t := leaveQueue i ((recontribute i (fun s => s.setRecord i none) s).setMap r.address none))
    (.of_eq (recontribute_ports rfl)) (delist_ports i _)

theorem storeLock_ports (i : Nat) (lock : Bool) (s : State) : s.PortsStand (storeLock i lock s) := by
  unfold storeLock
  dsimp only
  refine State.PortsStand.trans (t := s.modifyRecord i fun r => { r with lock := lock })
    (.of_eq (modifyRecord_ports ..)) ?_
  split
  · exact State.PortsStand.trans (.of_eq (modifyRecord_ports ..)) (delist_ports i _)
  · exact .refl _

theorem unfault_ports (i : Nat) (s : State) : s.PortsStand (unfault i s) :=
  .of_eq ((insertByHandOver_ports ..).trans (changeRecord_ports ..))

section
variable {s : State} (h : s.ports.responses.length < Config.responseRoom) (r : Request) (args : List Byte)
include h

/-- A response to what leaves the response queue alone. -/
theorem respond_path {t : State} (ht : s.Path t) (hp : s.PortsStand t) (kind : Byte) (result : Result)
    (data : List Byte) : s.Path (respond r kind result data t) :=
  ht.trans (respond_gentle r kind result data (by rw [hp.responses]; exact h)).path

theorem refuse_path (kind : Byte) (result : Result) : s.Path (refuse r kind result s) :=
  respond_path h r .refl (.refl s) kind result []

theorem answer_path (kind : Byte) (result : Result) (data : List Byte) : s.Path (respond r kind result data s) :=
  respond_path h r .refl (.refl s) kind result data

theorem performReadStatus_path : s.Path (performReadStatus r args s) := by
  unfold performReadStatus
  split
  · split
    · exact answer_path h r _ _ _
    · exact refuse_path h r _ _
  · exact refuse_path h r _ _

theorem performReadPolicy_path : s.Path (performReadPolicy r args s) := by
  unfold performReadPolicy
  split
  · dsimp only
    split
    · exact answer_path h r _ _ _
    · split
      · exact answer_path h r _ _ _
      · exact refuse_path h r _ _
  · exact refuse_path h r _ _

theorem performReadSegment_path : s.Path (performReadSegment r args s) := by
  unfold performReadSegment
  split
  · split
    · exact answer_path h r _ _ _
    · exact refuse_path h r _ _
  · exact refuse_path h r _ _

theorem performReadConsumer_path : s.Path (performReadConsumer r args s) := by
  unfold performReadConsumer
  split
  · split
    · exact answer_path h r _ _ _
    · exact refuse_path h r _ _
  · exact refuse_path h r _ _

theorem performReadSums_path : s.Path (performReadSums r args s) := by
  unfold performReadSums
  split
  · split
    · exact refuse_path h r _ _
    · split
      · exact refuse_path h r _ _
      · exact answer_path h r _ _ _
  · exact refuse_path h r _ _

theorem performReadSchedule_path : s.Path (performReadSchedule r args s) := by
  unfold performReadSchedule
  split
  · split
    · exact answer_path h r _ _ _
    · exact refuse_path h r _ _
  · exact refuse_path h r _ _

omit h in
/-- The policy that a whole record holds is in range once its numeric fields are clamped (R191). -/
theorem clampPolicy_inRange {bytes : List Byte} {p : Policy} (hp : policyOfBytes bytes = some p) :
    (clampPolicy p).InRange := by
  have hfields : filterDefined p.sagFilter = true ∧ p.mask &&& maskBits = p.mask := by
    unfold policyOfBytes policyOfFields at hp
    split at hp
    · split at hp
      · rename_i hfilter _ _ _
        cases hp
        refine ⟨hfilter, ?_⟩
        dsimp only
        rw [BitVec.and_assoc, BitVec.and_self]
      · cases hp
    · cases hp
  refine ⟨?_, hfields⟩
  have hclamp : ∀ low high n, low ≤ high → clamp low high (clamp low high n) = clamp low high n := by
    intro low high n hlh
    unfold clamp
    omega
  unfold clampPolicy
  simp only [hclamp, Nat.zero_le, Nat.reduceLeDiff]

theorem performWritePolicy_path : s.Path (performWritePolicy r args s) := by
  unfold performWritePolicy
  split
  · split
    · rename_i p hp
      have hstore : s.Gentle
          { s with management.shadow := clampPolicy p, management.policyPending := true } :=
        .side fun hf => { hf with shadow := clampPolicy_inRange hp }
      exact respond_path h r (hstore.path.trans (.single .written))
        (State.PortsStand.trans (.of_eq rfl) (afterTableWrite_ports _)) _ _ _
    · exact refuse_path h r _ _
  · exact refuse_path h r _ _

theorem performWriteSegment_path : s.Path (performWriteSegment r args s) := by
  unfold performWriteSegment
  split
  · dsimp only
    split
    · exact refuse_path h r _ _
    · rename_i hrefusal
      exact respond_path h r (.trans (.single (.segment _ _ hrefusal)) (.single .written))
        (State.PortsStand.trans (.of_eq rfl) (afterTableWrite_ports _)) _ _ _
  · exact refuse_path h r _ _

omit h in
theorem readWrite_sound {address segment allowed assigned lock priority : Byte} {w : ConsumerWrite}
    (hw : s.readWrite address segment allowed assigned lock priority = some w) : w.Sound ∧ w.address = address := by
  unfold State.readWrite at hw
  split at hw
  · cases hw
  · rename_i haddress
    split at hw
    · cases hw
    · rename_i hsegment
      split at hw
      · split at hw
        · rename_i hallowed
          cases hw
          simp only [Bool.or_eq_true, decide_eq_true_eq, not_or, Nat.not_lt] at haddress
          simp only [Bool.or_eq_true, decide_eq_true_eq, not_or, Nat.not_le] at hsegment
          exact ⟨⟨haddress, hsegment.1, hallowed, Nat.min_le_right ..⟩, rfl⟩
        · cases hw
      · cases hw

theorem performWriteConsumer_path : s.Path (performWriteConsumer r args s) := by
  unfold performWriteConsumer
  split
  · split
    · exact refuse_path h r _ _
    · rename_i hi
      split
      · exact refuse_path h r _ _
      · rename_i hengaged
        split
        · exact refuse_path h r _ _
        · rename_i w hw
          obtain ⟨hsound, haddress⟩ := readWrite_sound hw
          split
          · exact refuse_path h r _ _
          · rename_i htaken
            refine respond_path h r (.single (.consumer _ _ (by omega) (by simpa using hengaged) hsound fun j hj => ?_))
              (storeConsumer_ports ..) _ _ _
            rw [haddress] at hj
            simpa [hj] using htaken
  · exact refuse_path h r _ _

theorem performClearConsumer_path : s.Path (performClearConsumer r args s) := by
  unfold performClearConsumer
  split
  · split
    · exact refuse_path h r _ _
    · split
      · exact refuse_path h r _ _
      · rename_i hengaged
        split
        · rename_i c hc
          exact respond_path h r (.single (.vacate _ _ hc (by simpa using hengaged))) (vacate_ports ..) _ _ _
        · exact answer_path h r _ _ _
  · exact refuse_path h r _ _

omit h in
theorem storeLock_gentle (i : Nat) (lock : Bool) (s : State) : s.Gentle (storeLock i lock s) := by
  unfold storeLock
  dsimp only
  refine State.Gentle.trans (modifyRecord_gentle (i := i) (f := fun r => { r with lock := lock }) (fun _ _ => rfl)
    (fun _ _ h => { h with }) fun _ _ h => h) ?_
  split
  · exact (dropRescueMark_gentle i _).trans (delist_gentle i _)
  · exact .refl _

theorem performSetLock_path : s.Path (performSetLock r args s) := by
  unfold performSetLock
  split
  · split
    · exact refuse_path h r _ _
    · split
      · exact refuse_path h r _ _
      · exact refuse_path h r _ _
      · exact respond_path h r (storeLock_gentle _ _ s).path (storeLock_ports ..) _ _ _
  · exact refuse_path h r _ _

omit h in
theorem isFaulted_spec {i : Nat} {c : Consumer} (hf : s.isFaulted i = true) (hc : s.record i = some c) :
    ∃ reason, c.state = .faulted reason := by
  unfold State.isFaulted at hf
  rw [hc] at hf
  dsimp only at hf
  split at hf
  · rename_i reason hst
    exact ⟨reason, hst⟩
  · cases hf

omit h in
theorem unfault_path {i : Nat} (hf : s.isFaulted i = true) : s.Path (unfault i s) := by
  refine .gently (.single (.change i _ fun c hc => ⟨?_, close_still rfl c⟩)) (insertByHandOver_gentle i _)
  obtain ⟨reason, hst⟩ := isFaulted_spec hf hc
  rw [hst]
  rfl

theorem performClearFault_path : s.Path (performClearFault r args s) := by
  unfold performClearFault
  split
  · split
    · exact refuse_path h r _ _
    · split
      · rename_i hf
        exact respond_path h r (unfault_path hf) (unfault_ports ..) _ _ _
      · exact refuse_path h r _ _
  · exact refuse_path h r _ _

omit h in
theorem manualTarget_spec {c : Consumer} {target : Byte} {q : Phase} (hq : s.manualTarget c target = some q) :
    q ≠ c.assigned ∧ c.allowed.get q = true := by
  unfold State.manualTarget at hq
  split at hq
  · split at hq
    · rename_i hok
      cases hq
      simp only [Bool.and_eq_true, bne_iff_ne] at hok
      exact hok.1
    · cases hq
  · cases hq

theorem performManualMove_path : s.Path (performManualMove r args s) := by
  unfold performManualMove
  split
  · split
    · exact refuse_path h r _ _
    · split
      · exact refuse_path h r _ _
      · rename_i c hc
        split
        · exact refuse_path h r _ _
        · rename_i hsettled
          split
          · exact refuse_path h r _ _
          · rename_i q hq
            split
            · exact refuse_path h r _ _
            · split
              · exact refuse_path h r _ _
              · rename_i hroom
                obtain ⟨hne, hallowed⟩ := manualTarget_spec hq
                simp only [Bool.or_eq_true, decide_eq_true_eq, not_or, Nat.not_le] at hroom
                exact respond_path h r (.single (.make .manual hc (by simpa using hsettled) hroom.1 hne hallowed))
                  (makeEntry_ports ..) _ _ _
  · exact refuse_path h r _ _

theorem performCancelMoves_path : s.Path (performCancelMoves r args s) := by
  unfold performCancelMoves
  split
  · exact respond_path h r (.foldl _ (fun t e => withdraw_path _ e t) _ s)
      (.foldl _ (fun t e => withdraw_ports _ e t) _ s) _ _ _
  · exact refuse_path h r _ _

theorem performBalancerControl_path : s.Path (performBalancerControl r args s) := by
  have hset (b : BalancerState) (hb : ∀ pass, b ≠ .evaluating pass) :
      s.Path (controlDone r (setBalancer b s)) :=
    respond_path h r (.single (.balancer hb)) (.of_eq rfl) _ _ _
  unfold performBalancerControl
  split
  · split
    · unfold controlStart
      split
      · exact hset .idle (by simp)
      · exact hset .idle (by simp)
      · exact answer_path h r _ _ _
      · exact answer_path h r _ _ _
    · split
      · split
        · exact refuse_path h r _ _
        · exact hset .held (by simp)
      · split
        · exact hset .stopped (by simp)
        · exact refuse_path h r _ _
  · exact refuse_path h r _ _

theorem performRestart_path : s.Path (performRestart r args s) := by
  unfold performRestart
  split
  · refine .gently (answer_path h r requestRestart .done []) ?_
    exact .side fun hf => { hf with }
  · exact refuse_path h r _ _

/-- A request executed while the response queue has room (R185). -/
theorem perform_path : s.Path (perform r s) := by
  unfold perform
  split
  · exact .refl
  · split
    · exact performReadStatus_path h r _
    · exact performReadPolicy_path h r _
    · exact performWritePolicy_path h r _
    · exact performReadSegment_path h r _
    · exact performWriteSegment_path h r _
    · exact performReadConsumer_path h r _
    · exact performWriteConsumer_path h r _
    · exact performClearConsumer_path h r _
    · exact performReadSums_path h r _
    · exact performSetLock_path h r _
    · exact performClearFault_path h r _
    · exact performManualMove_path h r _
    · exact performCancelMoves_path h r _
    · exact performBalancerControl_path h r _
    · exact performReadSchedule_path h r _
    · exact performRestart_path h r _
    · exact refuse_path h r _ _

end

theorem executable_spec {s : State} {r : Request} (h : s.executable = some r) :
    s.ports.responses.length < Config.responseRoom := by
  unfold State.executable at h
  split at h
  · rename_i hok
    simpa using (Bool.and_eq_true_iff.mp hok).2
  · cases h

theorem executeFirst_path {s : State} {r : Request} (h : s.executable = some r) : s.Path (executeFirst r s) := by
  unfold executeFirst
  have hroom := executable_spec h
  refine .trans ?_ (perform_path (by exact hroom) r)
  refine State.Gentle.path (.side fun hf => { hf with requests := ?_ })
  have := hf.requests
  simp only [List.length_tail]
  omega

theorem serve_path (fuel : Nat) (s : State) : s.Path (serve fuel s) := by
  induction fuel generalizing s with
  | zero => exact .refl
  | succ fuel ih =>
    unfold serve
    split
    · rename_i r h
      exact ((executeFirst_path h).trans (finish_path _)).trans (ih _)
    · exact .refl

theorem finishServing_path (s : State) : s.Path (finishServing s) := (finish_path s).trans (serve_path _ _)

theorem serveArrival_path (s : State) : s.Path (serveArrival s) := by
  unfold serveArrival
  split
  · rename_i r h
    exact ((executeFirst_path h).trans (finish_path _)).trans (serve_path _ _)
  · exact finish_path s

/-! ### Arrivals and ends of transmissions -/

theorem arriveUpstream_path (f : Frame) (s : State) : s.Path (arriveUpstream f s) := by
  unfold arriveUpstream
  split
  · exact (countBad_gentle _ s).path.trans (finish_path _)
  · split
    · split
      · exact (enterRequests_gentle f s).path.trans (serveArrival_path _)
      · exact (countMisaddressed_gentle s).path.trans (finish_path _)
    · exact (passDown_gentle f s).path.trans (finish_path _)

theorem takeOwn_path (f : Frame) (s : State) : s.Path (takeOwn f s) := by
  unfold takeOwn
  split
  · exact takeTransferAnswer_path _ _ _ s
  · split
    · exact takeTransferReport_path _ _ _ s
    · split
      · exact takePhaseAnswer_path _ _ _ s
      · exact (countMisaddressed_gentle s).path

theorem passUp_path (f : Frame) (s : State) : s.Path (passUp f s) := by
  unfold passUp
  split
  · split
    · exact takeReading_path _ f _ _ s
    · exact (forwardUp_gentle f s).path
  · exact (forwardUp_gentle f s).path

theorem arriveDownstream_path (f : Frame) (s : State) : s.Path (arriveDownstream f s) := by
  refine .trans ?_ (finish_path _)
  unfold classifyDown
  split
  · exact (countBad_gentle _ s).path
  · split
    · exact takeOwn_path f s
    · exact passUp_path f s

theorem arrive_path (port : Port) (f : Frame) (s : State) : s.Path (arrive port f s) := by
  cases port with
  | upstream => exact arriveUpstream_path f s
  | downstream => exact arriveDownstream_path f s

theorem frameComes_path (port : Port) (f : Frame) (s : State) : s.Path (frameComes port f s) :=
  (setReceiver_gentle port _ s).path.trans (arrive_path port f _)

theorem loseFrame_path (port : Port) (s : State) : s.Path (loseFrame port s) :=
  ((setReceiver_gentle port _ s).trans (countBad_gentle port _)).path.trans (finish_path _)

theorem abandon_path (port : Port) (s : State) : s.Path (abandon port s) := by
  unfold abandon
  split
  · exact loseFrame_path port s
  · exact .refl

theorem takeCharacter_path (port : Port) (char : Byte) (framingError : Bool) (s : State) :
    s.Path (takeCharacter port char framingError s) := by
  unfold takeCharacter
  dsimp only
  refine (setReceiver_gentle port (receive (s.receiver port) char framingError).1 s).path.trans ?_
  split
  · exact finish_path _
  · exact (countBad_gentle port _).path.trans (finish_path _)
  · exact arrive_path port _ _

theorem orderEnds_path (s : State) : s.Path (orderEnds s) := by
  unfold orderEnds
  split
  · exact ((endDown_gentle s).path.trans (orderSent_path _)).trans (finish_path _)
  · exact .refl

theorem queryEnds_path (s : State) : s.Path (queryEnds s) := by
  unfold queryEnds
  split
  · exact ((endDown_gentle s).trans (querySent_gentle _ _)).path.trans (finish_path _)
  · exact .refl

theorem transmissionEnds_path (port : Port) (s : State) : s.Path (transmissionEnds port s) := by
  unfold transmissionEnds
  split
  · split
    · split
      · exact (endDown_gentle s).path.trans (finish_path _)
      · exact .refl
    · exact .refl
  · split
    · split
      · exact (endUp_gentle s).path.trans (finishServing_path _)
      · exact .refl
    · exact .refl

theorem responseEnds_path (straps : Straps) (s : State) : s.Path (responseEnds straps s) := by
  unfold responseEnds
  split
  · split
    · exact .trans (.single (.start _ _)) (finish_path _)
    · exact (endUp_gentle s).path.trans (finishServing_path _)
  · exact .refl

theorem whileRunning_path {event : State → State} (h : ∀ s : State, s.Path (event s)) (s : State) :
    s.Path (whileRunning event s) := by
  unfold whileRunning
  split
  · exact h s
  · exact .refl

/-! ### Every command and every step -/

/-- What a command leaves, by its meaning: the state of every arm of `exec`. -/
def execState (c : Instr) (s : State) : State :=
  match exec c s with
  | .next t => t
  | .fault _ | .refused _ => s

theorem exec_eq_next (c : Instr) (s : State) : exec c s = .next (execState c s) := by
  cases c <;> rfl

/-- An event that ends in `finish` is a run of changes when its body is. -/
theorem event_path {body : State → State} (h : ∀ s : State, s.Path (body s)) (s : State) :
    s.Path (whileRunning (fun s => finish (body s)) s) :=
  whileRunning_path (fun s => (h s).trans (finish_path _)) s

theorem frame_path (port : Port) (f : Frame) (s : State) : s.Path (whileRunning (frameComes port f) s) :=
  whileRunning_path (frameComes_path port f) s

theorem request_path (src tag : Byte) (payload : List Byte) (s : State) :
    s.Path (whileRunning (requestArrives src tag payload) s) :=
  whileRunning_path (fun s => frameComes_path _ _ s) s

/-- Every command is a run of changes. -/
theorem exec_path (c : Instr) (s : State) : s.Path (execState c s) := by
  cases c with
  | resetLineLow => exact (holdWith_gentle (fun r => { r with resetLine := true }) s).path
  | supplyBelowThreshold belowPowerOn =>
    exact (holdWith_gentle
      (fun r => if belowPowerOn then { r with powerOn := true } else { r with supplyDip := true }) s).path
  | start straps =>
    change s.Path (match s.hold with
      | some sources => finish (startWith sources straps s)
      | none => s)
    split
    · exact .trans (.single (.start _ _)) (finish_path _)
    · exact .refl
  | zeroCrossingEdge line elapsed sag =>
    exact event_path (fun s => ((advance_path elapsed s).trans (setSagLines_gentle sag _).path).trans (edge_path line _)) s
  | syntheticCycleEnd => exact whileRunning_path lateLimitEvent_path s
  | flywheelLimitReached =>
    exact event_path (fun s => ((unsyncAtLimit_gentle s).trans (noticeTimebase_gentle _ _)).path) s
  | failover => exact event_path (fun s => ((failoverIfDue_gentle s).trans (noticeTimebase_gentle _ _)).path) s
  | cycleMarkDue => exact event_path (fun s => (markIfDue_gentle s).path) s
  | sagSample sag => exact whileRunning_path (fun s => (setSagLines_gentle sag s).path.trans (sampleStep_path _)) s
  | filteredSagLevelChange p =>
    exact event_path (fun s => ((filteredLevelChange_gentle p s).trans (dropChoice_gentle _)).path) s
  | crossingPresenceChange p =>
    exact event_path (fun s => ((presenceChange_gentle p s).trans (dropChoice_gentle _)).path) s
  | sagDelay p => exact event_path (fun s => ((sagDelayReached_gentle p s).trans (dropChoice_gentle _)).path) s
  | holdComplete p => exact event_path (fun s => ((holdReached_gentle p s).trans (dropChoice_gentle _)).path) s
  | loadReading => exact frame_path _ _ s
  | windowClose => exact event_path (fun s => (closeIfDue_gentle s).path) s
  | foldOfRecord => exact event_path foldStep_path s
  | foldCompletion => exact event_path completeIfPast_path s
  | budgetPeriodEnd => exact event_path (fun s => (budgetIfDue_gentle s).path) s
  | passTrigger => exact event_path (fun s => .single .trigger) s
  | search => exact event_path (fun s => .single .search) s
  | passCompletion => exact event_path (fun s => .single .completion) s
  | orderTransmissionEnd => exact whileRunning_path orderEnds_path s
  | withdrawal => exact event_path withdrawTooNear_path s
  | replyDeadline => exact event_path (fun s => .single .replies) s
  | reportDeadline => exact event_path (fun s => .single .reports) s
  | latestExecuteCycleExpiry => exact event_path (fun s => (expireLatest_gentle s).path) s
  | transferAnswer => exact frame_path _ _ s
  | transferReport => exact frame_path _ _ s
  | queryTransmissionEnd => exact whileRunning_path queryEnds_path s
  | queryDeadline => exact event_path queryDeadlines_path s
  | phaseAnswer => exact frame_path _ _ s
  | managementRequest => exact request_path _ _ _ s
  | foreignOrder => exact frame_path _ _ s
  | upstreamFrameArrival => exact frame_path _ _ s
  | downstreamFrameArrival => exact frame_path _ _ s
  | frameDropped port => exact whileRunning_path (loseFrame_path port) s
  | receptionAbandoned port => exact whileRunning_path (abandon_path port) s
  | transmissionEnd port => exact whileRunning_path (transmissionEnds_path port) s
  | responseTransmissionEnd straps => exact whileRunning_path (responseEnds_path straps) s
  | readStatus => exact request_path _ _ _ s
  | readPolicy => exact request_path _ _ _ s
  | writePolicy => exact request_path _ _ _ s
  | readSegment => exact request_path _ _ _ s
  | writeSegment => exact request_path _ _ _ s
  | readConsumer => exact request_path _ _ _ s
  | writeConsumer => exact request_path _ _ _ s
  | clearConsumer => exact request_path _ _ _ s
  | readSums => exact request_path _ _ _ s
  | setLock => exact request_path _ _ _ s
  | clearFault => exact request_path _ _ _ s
  | manualMove => exact request_path _ _ _ s
  | cancelMoves => exact request_path _ _ _ s
  | balancerControlStart => exact request_path _ _ _ s
  | balancerControlHold => exact request_path _ _ _ s
  | balancerControlStop => exact request_path _ _ _ s
  | readSchedule => exact request_path _ _ _ s
  | restart => exact request_path _ _ _ s
  | unknownKind => exact request_path _ _ _ s
  | characterReceived port char framingError => exact whileRunning_path (takeCharacter_path port char framingError) s
  | balancerControlOtherAction => exact request_path _ _ _ s

/-- Every step is a run of changes. -/
theorem step_path {s t : State} (h : step s = .next t) : s.Path t := by
  unfold step at h
  split at h
  · rename_i c rest _
    rw [exec_eq_next] at h
    cases h
    have htaken : s.Gentle { s with pending := rest } := .side fun hf => { hf with }
    exact htaken.path.trans (exec_path c _)
  · cases h
    exact whileRunning_path (advance_path 1) s

/-- What every change keeps, every step keeps. -/
theorem step_keeps {P : State → Prop} (hP : ∀ s t : State, s.Change t → P s → P t) {s t : State} (hs : P s)
    (h : step s = .next t) : P t :=
  (step_path h).keeps hP hs

end Sys2Proof.Machine

namespace Sys2Proof.Machine

/-! ## What the changes do to records, entries and tables -/

theorem recontribute_fits {i : Nat} {f : State → State} {s : State} (h : (f s).Fits) : (recontribute i f s).Fits := by
  rw [recontribute_eq]
  refine { h with sums := ?_ }
  dsimp only
  split
  · exact h.sums
  · simpa using h.sums

/-- A change of an entry and its record, with the sums that go with it. -/
theorem closeEntry_eq (i : Nat) (f : Consumer → Consumer) (s : State) :
    ∃ l sums, l.length = s.tables.consumers.length ∧ closeEntry i f s =
      { s with
        tables.consumers := l
        scheduler.schedule := s.scheduler.schedule.filter fun e => e.consumer != i
        balancer.sums := sums } := by
  obtain ⟨sums, e⟩ := recontribute_sums i (fun s => (removeEntry i s).modifyRecord i f) s
  obtain ⟨l, hl, e'⟩ := modifyRecord_eq i f (removeEntry i s)
  exact ⟨l, sums, hl, by rw [closeEntry, e, e']; rfl⟩

theorem changeRecord_eq (i : Nat) (f : Consumer → Consumer) (s : State) :
    ∃ l sums, l.length = s.tables.consumers.length ∧ changeRecord i f s =
      { s with tables.consumers := l, balancer.sums := sums } := by
  obtain ⟨sums, e⟩ := recontribute_sums i (fun s => s.modifyRecord i f) s
  obtain ⟨l, hl, e'⟩ := modifyRecord_eq i f s
  exact ⟨l, sums, hl, by rw [changeRecord, e, e']⟩

theorem record_closeEntry (i j : Nat) (f : Consumer → Consumer) (s : State) :
    (closeEntry i f s).record j = if i = j then (s.record j).map f else s.record j := by
  rw [closeEntry, recontribute_eq]
  exact record_modifyRecord (removeEntry i s) i j f

/-- The record of an entry being made enters ORDERED, the entry appended (R109). -/
def orderRecord (e : MoveEntry) (i : Nat) (s : State) : State :=
  recontribute i (fun s => (appendEntry e s).modifyRecord i fun r => { r with state := .ordered }) s

theorem makeEntry_eq {i : Nat} {s : State} {r : Consumer} (h : s.record i = some r) (o : Origin) (q : Phase) :
    makeEntry o i q s = delist i (orderRecord (s.newEntry o i r.assigned q) i s) := by
  unfold makeEntry
  rw [h]
  rfl

theorem orderRecord_eq (e : MoveEntry) (i : Nat) (s : State) :
    ∃ l sums, l.length = s.tables.consumers.length ∧ orderRecord e i s =
      { s with
        tables.consumers := l
        scheduler :=
          { s.scheduler with
            schedule := s.scheduler.schedule ++ [e], latestExecute := some e.execute
            tagCounter := nextTag s.scheduler.tagCounter }
        balancer.sums := sums } := by
  obtain ⟨sums, h⟩ := recontribute_sums i
    (fun s => (appendEntry e s).modifyRecord i fun r => { r with state := .ordered }) s
  obtain ⟨l, hl, h'⟩ := modifyRecord_eq i (fun r => { r with state := .ordered }) (appendEntry e s)
  exact ⟨l, sums, hl, by rw [orderRecord, h, h']; rfl⟩

theorem record_orderRecord (e : MoveEntry) (i j : Nat) (s : State) :
    (orderRecord e i s).record j
      = if i = j then (s.record j).map fun r => { r with state := .ordered } else s.record j := by
  rw [orderRecord, recontribute_eq]
  exact record_modifyRecord (appendEntry e s) i j _

/-- A record written with the hand-over of its contribution. -/
def writeRecord (i : Nat) (r : Option Consumer) (s : State) : State := recontribute i (fun s => s.setRecord i r) s

theorem writeRecord_eq (i : Nat) (r : Option Consumer) (s : State) :
    ∃ sums, writeRecord i r s =
      { s with tables.consumers := s.tables.consumers.set i r, balancer.sums := sums } :=
  recontribute_sums i (fun s => s.setRecord i r) s

theorem record_writeRecord (i j : Nat) (r : Option Consumer) (s : State) :
    (writeRecord i r s).record j = if i = j ∧ i < s.tables.consumers.length then r else s.record j := by
  rw [writeRecord, recontribute_eq]
  exact record_setRecord s i j r

/-- The record that a WRITE CONSUMER makes (R17, R18). -/
def State.writtenRecord (s : State) (i : Nat) (w : ConsumerWrite) : Consumer :=
  match s.record i with
  | some r => replacedRecord w s.freshQuery r
  | none => newRecord w s.freshQuery

theorem storeConsumer_eq (i : Nat) (w : ConsumerWrite) (s : State) :
    storeConsumer i w s
      = delist i (leaveQueue i (remap i (s.record i) w.address (writeRecord i (some (s.writtenRecord i w)) s))) := by
  unfold storeConsumer
  dsimp only
  cases h : s.record i <;> simp only [State.writtenRecord, h] <;> rfl

theorem vacate_eq (i : Nat) (r : Consumer) (s : State) :
    vacate i r s = delist i (leaveQueue i ((writeRecord i none s).setMap r.address none)) := rfl

theorem remap_eq (i : Nat) (old : Option Consumer) (a : Byte) (s : State) :
    ∃ m, m.length = s.tables.addressMap.length ∧ remap i old a s = { s with tables.addressMap := m } := by
  unfold remap
  dsimp only
  split
  · split
    · exact ⟨_, List.length_set .., rfl⟩
    · exact ⟨_, (List.length_set ..).trans (List.length_set ..), rfl⟩
  · exact ⟨_, List.length_set .., rfl⟩

theorem writtenRecord_address (s : State) (i : Nat) (w : ConsumerWrite) : (s.writtenRecord i w).address = w.address := by
  unfold State.writtenRecord
  split
  · unfold replacedRecord
    split
    · assumption
    · rfl
  · rfl

theorem writtenRecord_state (s : State) (i : Nat) (w : ConsumerWrite) :
    (s.writtenRecord i w).state = .unverified s.freshQuery := by
  unfold State.writtenRecord
  split
  · unfold replacedRecord
    split <;> rfl
  · rfl

/-- The Address Map after a write (R19): the address to the index, the old one to none when it changed. -/
theorem mapped_remap (i : Nat) (old : Option Consumer) (a b : Byte) {s : State}
    (hl : s.tables.addressMap.length = Config.addresses) :
    (remap i old a s).mapped b
      = if b = a then some i else if old.any (fun r => r.address = b) then none else s.mapped b := by
  have hlt (x : Byte) : x.toNat < Config.addresses := x.isLt
  have hset (t : State) (ht : t.tables.addressMap.length = Config.addresses) (x : Byte) (v : Option Nat) :
      (t.setMap x v).mapped b = if b = x then v else t.mapped b := by
    rw [mapped_setMap]
    simp [ht, hlt, eq_comm]
  unfold remap
  dsimp only
  cases old with
  | none => simpa using hset s hl a (some i)
  | some r =>
    by_cases hr : r.address = a
    · simp only [hr, if_true]
      rw [hset s hl]
      by_cases hb : b = a
      · simp [hb]
      · simp [hb, hr, Ne.symm hb]
    · simp only [hr, if_false]
      rw [hset _ (by simpa [State.setMap] using hl), hset s hl]
      by_cases hb : b = a
      · simp [hb]
      · simp [hb, eq_comm]

theorem mapped_leaveQueue (i : Nat) (s : State) (a : Byte) : (leaveQueue i s).mapped a = s.mapped a := rfl

theorem delist_tables (i : Nat) (s : State) : (delist i s).tables = s.tables := by
  unfold delist
  split
  · rw [closeTest_tables]
    rfl
  · rfl

theorem delist_scheduler (i : Nat) (s : State) : (delist i s).scheduler = s.scheduler := by
  unfold delist
  split
  · rw [closeTest_scheduler]
    rfl
  · rfl

theorem record_of_tables {s t : State} (h : t.tables = s.tables) (i : Nat) : t.record i = s.record i := by
  rw [State.record, h, State.record]

theorem mapped_of_tables {s t : State} (h : t.tables = s.tables) (a : Byte) : t.mapped a = s.mapped a := by
  rw [State.mapped, h, State.mapped]

theorem record_storeConsumer (i j : Nat) (w : ConsumerWrite) (s : State) :
    (storeConsumer i w s).record j
      = if i = j ∧ i < s.tables.consumers.length then some (s.writtenRecord i w) else s.record j := by
  obtain ⟨m, -, e⟩ := remap_eq i (s.record i) w.address (writeRecord i (some (s.writtenRecord i w)) s)
  rw [storeConsumer_eq, record_of_tables (delist_tables ..), e, ← record_writeRecord]
  rfl

theorem mapped_storeConsumer (i : Nat) (w : ConsumerWrite) (b : Byte) {s : State}
    (hl : s.tables.addressMap.length = Config.addresses) :
    (storeConsumer i w s).mapped b
      = if b = w.address then some i
        else if (s.record i).any (fun r => r.address = b) then none else s.mapped b := by
  obtain ⟨sums, e⟩ := writeRecord_eq i (some (s.writtenRecord i w)) s
  rw [storeConsumer_eq, mapped_of_tables (delist_tables ..), mapped_leaveQueue, mapped_remap]
  · rw [e]
    rfl
  · rw [e]
    exact hl

theorem record_vacate (i j : Nat) (r : Consumer) (s : State) :
    (vacate i r s).record j = if i = j ∧ i < s.tables.consumers.length then none else s.record j := by
  rw [vacate_eq, record_of_tables (delist_tables ..), ← record_writeRecord]
  rfl

theorem mapped_vacate (i : Nat) (r : Consumer) (b : Byte) {s : State}
    (hl : s.tables.addressMap.length = Config.addresses) :
    (vacate i r s).mapped b = if b = r.address then none else s.mapped b := by
  obtain ⟨sums, e⟩ := writeRecord_eq i none s
  have hlt : r.address.toNat < Config.addresses := r.address.isLt
  rw [vacate_eq, mapped_of_tables (delist_tables ..), mapped_leaveQueue, mapped_setMap, e]
  simp only [eq_comm (a := r.address), hl, hlt, and_true]
  rfl

/-! ### Entries at a cycle end -/

theorem handOverEnd_scheduler (e : MoveEntry) (s : State) : (handOverEnd e s).scheduler = s.scheduler := by
  have henlist (i n : Nat) (p : Phase) : (enlist i n p s).scheduler = s.scheduler := modifyRecord_scheduler i _ _
  have hinsert (i : Nat) : (insertByHandOver i s).scheduler = s.scheduler := by
    unfold insertByHandOver
    split
    · exact henlist ..
    · rfl
  unfold handOverEnd
  rw [closeTest_scheduler]
  split
  · unfold rescueEntryEnd
    split
    · rfl
    · split
      · split
        · split
          · exact henlist ..
          · rfl
        · split <;> rfl
      · rfl
  · exact hinsert _
  · exact hinsert _

theorem withdraw_scheduler (reason : Byte) (e : MoveEntry) (s : State) :
    (withdraw reason e s).scheduler
      = { s.scheduler with schedule := s.scheduler.schedule.filter fun x => x.consumer != e.consumer } :=
  (handOverEnd_scheduler e _).trans ((raiseNotice_scheduler _ _ _).trans (closeEntry_schedule _ _ s))

theorem endUnreported_scheduler (e : MoveEntry) (s : State) :
    (endUnreported e s).scheduler
      = { s.scheduler with schedule := s.scheduler.schedule.filter fun x => x.consumer != e.consumer } :=
  (handOverEnd_scheduler e _).trans ((raiseNotice_scheduler _ _ _).trans (closeEntry_schedule _ _ s))

/-- An entry and what its end or its stage does leave the entries of the other records in the schedule. -/
def KeepsOthers (act : State → MoveEntry → State) : Prop :=
  ∀ (s : State) (e x : MoveEntry), x ∈ s.scheduler.schedule → x.consumer ≠ e.consumer →
    x ∈ (act s e).scheduler.schedule

theorem endUnreported_keepsOthers : KeepsOthers fun s e => endUnreported e s := fun s e x hx hne => by
  rw [endUnreported_scheduler]
  exact List.mem_filter.mpr ⟨hx, by simpa using hne⟩

theorem setStage_keepsOthers (st : Stage) : KeepsOthers fun s e => setStage e.consumer st s := fun s e x hx hne => by
  have hne' : (x.consumer == e.consumer) = false := by simpa using hne
  exact List.mem_map.mpr ⟨x, hx, by rw [hne']; rfl⟩

theorem entryAtCycleEnd_keepsOthers : KeepsOthers entryAtCycleEnd := fun s e x hx hne => by
  unfold entryAtCycleEnd
  split
  · rw [withdraw_scheduler]
    exact List.mem_filter.mpr ⟨hx, by simpa using hne⟩
  · split
    · exact endUnreported_keepsOthers s e x hx hne
    · split
      · exact setStage_keepsOthers _ s e x hx hne
      · exact hx

/-- Entries of distinct records, handled in turn, each stand in the schedule when their turn comes. -/
theorem foldl_entries {P : State → Prop} {act : State → MoveEntry → State} (hkeep : KeepsOthers act)
    {l : List MoveEntry} {s : State}
    (hact : ∀ (s : State) (e : MoveEntry), e ∈ l → e ∈ s.scheduler.schedule → P s → P (act s e))
    (hl : ∀ e ∈ l, e ∈ s.scheduler.schedule) (hn : (l.map MoveEntry.consumer).Nodup) (hs : P s) :
    P (l.foldl act s) := by
  induction l generalizing s with
  | nil => exact hs
  | cons e l ih =>
    rw [List.map_cons, List.nodup_cons] at hn
    refine ih (fun s x hx => hact s x (List.mem_cons_of_mem _ hx))
      (fun x hx => hkeep s e x (hl x (List.mem_cons_of_mem _ hx)) fun h => hn.1 ?_) hn.2
      (hact s e List.mem_cons_self (hl e List.mem_cons_self) hs)
    exact List.mem_map.mpr ⟨x, hx, h⟩

/-- What each of some steps keeps, all of them keep. -/
theorem foldl_keeps {α : Type} {P : State → Prop} {f : State → α → State} (hf : ∀ (s : State) (a : α), P s → P (f s a))
    (l : List α) {s : State} (hs : P s) : P (l.foldl f s) := by
  induction l generalizing s with
  | nil => exact hs
  | cons a l ih => exact ih (hf s a hs)

/-! ### Adoptions and pass triggers -/

/-- A property that adoptions, pass starts and gentle changes keep, and that does not read the remaining count. -/
structure AdoptionSafe (P : State → Prop) : Prop where
  gentle : ∀ {s t : State}, s.Gentle t → P s → P t
  adopted : ∀ {s : State}, P s → P (adopted s)
  startPass : ∀ {s : State}, P s → P (startPass s)
  remaining : ∀ {s : State} (n : Nat), P s → P { s with balancer.remaining := n }

namespace AdoptionSafe
variable {P : State → Prop} (hP : AdoptionSafe P) {s : State}
include hP

theorem adopt (hs : P s) : P (adopt s) := by
  rw [adopt_eq]
  split
  · exact hP.gentle (rescueDisabled_gentle _) (hP.adopted hs)
  · exact hP.adopted hs

theorem afterTableWrite (hs : P s) : P (afterTableWrite s) := by
  unfold Machine.afterTableWrite
  split
  · exact hP.remaining _ (hP.adopt hs)
  · exact hs

theorem passTrigger (hs : P s) : P (passTrigger s) := by
  unfold Machine.passTrigger
  refine hP.remaining _ ?_
  have hadopt := hP.adopt hs
  unfold passTriggered
  dsimp only
  split
  · split
    · exact hP.startPass hadopt
    · exact hP.gentle (countSuppressed_gentle _) hadopt
  · exact hP.gentle (countOverrun_gentle _) hadopt
  · exact hadopt
  · exact hadopt

theorem triggerIfDue (hs : P s) : P (triggerIfDue s) := by
  unfold Machine.triggerIfDue
  split
  · exact hP.passTrigger hs
  · exact hs

theorem completeFold (hs : P s) : P (completeFold s) :=
  hP.gentle (closeIfDue_gentle _)
    (hP.triggerIfDue (hP.remaining (s.balancer.remaining - 1) (hP.gentle (setFold_gentle .idle s) hs)))

end AdoptionSafe

/-- The state after an adoption but for its rescue: the shadows taken. -/
theorem adopted_eq (s : State) :
    ∃ sums, (s.tables.shadow = s.tables.active → sums = s.balancer.sums)
      ∧ (s.tables.shadow ≠ s.tables.active → sums = (rebuild (driveSelectLines (takeShadows s))).balancer.sums)
      ∧ adopted s = { driveSelectLines (takeShadows s) with balancer.sums := sums } := by
  unfold adopted
  by_cases h : s.tables.shadow = s.tables.active
  · rw [if_pos h]
    exact ⟨s.balancer.sums, fun _ => rfl, fun hn => absurd h hn, rfl⟩
  · rw [if_neg h]
    exact ⟨_, fun h' => absurd h' h, fun _ => rfl, rfl⟩

/-! ## Sizes and ranges are kept -/

theorem adopted_fits {s : State} (h : s.Fits) : (adopted s).Fits := by
  obtain ⟨sums, hsame, hnew, e⟩ := adopted_eq s
  rw [e]
  refine { h with
    sized := ⟨h.sized.2.1, h.sized.2.1, List.length_replicate .., h.sized.2.2.2⟩, sums := ?_, active := h.shadow }
  by_cases hs : s.tables.shadow = s.tables.active
  · rw [hsame hs]
    exact h.sums
  · rw [hnew hs]
    exact rebuild_length _

theorem startPass_fits {s : State} (h : s.Fits) : (startPass s).Fits := by
  have hsized : (rebuild (copyFresh s)).tables.Sized :=
    ⟨h.sized.1, h.sized.2.1, h.sized.2.2.1, (List.length_map ..).trans h.sized.2.2.2.1, h.sized.2.2.2.2⟩
  exact { h with sized := hsized, sums := rebuild_length (copyFresh s) }

theorem fits_adoptionSafe : AdoptionSafe State.Fits where
  gentle h := h.fits
  adopted := adopted_fits
  startPass := startPass_fits
  remaining _ h := { h with }

theorem setStage_fits (i : Nat) (st : Stage) {s : State} (h : s.Fits) : (setStage i st s).Fits :=
  { h with schedule := (List.length_map ..).le.trans h.schedule }

theorem closeEntry_fits (i : Nat) (f : Consumer → Consumer) {s : State} (h : s.Fits) : (closeEntry i f s).Fits :=
  recontribute_fits (modifyRecord_fits i f (s := removeEntry i s)
    { h with schedule := (List.length_filter_le ..).trans h.schedule })

theorem makeEntry_fits (o : Origin) (i : Nat) (q : Phase) {s : State} (h : s.Fits)
    (hroom : s.scheduler.schedule.length < Config.scheduleRoom) : (makeEntry o i q s).Fits := by
  cases hr : s.record i with
  | none => rwa [makeEntry, hr]
  | some r =>
    rw [makeEntry_eq hr]
    refine (delist_gentle i _).fits (recontribute_fits (modifyRecord_fits i _ (s := appendEntry _ s) ?_))
    exact { h with schedule := by simpa [appendEntry] using hroom, tag := nextTag_ne_zero _ }

theorem endUnreported_fits (e : MoveEntry) {s : State} (h : s.Fits) : (endUnreported e s).Fits :=
  (handOverEnd_gentle e _).fits ((raiseNotice_gentle _ _ _).fits (closeEntry_fits _ _ h))

theorem withdraw_fits (reason : Byte) (e : MoveEntry) {s : State} (h : s.Fits) : (withdraw reason e s).Fits :=
  (handOverEnd_gentle e _).fits ((raiseNotice_gentle _ _ _).fits (closeEntry_fits _ _ h))

theorem entryAtCycleEnd_fits (s : State) (e : MoveEntry) (h : s.Fits) : (entryAtCycleEnd s e).Fits := by
  unfold entryAtCycleEnd
  split
  · exact withdraw_fits _ e h
  · split
    · exact endUnreported_fits e h
    · split
      · exact setStage_fits _ _ h
      · exact h

theorem keepsMove_room {s : State} {m : ChosenMove} (hs : s.Fits) (h : s.keepsMove m = true) :
    s.scheduler.schedule.length < Config.scheduleRoom := by
  unfold State.keepsMove at h
  split at h
  · simp only [Bool.and_eq_true, decide_eq_true_eq] at h
    exact lt_of_lt_of_le h.1.2 hs.active.inFlightLimit_le
  · cases h

theorem revalidate_fits (sn : State × Nat) (m : ChosenMove) (h : sn.1.Fits) : (revalidate sn m).1.Fits := by
  unfold revalidate
  split
  · rename_i hk
    exact makeEntry_fits _ _ _ h (keepsMove_room h hk)
  · exact (countStaleMove_gentle _).fits h

/-- What every revalidation keeps, all of them keep. -/
theorem foldl_revalidate {P : State → Prop} {l : List ChosenMove}
    (hP : ∀ (sn : State × Nat) (m : ChosenMove), m ∈ l → P sn.1 → P (revalidate sn m).1) {sn : State × Nat}
    (h : P sn.1) : P (l.foldl revalidate sn).1 := by
  induction l generalizing sn with
  | nil => exact h
  | cons m l ih =>
    exact ih (fun sn x hx => hP sn x (List.mem_cons_of_mem _ hx)) (hP sn m List.mem_cons_self h)

theorem completePass_fits (pass : Pass) {s : State} (h : s.Fits) : (completePass pass s).Fits := by
  have hmoved : (pass.results.foldl revalidate (s, 0)).1.Fits :=
    foldl_revalidate (P := State.Fits) (fun sn m _ => revalidate_fits sn m) h
  exact { (raiseNotice_gentle _ _ _).fits hmoved with }

theorem storeSegment_fits {i valid parent weight limit : Nat} {s : State} (h : s.Fits) :
    (storeSegment i valid parent weight limit s).Fits :=
  { h with
    sized := ⟨h.sized.1, (List.length_set ..).trans h.sized.2.1, (List.length_set ..).trans h.sized.2.2.1,
      h.sized.2.2.2⟩ }

theorem writeRecord_fits (i : Nat) (r : Option Consumer) {s : State} (h : s.Fits) : (writeRecord i r s).Fits :=
  recontribute_fits (h.withConsumers (List.length_set ..))

theorem State.Fits.withMap {s : State} (h : s.Fits) {m : List (Option Nat)}
    (hm : m.length = s.tables.addressMap.length) : State.Fits { s with tables.addressMap := m } :=
  { h with sized := ⟨h.sized.1, h.sized.2.1, h.sized.2.2.1, h.sized.2.2.2.1, hm.trans h.sized.2.2.2.2⟩ }

theorem storeConsumer_fits (i : Nat) (w : ConsumerWrite) {s : State} (h : s.Fits) : (storeConsumer i w s).Fits := by
  obtain ⟨m, hm, e⟩ := remap_eq i (s.record i) w.address (writeRecord i (some (s.writtenRecord i w)) s)
  rw [storeConsumer_eq, e]
  exact (delist_gentle i _).fits ((leaveQueue_gentle i _).fits ((writeRecord_fits i _ h).withMap hm))

theorem vacate_fits (i : Nat) (r : Consumer) {s : State} (h : s.Fits) : (vacate i r s).Fits := by
  rw [vacate_eq]
  exact (delist_gentle i _).fits ((leaveQueue_gentle i _).fits
    ((writeRecord_fits i none h).withMap (List.length_set ..)))

theorem startedPolicy_inRange (sources : ResetSources) {m : Management} (h : m.active.InRange) :
    (m.started sources).active.InRange ∧ (m.started sources).shadow.InRange := by
  have : (if sources.cold then Policy.cold else m.active).InRange := by
    split
    · exact Policy.cold_inRange
    · exact h
  exact ⟨this, this⟩

theorem startValues_fits (sources : ResetSources) (straps : Straps) {s : State} (h : s.Fits) :
    (startValues sources straps s).Fits where
  sized := by
    unfold startValues
    dsimp only
    split
    · exact ⟨rfl, rfl, rfl, List.length_replicate .., List.length_replicate ..⟩
    · exact ⟨h.sized.1, h.sized.1, rfl, (List.length_map ..).trans h.sized.2.2.2.1, h.sized.2.2.2.2⟩
  sums := rfl
  active := (startedPolicy_inRange sources h.active).1
  shadow := (startedPolicy_inRange sources h.active).2
  schedule := Nat.zero_le _
  queries := Nat.zero_le _
  upForward := Nat.zero_le _
  downForward := Nat.zero_le _
  notices := Nat.zero_le _
  responses := Nat.zero_le _
  requests := Nat.zero_le _
  counters := by change ∀ n ∈ counterList Counters.zero, n ≤ Config.counterTop; decide
  lost := Nat.zero_le _
  upBurst := Nat.zero_le _
  downBurst := Nat.zero_le _
  rescued := Nat.zero_le _
  unrescuable := Nat.zero_le _
  restored := Nat.zero_le _
  window := Nat.zero_le _
  mark := Nat.zero_le _
  tag := by change (1 : Byte) ≠ 0; decide

theorem startWith_fits (sources : ResetSources) (straps : Straps) {s : State} (h : s.Fits) :
    (startWith sources straps s).Fits := by
  have hdriven := (driveSelectLines_gentle _).fits (startValues_fits sources straps h)
  exact (queueNotice_gentle _ _ _).fits { hdriven with sums := rebuild_length _ }

/-- Every change keeps sizes and ranges. -/
theorem State.Change.fits {s t : State} (h : s.Change t) (hs : s.Fits) : t.Fits := by
  cases h with
  | gentle h => exact h.fits hs
  | stage _ st => exact setStage_fits _ st hs
  | accept => exact modifyRecord_fits _ _ (setStage_fits _ _ hs)
  | make o _ _ hroom => exact makeEntry_fits o _ _ hs hroom
  | close i f => exact closeEntry_fits i f hs
  | change i f => exact recontribute_fits (modifyRecord_fits i f hs)
  | prune => exact modifyRecord_fits _ _ hs
  | cycleEnd => exact foldl_keeps entryAtCycleEnd_fits _ hs
  | reports => exact foldl_keeps (f := fun s e => endUnreported e s) (fun _ e => endUnreported_fits e) _ hs
  | replies =>
    exact foldl_keeps (f := fun s (e : MoveEntry) => setStage e.consumer .unconfirmed s) (fun _ e => setStage_fits _ _) _ hs
  | written => exact fits_adoptionSafe.afterTableWrite hs
  | trigger => exact fits_adoptionSafe.triggerIfDue hs
  | fold => exact fits_adoptionSafe.completeFold hs
  | search =>
    unfold searchStep
    split
    · split
      · exact hs
      · exact { hs with }
    all_goals exact hs
  | completion =>
    unfold completionStep
    split
    · split
      · exact completePass_fits _ hs
      · exact hs
    all_goals exact hs
  | balancer => exact { hs with }
  | start sources straps => exact startWith_fits sources straps hs
  | segment => exact storeSegment_fits hs
  | consumer i w => exact storeConsumer_fits i w hs
  | vacate i r => exact vacate_fits i r hs

/-! ### The remaining count -/

/-- The remaining count lies between 1 and the pass divider (R41). -/
def State.RemainingRight (s : State) : Prop :=
  1 ≤ s.balancer.remaining ∧ s.balancer.remaining ≤ s.management.active.passDivider

theorem State.RemainingRight.congr {s t : State} (hb : t.balancer.remaining = s.balancer.remaining)
    (hp : t.management.active = s.management.active) (h : s.RemainingRight) : t.RemainingRight := by
  unfold State.RemainingRight at h ⊢
  rw [hb, hp]
  exact h

theorem State.Gentle.remaining {s t : State} (h : s.Gentle t) (hs : s.RemainingRight) : t.RemainingRight :=
  hs.congr (congrArg Balancer.remaining h.balancer) h.policy

theorem State.KeepsRest.remainingRight {s t : State} (h : s.KeepsRest t) (hs : s.RemainingRight) : t.RemainingRight :=
  hs.congr h.remaining (congrArg Management.active h.management)

theorem passTrigger_remaining {s : State} (h : s.Fits) : (passTrigger s).RemainingRight := by
  have hfits := fits_adoptionSafe.passTrigger h
  exact ⟨hfits.active.passDivider.1, Nat.le_refl _⟩

theorem closeEntry_remaining (i : Nat) (f : Consumer → Consumer) {s : State} (h : s.RemainingRight) :
    (closeEntry i f s).RemainingRight := by
  obtain ⟨l, sums, -, e⟩ := closeEntry_eq i f s
  rw [e]
  exact h

theorem endUnreported_remaining (e : MoveEntry) {s : State} (h : s.RemainingRight) :
    (endUnreported e s).RemainingRight :=
  ((raiseNotice_keeps _ _ _).trans (handOverEnd_keeps e _)).remainingRight (closeEntry_remaining _ _ h)

theorem entryAtCycleEnd_remaining (s : State) (e : MoveEntry) (h : s.RemainingRight) :
    (entryAtCycleEnd s e).RemainingRight := by
  unfold entryAtCycleEnd
  split
  · exact (withdraw_keeps _ e s).remainingRight h
  · split
    · exact endUnreported_remaining e h
    · split <;> exact h

theorem completePass_remaining (pass : Pass) {s : State} (h : s.RemainingRight) :
    (completePass pass s).RemainingRight := by
  have hmoved : (pass.results.foldl revalidate (s, 0)).1.RemainingRight := by
    refine foldl_revalidate (P := State.RemainingRight) (fun sn m _ hsn => ?_) h
    unfold revalidate
    split
    · exact (makeEntry_keeps _ _ _ _).remainingRight hsn
    · exact hsn
  exact (raiseNotice_keeps _ _ _).remainingRight hmoved

theorem afterTableWrite_remaining {s : State} (hf : s.Fits) (h : s.RemainingRight) :
    (afterTableWrite s).RemainingRight := by
  unfold afterTableWrite
  split
  · have hdivider := (fits_adoptionSafe.adopt hf).active.passDivider
    have hkept : (adopt s).balancer.remaining = s.balancer.remaining := by
      obtain ⟨sums, -, -, e⟩ := adopted_eq s
      rw [adopt_eq]
      split
      · rw [(rescueDisabled_gentle _).balancer, e]
        rfl
      · rw [e]
        rfl
    refine ⟨?_, Nat.min_le_right ..⟩
    have := h.1
    change 1 ≤ min (adopt s).balancer.remaining _
    omega
  · exact h

theorem completeFold_remaining {s : State} (hf : s.Fits) (h : s.RemainingRight) : (completeFold s).RemainingRight := by
  have hlower : State.Fits { s with intake.fold := .idle, balancer.remaining := s.balancer.remaining - 1 } :=
    { hf with }
  refine (closeIfDue_gentle _).remaining ?_
  unfold triggerIfDue
  split
  · exact passTrigger_remaining hlower
  · rename_i hpos
    obtain ⟨-, hhigh⟩ := h
    exact ⟨Nat.one_le_iff_ne_zero.mpr hpos, (Nat.sub_le ..).trans hhigh⟩

theorem startWith_remaining (sources : ResetSources) (straps : Straps) {s : State} (h : s.Fits) :
    (startWith sources straps s).RemainingRight := by
  have hdivider := (startValues_fits sources straps h).active.passDivider
  refine (queueNotice_gentle _ _ _).remaining ?_
  exact ⟨hdivider.1, Nat.le_refl _⟩

/-- Every change keeps the remaining count in its range. -/
theorem State.Change.remaining {s t : State} (h : s.Change t) (hf : s.Fits) (hs : s.RemainingRight) :
    t.RemainingRight := by
  cases h with
  | gentle h => exact h.remaining hs
  | stage => exact hs
  | accept =>
    obtain ⟨l, -, e⟩ := modifyRecord_eq _ (fun r => { r with state := .accepted }) (setStage _ .accepted s)
    rw [acceptEntry, e]
    exact hs
  | make o => exact (makeEntry_keeps o _ _ s).remainingRight hs
  | close i f => exact closeEntry_remaining i f hs
  | change i f =>
    obtain ⟨l, sums, -, e⟩ := changeRecord_eq i f s
    rw [e]
    exact hs
  | prune =>
    obtain ⟨l, -, e⟩ := modifyRecord_eq _ _ s
    rw [e]
    exact hs
  | cycleEnd => exact foldl_keeps entryAtCycleEnd_remaining _ hs
  | reports => exact foldl_keeps (f := fun s e => endUnreported e s) (fun _ e => endUnreported_remaining e) _ hs
  | replies =>
    exact foldl_keeps (P := State.RemainingRight) (f := fun s (e : MoveEntry) => setStage e.consumer .unconfirmed s)
      (fun _ _ h => h) _ hs
  | written => exact afterTableWrite_remaining hf hs
  | trigger =>
    unfold triggerIfDue
    split
    · exact passTrigger_remaining hf
    · exact hs
  | fold => exact completeFold_remaining hf hs
  | search =>
    unfold searchStep
    split
    · split <;> exact hs
    all_goals exact hs
  | completion =>
    unfold completionStep
    split
    · split
      · exact completePass_remaining _ hs
      · exact hs
    all_goals exact hs
  | balancer => exact hs
  | start sources straps => exact startWith_remaining sources straps hf
  | segment => exact hs
  | consumer i w =>
    obtain ⟨sums, e⟩ := writeRecord_eq i (some (s.writtenRecord i w)) s
    obtain ⟨m, -, e'⟩ := remap_eq i (s.record i) w.address (writeRecord i (some (s.writtenRecord i w)) s)
    rw [storeConsumer_eq, e', e]
    exact (delist_gentle i _).remaining hs
  | vacate i r =>
    obtain ⟨sums, e⟩ := writeRecord_eq i none s
    rw [vacate_eq, e]
    exact (delist_gentle i _).remaining hs

/-- Settles O53: a step is a run of changes, and every change keeps sizes, ranges and the remaining count. -/
theorem boundedIsKept : Obligations.BoundedIsKept := by
  intro s t hs hstep
  rw [State.bounded_iff] at hs ⊢
  exact step_keeps (P := fun s => s.Fits ∧ s.RemainingRight) (fun _ _ hc h => ⟨hc.fits h.1, hc.remaining h.1 h.2⟩)
    hs hstep

end Sys2Proof.Machine

namespace Sys2Proof.Machine

/-! ## The segment tree and the Address Map are kept -/

/-- Two states with the same Segment Tables and the same addresses, mapped and held. -/
structure State.Steady (s t : State) : Prop where
  active : t.tables.active = s.tables.active
  shadow : t.tables.shadow = s.tables.shadow
  addressMap : t.tables.addressMap = s.tables.addressMap
  address : ∀ i, (t.record i).map Consumer.address = (s.record i).map Consumer.address

theorem State.Steady.refl (s : State) : s.Steady s := ⟨rfl, rfl, rfl, fun _ => rfl⟩

theorem setStage_steady (i : Nat) (stage : Stage) (s : State) : s.Steady (setStage i stage s) :=
  ⟨rfl, rfl, rfl, fun _ => rfl⟩

theorem State.Steady.trans {s t u : State} (h : s.Steady t) (k : t.Steady u) : s.Steady u :=
  ⟨k.active.trans h.active, k.shadow.trans h.shadow, k.addressMap.trans h.addressMap,
    fun i => (k.address i).trans (h.address i)⟩

theorem State.Steady.foldl {α : Type} (f : State → α → State) (hf : ∀ (s : State) (a : α), s.Steady (f s a))
    (l : List α) (s : State) : s.Steady (l.foldl f s) :=
  foldl_keeps (P := fun t => s.Steady t) (fun t a h => h.trans (hf t a)) l (.refl s)

theorem State.Gentle.steady {s t : State} (h : s.Gentle t) : s.Steady t where
  active := h.active
  shadow := h.shadow
  addressMap := h.addressMap
  address i := by
    have := congrArg (Option.map Gist.address) (h.gist i)
    rwa [Option.map_map, Option.map_map] at this

theorem State.KeepsRest.steady {s t : State} (h : s.KeepsRest t) : s.Steady t where
  active := h.active
  shadow := h.shadow
  addressMap := h.addressMap
  address i := by
    have := congrArg (Option.map Consumer.address) (h.records i)
    rwa [Option.map_map, Option.map_map] at this

theorem modifyRecord_steady {i : Nat} {f : Consumer → Consumer} {s : State}
    (hf : ∀ r, s.record i = some r → (f r).address = r.address) : s.Steady (s.modifyRecord i f) := by
  have haddress : ∀ j, ((s.modifyRecord i f).record j).map Consumer.address
      = (s.record j).map Consumer.address := fun j => by
    rw [record_modifyRecord]
    split
    · rename_i hij
      subst hij
      cases h : s.record i with
      | none => rfl
      | some r => exact congrArg some (hf r h)
    · rfl
  obtain ⟨l, -, e⟩ := modifyRecord_eq i f s
  rw [e] at haddress ⊢
  exact ⟨rfl, rfl, rfl, haddress⟩

theorem recontribute_steady {i : Nat} {f : State → State} {s : State} (h : s.Steady (f s)) :
    s.Steady (recontribute i f s) := by
  obtain ⟨sums, e⟩ := recontribute_sums i f s
  rw [e]
  exact ⟨h.active, h.shadow, h.addressMap, h.address⟩

theorem closeEntry_steady {i : Nat} {f : Consumer → Consumer} {s : State}
    (hf : ∀ r, s.record i = some r → (f r).address = r.address) : s.Steady (closeEntry i f s) :=
  recontribute_steady (State.Steady.trans (t := removeEntry i s) ⟨rfl, rfl, rfl, fun _ => rfl⟩ (modifyRecord_steady hf))

theorem endUnreported_steady (s : State) (e : MoveEntry) : s.Steady (endUnreported e s) := by
  unfold endUnreported noticeMoveFailed
  refine State.Steady.trans ?_ (handOverEnd_keeps e _).steady
  refine State.Steady.trans ?_ (raiseNotice_keeps _ _ _).steady
  exact closeEntry_steady fun _ _ => rfl

theorem entryAtCycleEnd_steady (s : State) (e : MoveEntry) : s.Steady (entryAtCycleEnd s e) := by
  unfold entryAtCycleEnd
  split
  · exact (withdraw_keeps _ e s).steady
  · split
    · exact endUnreported_steady s e
    · split
      · exact setStage_steady _ _ s
      · exact .refl s

theorem completePass_steady (pass : Pass) (s : State) : s.Steady (completePass pass s) := by
  have hmoved : s.Steady (pass.results.foldl revalidate (s, 0)).1 := by
    refine foldl_revalidate (P := fun t => s.Steady t) (fun sn m _ h => h.trans ?_) (.refl s)
    unfold revalidate
    split
    · exact (makeEntry_keeps _ _ _ _).steady
    · exact ⟨rfl, rfl, rfl, fun _ => rfl⟩
  exact (hmoved.trans (raiseNotice_keeps _ _ _).steady).trans ⟨rfl, rfl, rfl, fun _ => rfl⟩

/-- The changes that reach neither the Segment Tables nor an address. -/
theorem State.Change.steady_or {s t : State} (h : s.Change t) :
    s.Steady t ∨ t = afterTableWrite s ∨ t = triggerIfDue s ∨ t = completeFold s
      ∨ (∃ sources straps, t = startWith sources straps s)
      ∨ (∃ i valid parent weight limit, s.segmentRefusal i valid parent = none
          ∧ t = storeSegment i valid parent weight limit s)
      ∨ (∃ i w, i < Config.consumers ∧ s.engaged i = false ∧ w.Sound ∧ (∀ j, s.mapped w.address = some j → j = i)
          ∧ t = storeConsumer i w s)
      ∨ ∃ i r, s.record i = some r ∧ s.engaged i = false ∧ t = Machine.vacate i r s := by
  cases h with
  | gentle h => exact .inl h.steady
  | stage => exact .inl (setStage_steady _ _ s)
  | accept => exact .inl ((setStage_steady _ _ s).trans (modifyRecord_steady fun _ _ => rfl))
  | make o => exact .inl (makeEntry_keeps o _ _ s).steady
  | close i f hf => exact .inl (closeEntry_steady fun r hr => (hf r hr).address)
  | change i f hf => exact .inl (recontribute_steady (modifyRecord_steady fun r hr => (hf r hr).2.address))
  | prune _ hf =>
    refine .inl (modifyRecord_steady fun r _ => ?_)
    obtain ⟨a, e, -⟩ := hf r
    rw [e]
  | cycleEnd => exact .inl (.foldl _ entryAtCycleEnd_steady _ s)
  | reports => exact .inl (.foldl (fun s e => endUnreported e s) endUnreported_steady _ s)
  | replies =>
    exact .inl (.foldl (fun s (e : MoveEntry) => setStage e.consumer .unconfirmed s)
      (fun s _ => setStage_steady _ _ s) _ s)
  | written => exact .inr (.inl rfl)
  | trigger => exact .inr (.inr (.inl rfl))
  | fold => exact .inr (.inr (.inr (.inl rfl)))
  | search =>
    left
    unfold searchStep
    split
    · split
      · exact .refl s
      · exact ⟨rfl, rfl, rfl, fun _ => rfl⟩
    all_goals exact .refl s
  | completion =>
    left
    unfold completionStep
    split
    · split
      · exact completePass_steady _ s
      · exact .refl s
    all_goals exact .refl s
  | balancer => exact .inl ⟨rfl, rfl, rfl, fun _ => rfl⟩
  | start sources straps => exact .inr (.inr (.inr (.inr (.inl ⟨sources, straps, rfl⟩))))
  | segment weight limit hr => exact .inr (.inr (.inr (.inr (.inr (.inl ⟨_, _, _, weight, limit, hr, rfl⟩)))))
  | consumer i w hi he hw hm =>
    exact .inr (.inr (.inr (.inr (.inr (.inr (.inl ⟨i, w, hi, he, hw, hm, rfl⟩))))))
  | vacate i r hr he => exact .inr (.inr (.inr (.inr (.inr (.inr (.inr ⟨i, r, hr, he, rfl⟩))))))

/-! ### The tree rule (R2, R5) -/

theorem State.Steady.treesRight {s t : State} (h : s.Steady t) (hs : s.TreesRight) : t.TreesRight := by
  unfold State.TreesRight at hs ⊢
  rw [h.active, h.shadow]
  exact hs

theorem adopted_treesRight {s : State} (h : s.TreesRight) : (adopted s).TreesRight := by
  obtain ⟨sums, -, -, e⟩ := adopted_eq s
  rw [e]
  exact ⟨h.2, h.2⟩

theorem treesRight_adoptionSafe : AdoptionSafe State.TreesRight where
  gentle h := h.steady.treesRight
  adopted := adopted_treesRight
  startPass h := h
  remaining _ h := h

/-- A cold table holds segment 0 alone, and no record names a parent. -/
theorem coldTable_alone : ∀ i < Config.segments,
    (segmentAt Segment.coldTable i).weight ≤ 15 ∧ (segmentAt Segment.coldTable i).limit ≤ Config.noLimit
      ∧ (segmentAt Segment.coldTable i).parent = none ∧ (i = 0 ∨ (segmentAt Segment.coldTable i).valid = false) := by
  decide

theorem coldTable_treeRule : TreeRule Segment.coldTable := by
  refine ⟨rfl, rfl, fun i hi => ?_⟩
  obtain ⟨hweight, hlimit, hparent, halone⟩ := coldTable_alone i hi
  rw [hparent]
  exact ⟨hweight, hlimit, halone⟩

theorem startWith_tables (sources : ResetSources) (straps : Straps) (s : State) :
    (startWith sources straps s).tables = (startValues sources straps s).tables := by
  obtain ⟨_, _, e⟩ := queueNotice_eq .start [startRecordByte ⟨sources, sources.cold⟩]
    (rebuild (driveSelectLines (startValues sources straps s)))
  rw [startWith, e]
  rfl

theorem startValues_tables (sources : ResetSources) (straps : Straps) (s : State) :
    (startValues sources straps s).tables
      = if sources.cold then FeederTables.cold
        else s.tables.warm (s.management.started sources).active.queryTries := rfl

theorem startWith_treesRight (sources : ResetSources) (straps : Straps) {s : State} (h : s.TreesRight) :
    (startWith sources straps s).TreesRight := by
  unfold State.TreesRight
  rw [startWith_tables, startValues_tables]
  split
  · exact ⟨coldTable_treeRule, coldTable_treeRule⟩
  · exact ⟨h.1, h.1⟩

theorem segmentAt_set (t : List Segment) (i k : Nat) (seg : Segment) :
    segmentAt (t.set i seg) k = if i = k ∧ i < t.length then seg else segmentAt t k := by
  unfold segmentAt
  rw [List.getElem?_set]
  by_cases h : i = k
  · subst h
    by_cases hl : i < t.length
    · simp [hl]
    · simp [hl]
  · simp [h]

/-- The record that a WRITE SEGMENT stores (R5). -/
def writtenSegment (i valid parent weight limit : Nat) : Segment where
  valid := valid == 1
  parent := if i = 0 || valid != 1 then none else some parent
  weight := min weight 15
  limit := min limit Config.noLimit

/-- What the checks of a WRITE SEGMENT leave (R5): segment 0 stays valid, a valid segment hangs below a valid parent of
lower index, and a segment that goes out of use has no valid child. -/
theorem segmentRefusal_none {s : State} {i valid parent : Nat} (h : s.segmentRefusal i valid parent = none) :
    i < Config.segments ∧ (i = 0 → valid = 1)
      ∧ (i ≠ 0 → valid = 1 → parent < i ∧ (segmentAt s.tables.shadow parent).valid = true)
      ∧ (i ≠ 0 → valid ≠ 1 → ∀ seg ∈ s.tables.shadow, seg.valid = true → seg.parent ≠ some i) := by
  unfold State.segmentRefusal at h
  dsimp only at h
  split at h
  · cases h
  · split at h
    · cases h
    · refine ⟨by omega, fun h0 => ?_, fun h0 h1 => ?_, fun h0 h1 seg hseg hv hp => ?_⟩
      · rw [if_pos h0] at h
        split at h
        · cases h
        · omega
      · rw [if_neg h0, if_pos h1] at h
        split at h
        · cases h
        · split at h
          · cases h
          · rename_i hparent hvalid
            exact ⟨by omega, by simpa using hvalid⟩
      · rw [if_neg h0, if_neg h1] at h
        split at h
        · cases h
        · split at h
          · cases h
          · rename_i hchild
            exact hchild (List.any_eq_true.mpr ⟨seg, hseg, by simp [hv, hp]⟩)

theorem segmentAt_mem {t : List Segment} {k : Nat} (h : k < t.length) : segmentAt t k ∈ t := by
  unfold segmentAt
  rw [List.getElem?_eq_getElem h]
  exact List.getElem_mem h

/-- An accepted WRITE SEGMENT keeps the tree rule of the shadow (R2, R5). -/
theorem storeSegment_treeRule {s : State} {i valid parent : Nat} (weight limit : Nat)
    (hr : s.segmentRefusal i valid parent = none) (h : TreeRule s.tables.shadow) :
    TreeRule (s.tables.shadow.set i (writtenSegment i valid parent weight limit)) := by
  obtain ⟨hi, hroot, hchild, hleaf⟩ := segmentRefusal_none hr
  obtain ⟨hlen, h0, hrec⟩ := h
  have hat : ∀ k, segmentAt (s.tables.shadow.set i (writtenSegment i valid parent weight limit)) k
      = if i = k then writtenSegment i valid parent weight limit else segmentAt s.tables.shadow k := fun k => by
    rw [segmentAt_set]
    simp [hlen, hi]
  refine ⟨(List.length_set ..).trans hlen, ?_, fun k hk => ?_⟩
  · rw [hat]
    split
    · simp [writtenSegment, hroot (by assumption)]
    · exact h0
  · rw [hat k]
    by_cases hik : i = k
    · subst hik
      rw [if_pos rfl]
      refine ⟨Nat.min_le_right .., Nat.min_le_right .., ?_⟩
      by_cases hzero : i = 0
      · simp [writtenSegment, hzero]
      · by_cases hv : valid = 1
        · obtain ⟨hlt, hvp⟩ := hchild hzero hv
          have hparent : (writtenSegment i valid parent weight limit).parent = some parent := by
            simp [writtenSegment, hzero, hv]
          rw [hparent]
          refine ⟨hlt, by simp [writtenSegment, hv], ?_⟩
          rw [hat, if_neg (by omega)]
          exact hvp
        · simp [writtenSegment, hv]
    · rw [if_neg hik]
      obtain ⟨hw, hlim, hparent⟩ := hrec k hk
      refine ⟨hw, hlim, ?_⟩
      cases hp : (segmentAt s.tables.shadow k).parent with
      | none => rwa [hp] at hparent
      | some p =>
        rw [hp] at hparent
        obtain ⟨hlt, hvk, hvp⟩ := hparent
        refine ⟨hlt, hvk, ?_⟩
        rw [hat]
        split
        · rename_i hip
          by_cases hzero : i = 0
          · simp [writtenSegment, hroot hzero]
          · by_cases hv : valid = 1
            · simp [writtenSegment, hv]
            · exact absurd (hip ▸ hp) (hleaf hzero hv _ (segmentAt_mem (hlen ▸ hk)) hvk)
        · exact hvp

/-- Every change keeps the tree rule in both copies. -/
theorem State.Change.treesRight {s t : State} (h : s.Change t) (hs : s.TreesRight) : t.TreesRight := by
  rcases h.steady_or with h | rfl | rfl | rfl | ⟨sources, straps, rfl⟩ | ⟨i, valid, parent, weight, limit, hr, rfl⟩
    | ⟨i, w, -, -, -, -, rfl⟩ | ⟨i, r, -, -, rfl⟩
  · exact h.treesRight hs
  · exact treesRight_adoptionSafe.afterTableWrite hs
  · exact treesRight_adoptionSafe.triggerIfDue hs
  · exact treesRight_adoptionSafe.completeFold hs
  · exact startWith_treesRight sources straps hs
  · exact ⟨hs.1, storeSegment_treeRule weight limit hr hs.2⟩
  · obtain ⟨sums, e⟩ := writeRecord_eq i (some (s.writtenRecord i w)) s
    obtain ⟨m, -, e'⟩ := remap_eq i (s.record i) w.address (writeRecord i (some (s.writtenRecord i w)) s)
    rw [storeConsumer_eq, e', e]
    exact (delist_gentle i _).steady.treesRight hs
  · obtain ⟨sums, e⟩ := writeRecord_eq i none s
    rw [vacate_eq, e]
    exact (delist_gentle i _).steady.treesRight hs

/-- Settles O54: every change keeps the rule; the paths are those of `TreeRule.segmentPath_eq`. -/
theorem treeRuleIsKept : Obligations.TreeRuleIsKept := by
  refine ⟨fun s t hs hstep => step_keeps (fun _ _ hc h => hc.treesRight h) hs hstep, fun table i h _ hv => ?_⟩
  obtain ⟨hlast, hvalid⟩ := h.segmentPath_valid hv
  exact ⟨hlast, length_segmentPath_le table i, h.segmentPath_pairwise i,
    fun k hk => ⟨h.lt_of_mem_segmentPath hv hk, hvalid k hk⟩⟩

/-! ### The Address Map (R15, R19, R20) -/

theorem mapped_of_addressMap {s t : State} (h : t.tables.addressMap = s.tables.addressMap) (a : Byte) :
    t.mapped a = s.mapped a := by
  rw [State.mapped, h, State.mapped]

/-- A right map is right for every state that holds the same addresses. -/
theorem State.MapRight.congr {s t : State} (hm : ∀ a, t.mapped a = s.mapped a)
    (ha : ∀ i, (t.record i).map Consumer.address = (s.record i).map Consumer.address) (h : s.MapRight) :
    t.MapRight := by
  obtain ⟨hrec, hmap⟩ := h
  have hback : ∀ i r, t.record i = some r → ∃ r', s.record i = some r' ∧ r'.address = r.address := fun i r hr => by
    have := ha i
    rw [hr] at this
    simpa [Option.map_eq_some_iff] using this.symm
  refine ⟨fun i hi r hr => ?_, fun a i hai => ?_⟩
  · obtain ⟨r', hr', e⟩ := hback i r hr
    rw [← e, hm]
    exact hrec i hi r' hr'
  · rw [hm] at hai
    obtain ⟨hi, r, hr, e⟩ := hmap a i hai
    have := ha i
    rw [hr] at this
    obtain ⟨r', hr', e'⟩ := Option.map_eq_some_iff.mp this
    exact ⟨hi, r', hr', e'.trans e⟩

theorem State.Steady.mapRight {s t : State} (h : s.Steady t) (hs : s.MapRight) : t.MapRight :=
  hs.congr (mapped_of_addressMap h.addressMap) h.address

theorem copyFresh_address (s : State) (i : Nat) :
    ((copyFresh s).record i).map Consumer.address = (s.record i).map Consumer.address := by
  rw [copyFresh, record_mapRecords]
  cases s.record i <;> rfl

theorem mapRight_adoptionSafe : AdoptionSafe State.MapRight where
  gentle h := h.steady.mapRight
  adopted {s} h := by
    obtain ⟨sums, -, -, e⟩ := adopted_eq s
    rw [e]
    exact h
  startPass {s} h := h.congr (s := s) (t := startPass s) (fun _ => rfl) (copyFresh_address s)
  remaining _ h := h

theorem startWith_mapRight (sources : ResetSources) (straps : Straps) {s : State} (h : s.MapRight) :
    (startWith sources straps s).MapRight := by
  have htables := startWith_tables sources straps s
  rw [startValues_tables] at htables
  by_cases hc : sources.cold = true
  · rw [if_pos hc] at htables
    have hrec : ∀ i, (startWith sources straps s).record i = none := fun i => by
      simp only [State.record, htables, FeederTables.cold, List.getElem?_replicate]
      split <;> rfl
    have hmap : ∀ a, (startWith sources straps s).mapped a = none := fun a => by
      simp only [State.mapped, htables, FeederTables.cold, List.getElem?_replicate]
      split <;> rfl
    exact ⟨fun i _ r hr => by simp [hrec] at hr, fun a i ha => by simp [hmap] at ha⟩
  · rw [if_neg hc] at htables
    refine h.congr (mapped_of_addressMap (by rw [htables]; rfl)) fun i => ?_
    have := record_mapRecords s (warmRecord (s.management.started sources).active.queryTries) i
    rw [record_of_tables (t := startWith sources straps s)
      (s := { s with tables := s.tables.warm (s.management.started sources).active.queryTries }) htables]
    refine (congrArg (Option.map Consumer.address) this).trans ?_
    cases s.record i <;> rfl

/-- A written record takes its address from the old one, if any (R19). -/
theorem storeConsumer_mapRight {i : Nat} {w : ConsumerWrite} {s : State} (hf : s.Fits) (hi : i < Config.consumers)
    (hw : w.Sound) (hfree : ∀ j, s.mapped w.address = some j → j = i) (h : s.MapRight) :
    (storeConsumer i w s).MapRight := by
  obtain ⟨hrec, hmap⟩ := h
  have hlen : i < s.tables.consumers.length := hf.sized.2.2.2.1 ▸ hi
  have hrecord := fun j => record_storeConsumer i j w s
  have hmapped := fun b => mapped_storeConsumer i w b hf.sized.2.2.2.2
  refine ⟨fun j hj r hr => ?_, fun a j ha => ?_⟩
  · rw [hrecord] at hr
    by_cases hij : i = j
    · rw [if_pos ⟨hij, hlen⟩] at hr
      cases hr
      rw [writtenRecord_address, hmapped, if_pos rfl]
      exact ⟨hw.address.1, hw.address.2, by rw [hij]⟩
    · rw [if_neg fun h => hij h.1] at hr
      obtain ⟨hlow, hhigh, hj'⟩ := hrec j hj r hr
      refine ⟨hlow, hhigh, ?_⟩
      have hne : r.address ≠ w.address := fun e => hij (hfree j (e ▸ hj')).symm
      have hold : ((s.record i).any fun r' => r'.address = r.address) = false := by
        cases hri : s.record i with
        | none => rfl
        | some r' =>
          have : r'.address ≠ r.address := fun e => by
            have := (hrec i hi r' hri).2.2
            rw [e, hj'] at this
            exact hij (Option.some.inj this).symm
          simpa using this
      rw [hmapped, if_neg hne, hold]
      exact hj'
  · rw [hmapped] at ha
    rw [hrecord]
    by_cases haw : a = w.address
    · rw [if_pos haw] at ha
      cases ha
      exact ⟨hi, s.writtenRecord i w, by rw [if_pos ⟨rfl, hlen⟩], (writtenRecord_address ..).trans haw.symm⟩
    · rw [if_neg haw] at ha
      by_cases hold : (s.record i).any (fun r => r.address = a) = true
      · rw [if_pos hold] at ha
        cases ha
      · rw [if_neg hold] at ha
        obtain ⟨hj, r, hr, e⟩ := hmap a j ha
        have hij : i ≠ j := fun hij => hold (by rw [hij, hr]; simpa using e)
        exact ⟨hj, r, by rw [if_neg fun h => hij h.1]; exact hr, e⟩

theorem vacate_mapRight {i : Nat} {r : Consumer} {s : State} (hf : s.Fits) (hr : s.record i = some r)
    (h : s.MapRight) : (vacate i r s).MapRight := by
  obtain ⟨hrec, hmap⟩ := h
  have hlen := State.lt_of_record hr
  have hi : i < Config.consumers := hf.sized.2.2.2.1 ▸ hlen
  have hrecord := fun j => record_vacate i j r s
  have hmapped := fun b => mapped_vacate i r b hf.sized.2.2.2.2
  have hown := (hrec i hi r hr).2.2
  refine ⟨fun j hj r' hr' => ?_, fun a j ha => ?_⟩
  · rw [hrecord] at hr'
    by_cases hij : i = j
    · rw [if_pos ⟨hij, hlen⟩] at hr'
      cases hr'
    · rw [if_neg fun h => hij h.1] at hr'
      obtain ⟨hlow, hhigh, hj'⟩ := hrec j hj r' hr'
      have hne : r'.address ≠ r.address := fun e => by
        rw [e, hown] at hj'
        exact hij (Option.some.inj hj')
      exact ⟨hlow, hhigh, by rw [hmapped, if_neg hne]; exact hj'⟩
  · rw [hmapped] at ha
    by_cases har : a = r.address
    · rw [if_pos har] at ha
      cases ha
    · rw [if_neg har] at ha
      obtain ⟨hj, r', hr', e⟩ := hmap a j ha
      have hij : i ≠ j := fun hij => har (by rw [← e]; rw [hij, hr'] at hr; cases hr; rfl)
      exact ⟨hj, r', by rw [hrecord, if_neg fun h => hij h.1]; exact hr', e⟩

/-- Every change keeps a right Address Map. -/
theorem State.Change.mapRight {s t : State} (h : s.Change t) (hf : s.Fits) (hs : s.MapRight) : t.MapRight := by
  rcases h.steady_or with h | rfl | rfl | rfl | ⟨sources, straps, rfl⟩ | ⟨i, valid, parent, weight, limit, -, rfl⟩
    | ⟨i, w, hi, -, hw, hfree, rfl⟩ | ⟨i, r, hr, -, rfl⟩
  · exact h.mapRight hs
  · exact mapRight_adoptionSafe.afterTableWrite hs
  · exact mapRight_adoptionSafe.triggerIfDue hs
  · exact mapRight_adoptionSafe.completeFold hs
  · exact startWith_mapRight sources straps hs
  · exact hs
  · exact storeConsumer_mapRight hf hi hw hfree hs
  · exact vacate_mapRight hf hr hs

/-- An address outside 1 to 239 is mapped to nothing. -/
theorem State.MapRight.mapped_none {s : State} (h : s.MapRight) {a : Byte} (ha : a.toNat < 1 ∨ 239 < a.toNat) :
    s.mapped a = none := by
  cases hm : s.mapped a with
  | none => rfl
  | some i =>
    obtain ⟨hi, r, hr, rfl⟩ := h.2 a i hm
    obtain ⟨hlow, hhigh, -⟩ := h.1 i hi r hr
    omega

/-- Settles O55: every change keeps the map right, and a right map gives each address to one record. -/
theorem addressMapIsKept : Obligations.AddressMapIsKept := by
  intro s t hb hm hstep
  obtain ⟨hf, ht⟩ := step_keeps (P := fun s => s.Fits ∧ s.MapRight)
    (fun _ _ hc h => ⟨hc.fits h.1, hc.mapRight h.1 h.2⟩) ⟨hb.fits, hm⟩ hstep
  refine ⟨ht, fun i j r q hr hq e => ?_, ht.mapped_none (.inl (by decide)), fun a ha => ht.mapped_none (.inr (by omega))⟩
  have hlt : ∀ k x, t.record k = some x → k < Config.consumers := fun k x hx => hf.sized.2.2.2.1 ▸ State.lt_of_record hx
  have hi := (ht.1 i (hlt i r hr) r hr).2.2
  have hj := (ht.1 j (hlt j q hq) q hq).2.2
  rw [e, hj] at hi
  exact (Option.some.inj hi).symm

end Sys2Proof.Machine

namespace Sys2Proof.Machine

/-! ## The Move Schedule and the records it names are kept -/

/-- What of a record the Move Schedule answers to: its assigned phase, and its state while it moves. -/
def Consumer.pose (r : Consumer) : Phase × Option RecordState := (r.assigned, r.state.motion)

theorem motion_eq_some {st st' : RecordState} : st.motion = some st' ↔ st = st' ∧ st.moving = true := by
  unfold RecordState.motion
  split
  · rename_i h
    simp [h]
  · rename_i h
    simp [h]

theorem moving_recordState (st : Stage) : st.recordState.moving = true := by
  cases st <;> rfl

/-- No entry speaks of a record that is not ORDERED or ACCEPTED. -/
def State.Still (s : State) (i : Nat) : Prop := ∀ r, s.record i = some r → r.state.moving = false

/-- The schedule rule, by the pose of each record. -/
theorem State.scheduleRight_iff (s : State) :
    s.ScheduleRight ↔ (s.scheduler.schedule.map MoveEntry.consumer).Nodup
      ∧ (∀ e ∈ s.scheduler.schedule,
          (s.record e.consumer).map Consumer.pose = some (e.fromPhase, some e.stage.recordState))
      ∧ ∀ i p st, (s.record i).map Consumer.pose = some (p, some st) → ∃ e ∈ s.scheduler.schedule, e.consumer = i := by
  refine and_congr_right fun _ => and_congr (forall₂_congr fun e _ => ?_) ⟨fun h i p st hp => ?_, fun h i r hr hm => ?_⟩
  · simp only [Option.map_eq_some_iff, Consumer.pose, Prod.mk.injEq, motion_eq_some]
    refine exists_congr fun r => and_congr_right fun _ => ⟨fun ⟨hst, ha⟩ => ⟨ha, hst, ?_⟩, fun ⟨ha, hst, _⟩ => ⟨hst, ha⟩⟩
    rw [hst]
    exact moving_recordState _
  · obtain ⟨r, hr, e⟩ := Option.map_eq_some_iff.mp hp
    exact h i r hr (motion_eq_some.mp (Prod.mk.inj e).2).2
  · exact h i r.assigned r.state (Option.map_eq_some_iff.mpr ⟨r, hr, by
      rw [Consumer.pose, motion_eq_some.mpr ⟨rfl, hm⟩]⟩)

namespace State.ScheduleRight
variable {s t : State} {i : Nat}

theorem congr (h : s.ScheduleRight) (hsched : t.scheduler.schedule = s.scheduler.schedule)
    (hpose : ∀ i, (t.record i).map Consumer.pose = (s.record i).map Consumer.pose) : t.ScheduleRight := by
  rw [scheduleRight_iff] at h ⊢
  simpa only [hsched, hpose] using h

theorem gentle (h : s.ScheduleRight) (hg : s.Gentle t) : t.ScheduleRight :=
  h.congr hg.schedule fun i => by
    have := congrArg (Option.map fun g : Gist => (g.assigned, g.motion)) (hg.gist i)
    rwa [Option.map_map, Option.map_map] at this

theorem no_entry (h : s.ScheduleRight) (hi : s.Still i) : ∀ e ∈ s.scheduler.schedule, e.consumer ≠ i := fun e he hei => by
  obtain ⟨r, hr, hst, -⟩ := h.2.1 e he
  have := hi r (hei ▸ hr)
  rw [hst, moving_recordState] at this
  cases this

/-- The one entry that names a record. -/
theorem eq_of_consumer (h : s.ScheduleRight) {e x : MoveEntry} (he : e ∈ s.scheduler.schedule)
    (hx : x ∈ s.scheduler.schedule) (hc : x.consumer = e.consumer) : x = e :=
  List.inj_on_of_nodup_map h.1 hx he hc

/-- An entry leaves, and its record moves no more. -/
theorem filter (h : s.ScheduleRight)
    (hsched : t.scheduler.schedule = s.scheduler.schedule.filter fun e => e.consumer != i)
    (hother : ∀ j, j ≠ i → t.record j = s.record j) (hi : t.Still i) : t.ScheduleRight := by
  obtain ⟨hnodup, hentry, hmoving⟩ := h
  refine ⟨?_, fun e he => ?_, fun j r hr hm => ?_⟩
  · rw [hsched]
    exact hnodup.sublist (List.filter_sublist.map _)
  · rw [hsched, List.mem_filter] at he
    obtain ⟨r, hr, hrest⟩ := hentry e he.1
    exact ⟨r, by rw [hother _ (by simpa using he.2)]; exact hr, hrest⟩
  · have hj : j ≠ i := by
      rintro rfl
      rw [hi r hr] at hm
      cases hm
    obtain ⟨e, he, rfl⟩ := hmoving j r (hother j hj ▸ hr) hm
    exact ⟨e, by rw [hsched]; exact List.mem_filter.mpr ⟨he, by simpa using hj⟩, rfl⟩

/-- A record without an entry changes and does not start to move. -/
theorem still (h : s.ScheduleRight) (hsched : t.scheduler.schedule = s.scheduler.schedule) (hs : s.Still i)
    (hother : ∀ j, j ≠ i → t.record j = s.record j) (ht : t.Still i) : t.ScheduleRight := by
  refine h.filter (hsched.trans (List.filter_eq_self.mpr fun e he => ?_).symm) hother ht
  simpa using h.no_entry hs e he

/-- An entry is made for a record that did not move. -/
theorem append (h : s.ScheduleRight) {e : MoveEntry} (hsched : t.scheduler.schedule = s.scheduler.schedule ++ [e])
    (hs : s.Still e.consumer) (hother : ∀ j, j ≠ e.consumer → t.record j = s.record j)
    (ht : ∃ r, t.record e.consumer = some r ∧ r.state = e.stage.recordState ∧ r.assigned = e.fromPhase) :
    t.ScheduleRight := by
  have hfree := h.no_entry hs
  obtain ⟨hnodup, hentry, hmoving⟩ := h
  refine ⟨?_, fun x hx => ?_, fun j r hr hm => ?_⟩
  · rw [hsched, List.map_append, List.nodup_append]
    refine ⟨hnodup, List.nodup_singleton _, fun a ha b hb => ?_⟩
    obtain ⟨x, hx, rfl⟩ := List.mem_map.mp ha
    rw [List.map_singleton, List.mem_singleton] at hb
    exact hb ▸ hfree x hx
  · rw [hsched, List.mem_append, List.mem_singleton] at hx
    rcases hx with hx | rfl
    · obtain ⟨r, hr, hrest⟩ := hentry x hx
      exact ⟨r, by rw [hother _ (hfree x hx)]; exact hr, hrest⟩
    · exact ht
  · rw [hsched]
    by_cases hj : j = e.consumer
    · exact ⟨e, by simp, hj.symm⟩
    · obtain ⟨x, hx, hxj⟩ := hmoving j r (hother j hj ▸ hr) hm
      exact ⟨x, by simp [hx], hxj⟩

/-- An entry takes a stage, and its record the state that goes with it. -/
theorem restage (h : s.ScheduleRight) {e : MoveEntry} {st : Stage} (he : e ∈ s.scheduler.schedule)
    (hsched : t.scheduler.schedule = (setStage e.consumer st s).scheduler.schedule)
    (hother : ∀ j, j ≠ e.consumer → t.record j = s.record j)
    (hown : ∀ r, s.record e.consumer = some r → r.state = e.stage.recordState →
      ∃ r', t.record e.consumer = some r' ∧ r'.state = st.recordState ∧ r'.assigned = r.assigned) :
    t.ScheduleRight := by
  have hmap : t.scheduler.schedule.map MoveEntry.consumer = s.scheduler.schedule.map MoveEntry.consumer := by
    rw [hsched, setStage, List.map_map]
    refine List.map_congr_left fun x _ => ?_
    change MoveEntry.consumer (if x.consumer == e.consumer then _ else x) = _
    split <;> rfl
  have heq := fun x => h.eq_of_consumer (x := x) he
  obtain ⟨hnodup, hentry, hmoving⟩ := h
  refine ⟨hmap ▸ hnodup, fun x hx => ?_, fun j r hr hm => ?_⟩
  · rw [hsched] at hx
    obtain ⟨y, hy, rfl⟩ := List.mem_map.mp hx
    by_cases hc : y.consumer = e.consumer
    · obtain rfl := heq y hy hc
      obtain ⟨r, hr, hst, ha⟩ := hentry y hy
      obtain ⟨r', hr', hst', ha'⟩ := hown r hr hst
      simp only [beq_self_eq_true, if_true]
      exact ⟨r', hr', hst', ha'.trans ha⟩
    · rw [if_neg (by simpa using hc)]
      obtain ⟨r, hr, hrest⟩ := hentry y hy
      exact ⟨r, by rw [hother _ hc]; exact hr, hrest⟩
  · have hj : j ∈ s.scheduler.schedule.map MoveEntry.consumer := by
      by_cases hc : j = e.consumer
      · exact List.mem_map.mpr ⟨e, he, hc.symm⟩
      · obtain ⟨x, hx, hxj⟩ := hmoving j r (hother j hc ▸ hr) hm
        exact List.mem_map.mpr ⟨x, hx, hxj⟩
    rw [← hmap] at hj
    simpa using hj

end State.ScheduleRight

/-! ### The changes -/

theorem still_closeEntry {i : Nat} {f : Consumer → Consumer} {s : State}
    (hf : ∀ r, s.record i = some r → (f r).state.moving = false) : (closeEntry i f s).Still i := fun r hr => by
  rw [record_closeEntry, if_pos rfl, Option.map_eq_some_iff] at hr
  obtain ⟨r', hr', rfl⟩ := hr
  exact hf r' hr'

theorem closeEntry_scheduleRight {i : Nat} {f : Consumer → Consumer} {s : State}
    (hf : ∀ r, s.record i = some r → (f r).state.moving = false) (h : s.ScheduleRight) :
    (closeEntry i f s).ScheduleRight := by
  refine h.filter (i := i) ?_ (fun j hj => ?_) (still_closeEntry hf)
  · rw [closeEntry_schedule]
  · rw [record_closeEntry, if_neg (Ne.symm hj)]

theorem setStage_scheduleRight {e : MoveEntry} {s : State} (he : e ∈ s.scheduler.schedule) {st : Stage}
    (hst : st.recordState = e.stage.recordState) (h : s.ScheduleRight) : (setStage e.consumer st s).ScheduleRight :=
  h.restage he rfl (fun _ _ => rfl) fun r hr hs => ⟨r, hr, hs.trans hst.symm, rfl⟩

theorem acceptEntry_scheduleRight {e : MoveEntry} {s : State} (he : e ∈ s.scheduler.schedule) (h : s.ScheduleRight) :
    (acceptEntry e.consumer s).ScheduleRight := by
  have hrecord := fun j => record_modifyRecord (setStage e.consumer .accepted s) e.consumer j
    fun r => { r with state := .accepted }
  refine h.restage he (st := .accepted) ?_ (fun j hj => ?_) fun r hr _ => ?_
  · rw [acceptEntry, modifyRecord_scheduler]
  · rw [acceptEntry, hrecord, if_neg (Ne.symm hj)]
    rfl
  · refine ⟨{ r with state := .accepted }, ?_, rfl, rfl⟩
    rw [acceptEntry, hrecord, if_pos rfl]
    exact congrArg (Option.map _) hr

theorem orderRecord_scheduleRight {e : MoveEntry} {s : State} {r : Consumer} (hr : s.record e.consumer = some r)
    (hs : r.state.moving = false) (he : e.stage.recordState = .ordered) (hp : e.fromPhase = r.assigned)
    (h : s.ScheduleRight) : (orderRecord e e.consumer s).ScheduleRight := by
  have hsched : (orderRecord e e.consumer s).scheduler.schedule = s.scheduler.schedule ++ [e] := by
    obtain ⟨l, sums, -, eq⟩ := orderRecord_eq e e.consumer s
    rw [eq]
  refine h.append hsched (fun r' hr' => ?_) (fun j hj => ?_) ⟨{ r with state := .ordered }, ?_, he.symm, hp.symm⟩
  · rw [hr] at hr'
    cases hr'
    exact hs
  · rw [record_orderRecord, if_neg (Ne.symm hj)]
  · rw [record_orderRecord, if_pos rfl, hr]
    rfl

theorem makeEntry_scheduleRight {o : Origin} {i : Nat} {q : Phase} {s : State} {r : Consumer}
    (hr : s.record i = some r) (hs : r.state = .settled) (h : s.ScheduleRight) : (makeEntry o i q s).ScheduleRight := by
  rw [makeEntry_eq hr]
  exact (orderRecord_scheduleRight (e := s.newEntry o i r.assigned q) hr (by rw [hs]; rfl) rfl rfl h).gentle
    (delist_gentle i _)

theorem withdraw_scheduleRight (reason : Byte) (e : MoveEntry) {s : State} (h : s.ScheduleRight) :
    (withdraw reason e s).ScheduleRight :=
  ((closeEntry_scheduleRight (fun _ _ => rfl) h).gentle (raiseNotice_gentle _ _ _)).gentle (handOverEnd_gentle e _)

theorem moving_unreported (e : MoveEntry) (q : Query) (r : Consumer) : (unreported e q r).state.moving = false := by
  unfold unreported
  split <;> rfl

theorem endUnreported_scheduleRight (e : MoveEntry) {s : State} (h : s.ScheduleRight) :
    (endUnreported e s).ScheduleRight := by
  refine State.ScheduleRight.gentle ?_ (handOverEnd_gentle e _)
  refine State.ScheduleRight.gentle ?_ (raiseNotice_gentle _ _ _)
  exact closeEntry_scheduleRight (fun r _ => moving_unreported e _ r) h

theorem stage_of_replyDue {e : MoveEntry} {now : Word16} (h : e.replyDue now = true) : e.stage = .sent := by
  unfold MoveEntry.replyDue at h
  simpa using (Bool.and_eq_true_iff.mp h).2

theorem entryAtCycleEnd_scheduleRight (s : State) (e : MoveEntry) (he : e ∈ s.scheduler.schedule)
    (h : s.ScheduleRight) : (entryAtCycleEnd s e).ScheduleRight := by
  unfold entryAtCycleEnd
  split
  · exact withdraw_scheduleRight _ e h
  · split
    · exact endUnreported_scheduleRight e h
    · split
      · rename_i hdue
        exact setStage_scheduleRight he (by rw [stage_of_replyDue hdue]; rfl) h
      · exact h

/-- What a kept move finds at its record (R95). -/
theorem keepsMove_spec {s : State} {m : ChosenMove} (h : s.keepsMove m = true) :
    ∃ r, s.record m.consumer = some r ∧ r.state = .settled ∧ r.assigned = m.fromPhase
      ∧ r.allowed.get m.target = true := by
  unfold State.keepsMove at h
  split at h
  · rename_i r hr
    simp only [Bool.and_eq_true, decide_eq_true_eq, beq_iff_eq] at h
    exact ⟨r, hr, h.1.1.1.1.1.1.1.1.1.1, h.1.1.1.1.1.1.1.1.2, h.1.1.1.1.1.1.2⟩
  · cases h

theorem revalidate_scheduleRight (sn : State × Nat) (m : ChosenMove) (h : sn.1.ScheduleRight) :
    (revalidate sn m).1.ScheduleRight := by
  unfold revalidate
  split
  · rename_i hk
    obtain ⟨r, hr, hs, -⟩ := keepsMove_spec hk
    exact makeEntry_scheduleRight hr hs h
  · exact h.gentle (countStaleMove_gentle _)

theorem completePass_scheduleRight (pass : Pass) {s : State} (h : s.ScheduleRight) :
    (completePass pass s).ScheduleRight := by
  have hmoved : (pass.results.foldl revalidate (s, 0)).1.ScheduleRight :=
    foldl_revalidate (P := State.ScheduleRight) (fun sn m _ => revalidate_scheduleRight sn m) h
  unfold completePass
  exact (hmoved.gentle (raiseNotice_gentle _ _ _)).congr rfl fun _ => rfl

theorem scheduleRight_adoptionSafe : AdoptionSafe State.ScheduleRight where
  gentle hg h := h.gentle hg
  adopted {s} h := by
    obtain ⟨sums, -, -, e⟩ := adopted_eq s
    rw [e]
    exact h
  startPass {s} h := h.congr (t := startPass s) rfl fun i => by
    change Option.map _ ((copyFresh s).record i) = _
    rw [copyFresh, record_mapRecords]
    cases s.record i <;> rfl
  remaining _ h := h

theorem startWith_scheduler (sources : ResetSources) (straps : Straps) (s : State) :
    (startWith sources straps s).scheduler.schedule = [] := by
  obtain ⟨_, _, e⟩ := queueNotice_eq .start [startRecordByte ⟨sources, sources.cold⟩]
    (rebuild (driveSelectLines (startValues sources straps s)))
  rw [startWith, e]
  rfl

/-- The record at an index after a start (R25, R26). -/
theorem record_startWith (sources : ResetSources) (straps : Straps) (s : State) (i : Nat) :
    (startWith sources straps s).record i
      = if sources.cold then none
        else (s.record i).map (warmRecord (s.management.started sources).active.queryTries) := by
  have htables := startWith_tables sources straps s
  rw [startValues_tables] at htables
  split
  · rename_i hc
    rw [if_pos hc] at htables
    simp only [State.record, htables, FeederTables.cold, List.getElem?_replicate]
    split <;> rfl
  · rename_i hc
    rw [if_neg hc] at htables
    rw [record_of_tables (t := startWith sources straps s)
      (s := { s with tables := s.tables.warm (s.management.started sources).active.queryTries }) htables]
    exact record_mapRecords s (warmRecord (s.management.started sources).active.queryTries) i

theorem moving_warmRecord (tries : Nat) (r : Consumer) : (warmRecord tries r).state.moving = false := by
  unfold warmRecord
  dsimp only
  split <;> rfl

theorem startWith_scheduleRight (sources : ResetSources) (straps : Straps) (s : State) :
    (startWith sources straps s).ScheduleRight := by
  unfold State.ScheduleRight
  rw [startWith_scheduler]
  refine ⟨List.nodup_nil, fun _ he => absurd he List.not_mem_nil, fun i r hr hm => ?_⟩
  rw [record_startWith] at hr
  split at hr
  · cases hr
  · obtain ⟨r', -, rfl⟩ := Option.map_eq_some_iff.mp hr
    rw [moving_warmRecord] at hm
    cases hm

theorem still_of_engaged {s : State} {i : Nat} (h : s.engaged i = false) : s.Still i := fun r hr => by
  unfold State.engaged at h
  rw [hr] at h
  cases hst : r.state <;> simp_all [RecordState.moving]

theorem storeConsumer_schedule (i : Nat) (w : ConsumerWrite) (s : State) :
    (storeConsumer i w s).scheduler.schedule = s.scheduler.schedule := by
  obtain ⟨m, -, e⟩ := remap_eq i (s.record i) w.address (writeRecord i (some (s.writtenRecord i w)) s)
  obtain ⟨sums, e'⟩ := writeRecord_eq i (some (s.writtenRecord i w)) s
  rw [storeConsumer_eq, delist_scheduler, e, e']
  rfl

theorem vacate_schedule (i : Nat) (r : Consumer) (s : State) :
    (vacate i r s).scheduler.schedule = s.scheduler.schedule := by
  obtain ⟨sums, e⟩ := writeRecord_eq i none s
  rw [vacate_eq, delist_scheduler, e]
  rfl

theorem storeConsumer_scheduleRight {i : Nat} (w : ConsumerWrite) {s : State} (he : s.engaged i = false)
    (h : s.ScheduleRight) : (storeConsumer i w s).ScheduleRight := by
  refine h.still (storeConsumer_schedule i w s) (still_of_engaged he) (fun j hj => ?_) fun r hr => ?_
  · rw [record_storeConsumer, if_neg fun h => hj h.1.symm]
  · rw [record_storeConsumer] at hr
    split at hr
    · cases hr
      rw [writtenRecord_state]
      rfl
    · exact still_of_engaged he r hr

theorem vacate_scheduleRight {i : Nat} (r : Consumer) {s : State} (he : s.engaged i = false) (h : s.ScheduleRight) :
    (vacate i r s).ScheduleRight := by
  refine h.still (vacate_schedule i r s) (still_of_engaged he) (fun j hj => ?_) fun r' hr' => ?_
  · rw [record_vacate, if_neg fun h => hj h.1.symm]
  · rw [record_vacate] at hr'
    split at hr'
    · cases hr'
    · exact still_of_engaged he r' hr'

theorem changeRecord_scheduleRight {i : Nat} {f : Consumer → Consumer} {s : State}
    (hf : ∀ r, s.record i = some r → r.state.moving = false ∧ (f r).state.moving = false) (h : s.ScheduleRight) :
    (changeRecord i f s).ScheduleRight := by
  have hrecord := fun j => record_changeRecord i j f s
  refine h.still (i := i) ?_ (fun r hr => (hf r hr).1) (fun j hj => ?_) fun r hr => ?_
  · obtain ⟨l, sums, -, e⟩ := changeRecord_eq i f s
    rw [e]
  · rw [hrecord, if_neg (Ne.symm hj)]
  · rw [hrecord, if_pos rfl, Option.map_eq_some_iff] at hr
    obtain ⟨r', hr', rfl⟩ := hr
    exact (hf r' hr').2

/-- Every change keeps the schedule and the records it names in step. -/
theorem State.Change.scheduleRight {s t : State} (h : s.Change t) (hs : s.ScheduleRight) : t.ScheduleRight := by
  cases h with
  | gentle h => exact hs.gentle h
  | stage he st hst => exact setStage_scheduleRight he hst hs
  | accept he => exact acceptEntry_scheduleRight he hs
  | make o hr hset => exact makeEntry_scheduleRight hr hset hs
  | close i f hf => exact closeEntry_scheduleRight (fun r hr => (hf r hr).still) hs
  | change i f hf => exact changeRecord_scheduleRight (fun r hr => ⟨(hf r hr).1, (hf r hr).2.still⟩) hs
  | prune hi hf =>
    refine hs.congr (by rw [modifyRecord_scheduler]) fun j => ?_
    rw [record_modifyRecord]
    split
    · cases s.record j with
      | none => rfl
      | some r =>
        obtain ⟨a, e, -⟩ := hf r
        simp only [Option.map_some, e]
        rfl
    · rfl
  | cycleEnd =>
    exact foldl_entries entryAtCycleEnd_keepsOthers (fun s e _ => entryAtCycleEnd_scheduleRight s e) (fun _ he => he)
      hs.1 hs
  | reports => exact foldl_keeps (f := fun s e => endUnreported e s) (fun _ e => endUnreported_scheduleRight e) _ hs
  | replies =>
    refine foldl_entries (setStage_keepsOthers .unconfirmed) (fun t e hl he ht => ?_)
      (fun e he => List.mem_of_mem_filter he) (hs.1.sublist (List.filter_sublist.map _)) hs
    refine setStage_scheduleRight he ?_ ht
    rw [stage_of_replyDue (List.mem_filter.mp hl).2]
    rfl
  | written => exact scheduleRight_adoptionSafe.afterTableWrite hs
  | trigger => exact scheduleRight_adoptionSafe.triggerIfDue hs
  | fold => exact scheduleRight_adoptionSafe.completeFold hs
  | search =>
    unfold searchStep
    split
    · split
      · exact hs
      · exact hs
    all_goals exact hs
  | completion =>
    unfold completionStep
    split
    · split
      · exact completePass_scheduleRight _ hs
      · exact hs
    all_goals exact hs
  | balancer => exact hs
  | start sources straps => exact startWith_scheduleRight sources straps s
  | segment => exact hs
  | consumer i w _ he => exact storeConsumer_scheduleRight w he hs
  | vacate i r _ he => exact vacate_scheduleRight r he hs

end Sys2Proof.Machine

namespace Sys2Proof.Machine

/-! ## The Sum Table is kept at the subtree sums -/

/-- What of a record its contribution rests on (R11, R12). -/
def Consumer.share (r : Consumer) : Nat × Phase × Int × Bool × Bool :=
  (r.segment, r.assigned, r.stable, r.state.contributes, r.state.moving)

theorem contribution_congr {s t : State} {i : Nat} (ha : t.tables.active = s.tables.active)
    (hr : (t.record i).map Consumer.share = (s.record i).map Consumer.share)
    (he : (t.entryOf i).map MoveEntry.target = (s.entryOf i).map MoveEntry.target) :
    t.contribution i = s.contribution i := by
  have hown : ∀ (u : State) (r : Consumer), u.projectedOf i r
      = if r.state.moving then ((u.entryOf i).map MoveEntry.target).getD r.assigned else r.assigned := fun u r => by
    unfold State.projectedOf
    cases u.entryOf i <;> rfl
  unfold State.contribution
  cases hs : s.record i with
  | none =>
    rw [hs] at hr
    rw [Option.map_eq_none_iff.mp hr]
    rfl
  | some r =>
    rw [hs] at hr
    obtain ⟨r', hr', e⟩ := Option.map_eq_some_iff.mp hr
    simp only [Consumer.share, Prod.mk.injEq] at e
    obtain ⟨hsegment, hassigned, hstable, hcontributes, hmoving⟩ := e
    rw [hr']
    simp only [Option.bind_some, State.contributionOf, hown, ha, he, hsegment, hassigned, hstable, hcontributes, hmoving]

theorem moving_of_motion {st st' : RecordState} (h : st.motion = st'.motion) : st.moving = st'.moving := by
  unfold RecordState.motion at h
  split at h <;> split at h <;> simp_all

theorem Gist.share_eq {r r' : Consumer} (h : r'.gist = r.gist) : r'.share = r.share := by
  simp only [Consumer.gist, Gist.mk.injEq] at h
  obtain ⟨-, hsegment, -, hassigned, hstable, hcontributes, hmotion⟩ := h
  rw [Consumer.share, Consumer.share, hsegment, hassigned, hstable, hcontributes, moving_of_motion hmotion]

theorem State.Gentle.contribution {s t : State} (h : s.Gentle t) (i : Nat) : t.contribution i = s.contribution i := by
  refine contribution_congr h.active ?_ (by rw [State.entryOf, h.schedule, State.entryOf])
  have hg := h.gist i
  cases hs : s.record i with
  | none =>
    rw [hs] at hg
    rw [Option.map_eq_none_iff.mp hg]
  | some r =>
    rw [hs] at hg
    obtain ⟨r', hr', e⟩ := Option.map_eq_some_iff.mp hg
    rw [hr']
    exact congrArg some (Gist.share_eq e)

/-! ### The entry that names another record -/

theorem entryOf_removeEntry {i j : Nat} (s : State) (h : j ≠ i) : (removeEntry i s).entryOf j = s.entryOf j := by
  unfold State.entryOf removeEntry
  dsimp only
  rw [List.find?_filter]
  refine congrArg (fun p => s.scheduler.schedule.find? p) (funext fun e => ?_)
  by_cases he : e.consumer = j
  · simp [he, h]
  · simp [he]

theorem entryOf_append {s t : State} {e : MoveEntry} {j : Nat}
    (ht : t.scheduler.schedule = s.scheduler.schedule ++ [e]) (h : j ≠ e.consumer) : t.entryOf j = s.entryOf j := by
  have : (e.consumer == j) = false := by simpa using Ne.symm h
  rw [State.entryOf, ht, List.find?_append, State.entryOf]
  simp [this]

theorem target_setStage (i : Nat) (st : Stage) (s : State) (j : Nat) :
    ((setStage i st s).entryOf j).map MoveEntry.target = (s.entryOf j).map MoveEntry.target := by
  unfold State.entryOf setStage
  dsimp only
  rw [List.find?_map, Option.map_map]
  have hsame : ((fun e : MoveEntry => e.consumer == j) ∘ fun e => if e.consumer == i then { e with stage := st } else e)
      = fun e => e.consumer == j := funext fun e => by
    simp only [Function.comp_apply]
    split <;> rfl
  rw [hsame]
  refine congrArg (fun f => Option.map f _) (funext fun e => ?_)
  simp only [Function.comp_apply]
  split <;> rfl

/-! ### Right sums -/

/-- Right sums over a right tree. -/
structure State.Summed (s : State) : Prop where
  tree : TreeRule s.tables.active
  length : s.balancer.sums.length = Config.segments
  right : s.SumsRight

namespace State.Summed
variable {s t : State} {i : Nat}

theorem congr (h : s.Summed) (ha : t.tables.active = s.tables.active) (hb : t.balancer.sums = s.balancer.sums)
    (hn : t.tables.consumers.length = s.tables.consumers.length)
    (hc : ∀ j, t.contribution j = s.contribution j) : t.Summed :=
  ⟨ha ▸ h.tree, hb ▸ h.length, h.right.congr ha hb hn hc⟩

theorem gentle (h : s.Summed) (hg : s.Gentle t) : t.Summed :=
  h.congr hg.active (by rw [hg.balancer]) hg.size hg.contribution

/-- A change of one record, its contribution handed over (R85). -/
theorem recontribute {f : State → State} (h : s.Summed) (ha : (f s).tables.active = s.tables.active)
    (hb : (f s).balancer.sums = s.balancer.sums)
    (hn : (f s).tables.consumers.length = s.tables.consumers.length)
    (hr : ∀ j, j ≠ i → (f s).record j = s.record j)
    (he : ∀ j, j ≠ i → (f s).entryOf j = s.entryOf j) : (Machine.recontribute i f s).Summed := by
  have hright := recontribute_sumsRight h.tree h.length ha hb hn
    (fun j hj => contribution_congr ha (by rw [hr j hj]) (by rw [he j hj])) h.right
  have hlength : (Machine.recontribute i f s).balancer.sums.length = Config.segments := by
    rw [recontribute_eq]
    dsimp only
    split
    · rw [hb, h.length]
    · simp [hb, h.length]
  obtain ⟨sums, e⟩ := recontribute_sums i f s
  exact ⟨by rw [e]; exact ha ▸ h.tree, hlength, hright⟩

theorem closeEntry (h : s.Summed) (f : Consumer → Consumer) : (Machine.closeEntry i f s).Summed := by
  obtain ⟨l, hl, e⟩ := modifyRecord_eq i f (removeEntry i s)
  refine h.recontribute (by rw [e]; rfl) (by rw [e]; rfl) (by rw [e]; exact hl) (fun j hj => ?_) fun j hj => ?_
  · rw [record_modifyRecord, if_neg (Ne.symm hj)]
    rfl
  · rw [e]
    exact entryOf_removeEntry s hj

theorem changeRecord (h : s.Summed) (f : Consumer → Consumer) : (Machine.changeRecord i f s).Summed := by
  obtain ⟨l, hl, e⟩ := modifyRecord_eq i f s
  refine h.recontribute (by rw [e]) (by rw [e]) (by rw [e]; exact hl) (fun j hj => ?_) fun j hj => ?_
  · rw [record_modifyRecord, if_neg (Ne.symm hj)]
  · rw [e]
    rfl

theorem orderRecord (h : s.Summed) (e : MoveEntry) : (Machine.orderRecord e e.consumer s).Summed := by
  obtain ⟨l, hl, eq⟩ := modifyRecord_eq e.consumer (fun r => { r with state := .ordered }) (appendEntry e s)
  refine h.recontribute (by rw [eq]; rfl) (by rw [eq]; rfl) (by rw [eq]; exact hl) (fun j hj => ?_) fun j hj => ?_
  · rw [record_modifyRecord, if_neg (Ne.symm hj)]
    rfl
  · rw [eq]
    exact entryOf_append (t := appendEntry e s) rfl hj

theorem makeEntry (h : s.Summed) (o : Origin) (q : Phase) : (Machine.makeEntry o i q s).Summed := by
  cases hr : s.record i with
  | none => rwa [Machine.makeEntry, hr]
  | some r =>
    rw [makeEntry_eq hr]
    exact (h.orderRecord (s.newEntry o i r.assigned q)).gentle (delist_gentle i _)

theorem writeRecord (h : s.Summed) (r : Option Consumer) : (Machine.writeRecord i r s).Summed :=
  h.recontribute rfl rfl (List.length_set ..)
    (fun j hj => by rw [record_setRecord, if_neg fun h => hj h.1.symm]) fun _ _ => rfl

/-- A record keeps what its contribution rests on. -/
theorem modifyRecord {f : Consumer → Consumer} (h : s.Summed)
    (hf : ∀ r, s.record i = some r → (f r).share = r.share) : (s.modifyRecord i f).Summed := by
  have hrecord : ∀ j, ((s.modifyRecord i f).record j).map Consumer.share = (s.record j).map Consumer.share := fun j => by
    rw [record_modifyRecord]
    split
    · rename_i hij
      subst hij
      cases hr : s.record i with
      | none => rfl
      | some r => exact congrArg some (hf r hr)
    · rfl
  obtain ⟨l, hl, e⟩ := modifyRecord_eq i f s
  rw [e] at hrecord ⊢
  exact h.congr rfl rfl hl fun j => contribution_congr rfl (hrecord j) rfl

theorem setStage (h : s.Summed) (st : Stage) : (Machine.setStage i st s).Summed :=
  h.congr rfl rfl rfl fun j => contribution_congr rfl rfl (target_setStage i st s j)

theorem acceptEntry {e : MoveEntry} (h : s.Summed) (hs : s.ScheduleRight) (he : e ∈ s.scheduler.schedule) :
    (Machine.acceptEntry e.consumer s).Summed := by
  refine (h.setStage .accepted).modifyRecord fun r hr => ?_
  obtain ⟨r', hr', hst, -⟩ := hs.2.1 e he
  obtain rfl : r' = r := Option.some.inj (hr'.symm.trans hr)
  have hcontributes : ∀ st : Stage, st.recordState.contributes = true := fun st => by cases st <;> rfl
  simp only [Consumer.share, hst, hcontributes, moving_recordState]
  rfl

theorem withdraw (h : s.Summed) (reason : Byte) (e : MoveEntry) : (Machine.withdraw reason e s).Summed :=
  ((h.closeEntry _).gentle (raiseNotice_gentle _ _ _)).gentle (handOverEnd_gentle e _)

theorem endUnreported (h : s.Summed) (e : MoveEntry) : (Machine.endUnreported e s).Summed := by
  refine Summed.gentle ?_ (handOverEnd_gentle e _)
  refine Summed.gentle ?_ (raiseNotice_gentle _ _ _)
  exact h.closeEntry _

theorem entryAtCycleEnd (h : s.Summed) (e : MoveEntry) : (Machine.entryAtCycleEnd s e).Summed := by
  unfold Machine.entryAtCycleEnd
  split
  · exact h.withdraw _ e
  · split
    · exact h.endUnreported e
    · split
      · exact h.setStage _
      · exact h

theorem revalidate {sn : State × Nat} (h : sn.1.Summed) (m : ChosenMove) : (Machine.revalidate sn m).1.Summed := by
  unfold Machine.revalidate
  split
  · exact h.makeEntry _ _
  · exact h.gentle (countStaleMove_gentle _)

theorem completePass (h : s.Summed) (pass : Pass) : (Machine.completePass pass s).Summed := by
  have hmoved : (pass.results.foldl Machine.revalidate (s, 0)).1.Summed :=
    foldl_revalidate (P := State.Summed) (fun sn m _ h => h.revalidate m) h
  unfold Machine.completePass
  exact (hmoved.gentle (raiseNotice_gentle _ _ _)).congr rfl rfl rfl fun _ => rfl

theorem storeConsumer (h : s.Summed) (w : ConsumerWrite) : (Machine.storeConsumer i w s).Summed := by
  obtain ⟨m, -, e⟩ := remap_eq i (s.record i) w.address (Machine.writeRecord i (some (s.writtenRecord i w)) s)
  rw [storeConsumer_eq, e]
  have hmap : State.Summed { Machine.writeRecord i (some (s.writtenRecord i w)) s with tables.addressMap := m } :=
    (h.writeRecord (some (s.writtenRecord i w))).congr rfl rfl rfl fun _ => rfl
  exact (hmap.gentle (leaveQueue_gentle i _)).gentle (delist_gentle i _)

theorem vacate (h : s.Summed) (r : Consumer) : (Machine.vacate i r s).Summed := by
  rw [vacate_eq]
  have hmap : ((Machine.writeRecord i none s).setMap r.address none).Summed :=
    (h.writeRecord none).congr rfl rfl rfl fun _ => rfl
  exact (hmap.gentle (leaveQueue_gentle i _)).gentle (delist_gentle i _)

/-- A rebuild makes the sums right (R84). -/
theorem rebuild (h : TreeRule s.tables.active) : (Machine.rebuild s).Summed :=
  ⟨h, rebuild_length s, rebuild_sumsRight h⟩

end State.Summed

/-- An adoption takes the sums of the tree it takes: rebuilt where the tree is another (R83, R84). -/
theorem summed_adoptionSafe : AdoptionSafe fun s => s.TreesRight ∧ s.Summed where
  gentle hg h := ⟨hg.steady.treesRight h.1, h.2.gentle hg⟩
  adopted {s} h := by
    refine ⟨adopted_treesRight h.1, ?_⟩
    obtain ⟨sums, hsame, hnew, e⟩ := adopted_eq s
    rw [e]
    by_cases hs : s.tables.shadow = s.tables.active
    · rw [hsame hs]
      refine h.2.congr hs rfl rfl fun j => ?_
      exact contribution_congr hs rfl rfl
    · rw [hnew hs]
      exact State.Summed.rebuild (s := driveSelectLines (takeShadows s)) h.1.2
  startPass {s} h := by
    refine ⟨h.1, ?_⟩
    exact (State.Summed.rebuild (s := copyFresh s) h.1.1).congr rfl rfl rfl fun _ => rfl
  remaining n h := ⟨h.1, h.2.congr rfl rfl rfl fun _ => rfl⟩

theorem startWith_summed (sources : ResetSources) (straps : Straps) {s : State} (h : s.TreesRight) :
    (startWith sources straps s).Summed := by
  refine State.Summed.gentle (State.Summed.rebuild ?_) (queueNotice_gentle _ _ _)
  have := (startWith_treesRight sources straps h).1
  rwa [startWith_tables] at this

/-- Every change keeps right sums. -/
theorem State.Change.summed {s t : State} (h : s.Change t) (htrees : s.TreesRight) (hsched : s.ScheduleRight)
    (hs : s.Summed) : t.Summed := by
  cases h with
  | gentle h => exact hs.gentle h
  | stage _ st => exact hs.setStage st
  | accept he => exact hs.acceptEntry hsched he
  | make o => exact hs.makeEntry o _
  | close i f => exact hs.closeEntry f
  | change i f => exact hs.changeRecord f
  | prune _ hf =>
    refine hs.modifyRecord fun r _ => ?_
    obtain ⟨a, e, -⟩ := hf r
    rw [e]
    rfl
  | cycleEnd => exact foldl_keeps (fun _ e h => h.entryAtCycleEnd e) _ hs
  | reports => exact foldl_keeps (f := fun s e => endUnreported e s) (fun _ e h => h.endUnreported e) _ hs
  | replies =>
    exact foldl_keeps (f := fun s (e : MoveEntry) => Machine.setStage e.consumer .unconfirmed s)
      (fun _ _ h => h.setStage _) _ hs
  | written => exact (summed_adoptionSafe.afterTableWrite ⟨htrees, hs⟩).2
  | trigger => exact (summed_adoptionSafe.triggerIfDue ⟨htrees, hs⟩).2
  | fold => exact (summed_adoptionSafe.completeFold ⟨htrees, hs⟩).2
  | search =>
    unfold searchStep
    split
    · split
      · exact hs
      · exact hs.congr rfl rfl rfl fun _ => rfl
    all_goals exact hs
  | completion =>
    unfold completionStep
    split
    · split
      · exact hs.completePass _
      · exact hs
    all_goals exact hs
  | balancer => exact hs.congr rfl rfl rfl fun _ => rfl
  | start sources straps => exact startWith_summed sources straps htrees
  | segment => exact hs.congr rfl rfl rfl fun _ => rfl
  | consumer i w => exact hs.storeConsumer w
  | vacate i r => exact hs.vacate r

/-- Settles O57: every change hands its contributions over, and every new tree has its sums rebuilt. -/
theorem sumTableIsKept : Obligations.SumTableIsKept := by
  intro s t hb htrees hsched hsums hstep
  have hsummed : s.Summed := ⟨htrees.1, hb.fits.sums, hsums⟩
  exact (step_keeps (P := fun s => s.TreesRight ∧ s.ScheduleRight ∧ s.Summed)
    (fun _ _ hc h => ⟨hc.treesRight h.1, hc.scheduleRight h.2.1, hc.summed h.1 h.2.1 h.2.2⟩)
    ⟨htrees, hsched, hsummed⟩ hstep).2.2.right

end Sys2Proof.Machine

namespace Sys2Proof.Machine

/-! ## Records stay in range, and moves aim at allowed phases -/

/-- The target of every entry is off its from phase and in its record's allowed set (R102, R109). -/
def State.EntriesAim (s : State) : Prop :=
  ∀ e ∈ s.scheduler.schedule,
    e.target ≠ e.fromPhase ∧ ∃ r, s.record e.consumer = some r ∧ r.allowed.get e.target = true

namespace State.EntriesAim
variable {s t : State} {i : Nat}

theorem congr (h : s.EntriesAim) (hsched : t.scheduler.schedule = s.scheduler.schedule)
    (hallowed : ∀ i, (t.record i).map Consumer.allowed = (s.record i).map Consumer.allowed) : t.EntriesAim := fun e he => by
  obtain ⟨hne, r, hr, hq⟩ := h e (hsched ▸ he)
  have hsame := hallowed e.consumer
  rw [hr] at hsame
  obtain ⟨r', hr', e'⟩ := Option.map_eq_some_iff.mp hsame
  exact ⟨hne, r', hr', e' ▸ hq⟩

/-- The entries left name records that have not changed. -/
theorem sublist (h : s.EntriesAim)
    (hsched : ∀ e ∈ t.scheduler.schedule, e ∈ s.scheduler.schedule ∧ e.consumer ≠ i)
    (hother : ∀ j, j ≠ i → t.record j = s.record j) : t.EntriesAim := fun e he => by
  obtain ⟨hmem, hne⟩ := hsched e he
  obtain ⟨haim, r, hr, hq⟩ := h e hmem
  exact ⟨haim, r, (hother _ hne).trans hr, hq⟩

theorem setStage (h : s.EntriesAim) (st : Stage) : (Machine.setStage i st s).EntriesAim := fun e he => by
  obtain ⟨x, hx, rfl⟩ := List.mem_map.mp he
  have hsame : (if x.consumer == i then { x with stage := st } else x).consumer = x.consumer
      ∧ (if x.consumer == i then { x with stage := st } else x).target = x.target
      ∧ (if x.consumer == i then { x with stage := st } else x).fromPhase = x.fromPhase := by
    split <;> exact ⟨rfl, rfl, rfl⟩
  obtain ⟨hconsumer, htarget, hfrom⟩ := hsame
  rw [hconsumer, htarget, hfrom]
  exact h x hx

end State.EntriesAim

/-- Records are in range when each comes of one in range with the same rescue attempts, and the list is the same. -/
theorem State.RecordsRight.of_records {s t : State} (h : s.RecordsRight) (hlist : t.rescue.list = s.rescue.list)
    (hr : ∀ j r', t.record j = some r' →
      ∃ r, s.record j = some r ∧ (r.Ranged → r'.Ranged) ∧ (r'.rescue = r.rescue ∨ r'.rescue = none)) :
    t.RecordsRight := by
  rw [State.recordsRight_iff] at h ⊢
  intro j r' hj
  obtain ⟨r, hs, hranged, hrescue⟩ := hr j r' hj
  obtain ⟨hrange, hattempts⟩ := h j r hs
  refine ⟨hranged hrange, ?_⟩
  rcases hrescue with e | e
  · rw [e, hlist]
    exact hattempts
  · rw [e]
    exact attemptsInRange_none _

/-- What the ranges of records rest on and keep: sizes, the schedule rule, the aims of its entries, the ranges. -/
structure State.Ordered (s : State) : Prop where
  fits : s.Fits
  schedule : s.ScheduleRight
  aims : s.EntriesAim
  records : s.RecordsRight

namespace State.Ordered
variable {s t : State} {i : Nat}

theorem gentle (h : s.Ordered) (hg : s.Gentle t) : t.Ordered where
  fits := hg.fits h.fits
  schedule := h.schedule.gentle hg
  aims := h.aims.congr hg.schedule fun i => by
    have := congrArg (Option.map Gist.allowed) (hg.gist i)
    rwa [Option.map_map, Option.map_map] at this
  records := hg.records h.fits h.records

theorem ranged (h : s.Ordered) {r : Consumer} (hr : s.record i = some r) : r.Ranged :=
  (s.recordsRight_iff.mp h.records i r hr).1

/-- An entry ends, its record in range and at rest. -/
theorem closeEntry (h : s.Ordered) {f : Consumer → Consumer}
    (hf : ∀ r, s.record i = some r → (f r).state.moving = false ∧ (r.Ranged → (f r).Ranged) ∧ (f r).rescue = r.rescue) :
    (Machine.closeEntry i f s).Ordered where
  fits := closeEntry_fits i f h.fits
  schedule := closeEntry_scheduleRight (fun r hr => (hf r hr).1) h.schedule
  aims := by
    refine h.aims.sublist (i := i) (fun e he => ?_) fun j hj => ?_
    · rw [closeEntry_schedule] at he
      obtain ⟨hmem, hne⟩ := List.mem_filter.mp he
      exact ⟨hmem, by simpa using hne⟩
    · rw [record_closeEntry, if_neg (Ne.symm hj)]
  records := by
    refine h.records.of_records ?_ fun j r' hr' => ?_
    · obtain ⟨l, sums, -, e⟩ := closeEntry_eq i f s
      rw [e]
    · rw [record_closeEntry] at hr'
      split at hr'
      · rename_i hij
        subst hij
        obtain ⟨r, hr, rfl⟩ := Option.map_eq_some_iff.mp hr'
        exact ⟨r, hr, (hf r hr).2.1, .inl (hf r hr).2.2⟩
      · exact ⟨r', hr', id, .inl rfl⟩

theorem changeRecord (h : s.Ordered) {f : Consumer → Consumer}
    (hf : ∀ r, s.record i = some r → r.state.moving = false ∧ r.Closes (f r)) :
    (Machine.changeRecord i f s).Ordered := by
  have hrecord := fun j => record_changeRecord i j f s
  obtain ⟨l, sums, -, e⟩ := changeRecord_eq i f s
  have hfree := h.schedule.no_entry (i := i) fun r hr => (hf r hr).1
  refine ⟨recontribute_fits (modifyRecord_fits i f h.fits),
    changeRecord_scheduleRight (fun r hr => ⟨(hf r hr).1, (hf r hr).2.still⟩) h.schedule,
    h.aims.sublist (i := i) (fun x hx => ?_) (fun j hj => ?_), h.records.of_records (by rw [e]) fun j r' hr' => ?_⟩
  · rw [e] at hx
    exact ⟨hx, hfree x hx⟩
  · rw [hrecord, if_neg (Ne.symm hj)]
  · rw [hrecord] at hr'
    split at hr'
    · rename_i hij
      subst hij
      obtain ⟨r, hr, rfl⟩ := Option.map_eq_some_iff.mp hr'
      exact ⟨r, hr, (hf r hr).2.ranged, .inl (hf r hr).2.rescue⟩
    · exact ⟨r', hr', id, .inl rfl⟩

theorem makeEntry (h : s.Ordered) (o : Origin) {q : Phase} {r : Consumer} (hr : s.record i = some r)
    (hs : r.state = .settled) (hroom : s.scheduler.schedule.length < Config.scheduleRoom) (hq : q ≠ r.assigned)
    (ha : r.allowed.get q = true) : (Machine.makeEntry o i q s).Ordered := by
  have hfits := makeEntry_fits o i q h.fits hroom
  rw [makeEntry_eq hr]
  obtain ⟨l, sums, hl, eq⟩ := orderRecord_eq (s.newEntry o i r.assigned q) i s
  have hrecord := record_orderRecord (s.newEntry o i r.assigned q) i
  refine State.Ordered.gentle ⟨?_, ?_, fun x hx => ?_, ?_⟩ (delist_gentle i _)
  · refine recontribute_fits (modifyRecord_fits i _ (s := appendEntry _ s) ?_)
    exact { h.fits with schedule := by simpa [appendEntry] using hroom, tag := nextTag_ne_zero _ }
  · exact orderRecord_scheduleRight (e := s.newEntry o i r.assigned q) hr (by rw [hs]; rfl) rfl rfl h.schedule
  · have hx' : x ∈ s.scheduler.schedule ∨ x = s.newEntry o i r.assigned q := by
      rw [eq] at hx
      simpa using hx
    rw [hrecord]
    rcases hx' with hx | rfl
    · obtain ⟨hne, r', hr', ha'⟩ := h.aims x hx
      refine ⟨hne, ?_⟩
      rw [hr']
      split
      · exact ⟨_, rfl, ha'⟩
      · exact ⟨_, rfl, ha'⟩
    · refine ⟨hq, { r with state := .ordered }, ?_, ha⟩
      change (if i = i then (s.record i).map _ else _) = _
      rw [if_pos rfl, hr]
      rfl
  · refine h.records.of_records (by rw [eq]) fun j r' hr' => ?_
    rw [hrecord] at hr'
    split at hr'
    · obtain ⟨r₀, hr₀, rfl⟩ := Option.map_eq_some_iff.mp hr'
      exact ⟨r₀, hr₀, fun h => { h with }, .inl rfl⟩
    · exact ⟨r', hr', id, .inl rfl⟩

theorem setStage (h : s.Ordered) {e : MoveEntry} (he : e ∈ s.scheduler.schedule) {st : Stage}
    (hst : st.recordState = e.stage.recordState) : (Machine.setStage e.consumer st s).Ordered :=
  ⟨setStage_fits _ _ h.fits, setStage_scheduleRight he hst h.schedule, h.aims.setStage st, h.records⟩

/-- A record keeps its allowed set, its ranges and its attempts. -/
theorem modify_records {f : Consumer → Consumer} (h : s.RecordsRight)
    (hf : ∀ r : Consumer, (r.Ranged → (f r).Ranged) ∧ (f r).rescue = r.rescue) : (s.modifyRecord i f).RecordsRight := by
  obtain ⟨l, -, e⟩ := modifyRecord_eq i f s
  refine h.of_records (by rw [e]) fun j r' hr' => ?_
  rw [record_modifyRecord] at hr'
  split at hr'
  · obtain ⟨r, hr, rfl⟩ := Option.map_eq_some_iff.mp hr'
    exact ⟨r, hr, (hf r).1, .inl (hf r).2⟩
  · exact ⟨r', hr', id, .inl rfl⟩

theorem acceptEntry (h : s.Ordered) {e : MoveEntry} (he : e ∈ s.scheduler.schedule) :
    (Machine.acceptEntry e.consumer s).Ordered where
  fits := modifyRecord_fits _ _ (setStage_fits _ _ h.fits)
  schedule := acceptEntry_scheduleRight he h.schedule
  aims := by
    refine (h.aims.setStage (i := e.consumer) .accepted).congr ?_ fun j => ?_
    · rw [Machine.acceptEntry, modifyRecord_scheduler]
    · rw [Machine.acceptEntry, record_modifyRecord]
      split
      · rw [Option.map_map]
        rfl
      · rfl
  records := modify_records (s := Machine.setStage e.consumer .accepted s) h.records
    fun _ => ⟨fun h => { h with }, rfl⟩

/-- A record that no entry names loses a phase other than its own. -/
theorem prune (h : s.Ordered) {f : Consumer → Consumer} (hi : ∀ e ∈ s.scheduler.schedule, e.consumer ≠ i)
    (hf : ∀ r, ∃ a : PhaseSet, f r = { r with allowed := a } ∧ a.get r.assigned = r.allowed.get r.assigned) :
    (s.modifyRecord i f).Ordered where
  fits := modifyRecord_fits i f h.fits
  schedule := (State.Change.prune hi hf).scheduleRight h.schedule
  aims := by
    refine h.aims.sublist (i := i) (fun e he => ?_) fun j hj => ?_
    · rw [modifyRecord_scheduler] at he
      exact ⟨he, hi e he⟩
    · rw [record_modifyRecord, if_neg (Ne.symm hj)]
  records := modify_records h.records fun r => by
    obtain ⟨a, e, ha⟩ := hf r
    rw [e]
    exact ⟨fun h => { h with allowed := ha.trans h.allowed }, rfl⟩

theorem withdraw (h : s.Ordered) (reason : Byte) (e : MoveEntry) : (Machine.withdraw reason e s).Ordered := by
  refine State.Ordered.gentle ?_ (handOverEnd_gentle e _)
  refine State.Ordered.gentle ?_ (raiseNotice_gentle _ _ _)
  exact h.closeEntry fun r _ => ⟨rfl, (close_settled r).ranged, rfl⟩

/-- A record that is taken to be at its entry's target stays in range, the target being allowed (R123). -/
theorem unreported_ranged {e : MoveEntry} {q : Query} {r : Consumer} (ha : r.allowed.get e.target = true)
    (h : r.Ranged) : (unreported e q r).Ranged := by
  unfold unreported
  split
  · exact { h with allowed := ha }
  · exact { h with }

theorem endUnreported (h : s.Ordered) {e : MoveEntry} (he : e ∈ s.scheduler.schedule) :
    (Machine.endUnreported e s).Ordered := by
  refine State.Ordered.gentle ?_ (handOverEnd_gentle e _)
  refine State.Ordered.gentle ?_ (raiseNotice_gentle _ _ _)
  obtain ⟨-, r, hr, ha⟩ := h.aims e he
  refine h.closeEntry fun r' hr' => ⟨moving_unreported e _ r', ?_, rfl⟩
  obtain rfl : r = r' := Option.some.inj (hr.symm.trans hr')
  exact unreported_ranged ha

theorem entryAtCycleEnd (h : s.Ordered) {e : MoveEntry} (he : e ∈ s.scheduler.schedule) :
    (Machine.entryAtCycleEnd s e).Ordered := by
  unfold Machine.entryAtCycleEnd
  split
  · exact h.withdraw _ e
  · split
    · exact h.endUnreported he
    · split
      · rename_i hdue
        exact h.setStage he (by rw [stage_of_replyDue hdue]; rfl)
      · exact h

theorem revalidate {sn : State × Nat} (h : sn.1.Ordered) {m : ChosenMove} (hm : m.target ≠ m.fromPhase) :
    (Machine.revalidate sn m).1.Ordered := by
  unfold Machine.revalidate
  split
  · rename_i hk
    obtain ⟨r, hr, hs, hp, ha⟩ := keepsMove_spec hk
    exact h.makeEntry _ hr hs (keepsMove_room h.fits hk) (hp ▸ hm) ha
  · exact h.gentle (countStaleMove_gentle _)

theorem withBalancer (h : s.Ordered) (b : BalancerState) : State.Ordered { s with balancer.state := b } :=
  ⟨{ h.fits with }, h.schedule, h.aims, h.records⟩

theorem completePass (h : s.Ordered) {pass : Pass} (hp : ∀ m ∈ pass.results, m.target ≠ m.fromPhase) :
    (Machine.completePass pass s).Ordered := by
  have hmoved : (pass.results.foldl Machine.revalidate (s, 0)).1.Ordered :=
    foldl_revalidate (P := State.Ordered) (fun sn m hm h => h.revalidate (hp m hm)) h
  unfold Machine.completePass
  exact (hmoved.gentle (raiseNotice_gentle _ _ _)).withBalancer .idle

theorem writtenRecord_ranged {w : ConsumerWrite} (h : s.Ordered) (hw : w.Sound) : (s.writtenRecord i w).Ranged := by
  have hnew : (newRecord w s.freshQuery).Ranged :=
    ⟨hw.segment, hw.allowed, hw.priority, Nat.zero_le _, Nat.zero_le _, Nat.zero_le _, Bank.zeroed_inRange,
      Bank.zeroed_inRange, Nat.zero_le _, Nat.zero_le _⟩
  unfold State.writtenRecord
  split
  · rename_i r hr
    unfold replacedRecord
    split
    · exact { h.ranged hr with
        segment := hw.segment, allowed := hw.allowed, priority := hw.priority, silence := Nat.zero_le _ }
    · exact hnew
  · exact hnew

theorem writtenRecord_rescue (s : State) (i : Nat) (w : ConsumerWrite) : (s.writtenRecord i w).rescue = none := by
  unfold State.writtenRecord
  split
  · unfold replacedRecord
    split <;> rfl
  · rfl

/-- A record without an entry is written, in range and without attempts, or vacated. -/
theorem writeRecord (h : s.Ordered) {o : Option Consumer} (he : s.engaged i = false)
    (ho : ∀ r, o = some r → r.state.moving = false ∧ r.Ranged ∧ r.rescue = none) :
    (Machine.writeRecord i o s).Ordered := by
  obtain ⟨sums, e⟩ := writeRecord_eq i o s
  have hrecord := fun j => record_writeRecord i j o s
  have hother : ∀ j, j ≠ i → (Machine.writeRecord i o s).record j = s.record j := fun j hj => by
    rw [hrecord, if_neg fun h => hj h.1.symm]
  have hstill := still_of_engaged he
  have hfree := h.schedule.no_entry hstill
  have hsched : (Machine.writeRecord i o s).scheduler.schedule = s.scheduler.schedule := by rw [e]
  refine ⟨writeRecord_fits i o h.fits, h.schedule.still hsched hstill hother fun r hr => ?_,
    h.aims.sublist (i := i) (fun x hx => ?_) hother, ?_⟩
  · rw [hrecord] at hr
    split at hr
    · exact (ho r hr).1
    · exact hstill r hr
  · rw [hsched] at hx
    exact ⟨hx, hfree x hx⟩
  · have hrecords := s.recordsRight_iff.mp h.records
    rw [State.recordsRight_iff]
    intro j r hr
    rw [hrecord] at hr
    split at hr
    · obtain ⟨-, hranged, hrescue⟩ := ho r hr
      rw [hrescue]
      exact ⟨hranged, attemptsInRange_none _⟩
    · rw [e]
      exact hrecords j r hr

theorem withMap (h : s.Ordered) {m : List (Option Nat)} (hm : m.length = s.tables.addressMap.length) :
    State.Ordered { s with tables.addressMap := m } :=
  ⟨h.fits.withMap hm, h.schedule, h.aims, h.records⟩

theorem storeConsumer (h : s.Ordered) {w : ConsumerWrite} (he : s.engaged i = false) (hw : w.Sound) :
    (Machine.storeConsumer i w s).Ordered := by
  obtain ⟨m, hm, e⟩ := remap_eq i (s.record i) w.address (Machine.writeRecord i (some (s.writtenRecord i w)) s)
  rw [storeConsumer_eq, e]
  refine ((State.Ordered.withMap ?_ hm).gentle (leaveQueue_gentle i _)).gentle (delist_gentle i _)
  refine h.writeRecord he fun r hr => ?_
  cases hr
  exact ⟨by rw [writtenRecord_state]; rfl, h.writtenRecord_ranged hw, writtenRecord_rescue ..⟩

theorem vacate (h : s.Ordered) (r : Consumer) (he : s.engaged i = false) : (Machine.vacate i r s).Ordered := by
  rw [vacate_eq]
  refine ((State.Ordered.withMap ?_ (List.length_set ..)).gentle (leaveQueue_gentle i _)).gentle (delist_gentle i _)
  exact h.writeRecord he fun _ hr => nomatch hr

end State.Ordered

theorem ordered_adoptionSafe : AdoptionSafe State.Ordered where
  gentle hg h := h.gentle hg
  adopted {s} h := by
    have hfits := adopted_fits h.fits
    obtain ⟨sums, -, -, e⟩ := adopted_eq s
    rw [e] at hfits ⊢
    exact ⟨hfits, h.schedule, h.aims, h.records⟩
  startPass {s} h := by
    have hrecord : ∀ j, (startPass s).record j = (s.record j).map fun r => { r with stable := r.fresh } :=
      record_mapRecords s _
    refine ⟨startPass_fits h.fits, scheduleRight_adoptionSafe.startPass h.schedule,
      h.aims.congr (t := startPass s) rfl fun j => ?_, h.records.of_records (t := startPass s) rfl fun j r' hr' => ?_⟩
    · rw [hrecord]
      cases s.record j <;> rfl
    · rw [hrecord] at hr'
      obtain ⟨r, hr, rfl⟩ := Option.map_eq_some_iff.mp hr'
      exact ⟨r, hr, fun h => { h with stable := h.fresh }, .inl rfl⟩
  remaining n h := ⟨{ h.fits with }, h.schedule, h.aims, h.records⟩

theorem startWith_ordered (sources : ResetSources) (straps : Straps) {s : State} (h : s.Ordered) :
    (startWith sources straps s).Ordered := by
  refine ⟨startWith_fits sources straps h.fits, startWith_scheduleRight sources straps s, fun e he => ?_, ?_⟩
  · rw [startWith_scheduler] at he
    exact absurd he List.not_mem_nil
  · rw [State.recordsRight_iff]
    intro i r hr
    rw [record_startWith] at hr
    split at hr
    · cases hr
    · obtain ⟨r', hr', rfl⟩ := Option.map_eq_some_iff.mp hr
      exact ⟨{ h.ranged hr' with
        firstBank := Bank.zeroed_inRange, secondBank := Bank.zeroed_inRange, silence := Nat.zero_le _,
        forward := Nat.zero_le _ }, attemptsInRange_none _⟩

/-! ### What a pass may choose -/

/-- The candidates of a pass and the moves it has chosen aim off their from phases (R90). -/
def Pass.Aims (pass : Pass) : Prop :=
  (∀ c ∈ pass.candidates, c.targets.get c.fromPhase = false) ∧ ∀ m ∈ pass.results, m.target ≠ m.fromPhase

def State.PassAims (s : State) : Prop := ∀ pass, s.balancer.state = .evaluating pass → pass.Aims

theorem State.PassAims.congr {s t : State} (h : s.PassAims) (hb : t.balancer.state = s.balancer.state) : t.PassAims :=
  fun pass hp => h pass (hb ▸ hp)

theorem candidateTargets_assigned (s : State) (r : Consumer) : (s.candidateTargets r).get r.assigned = false := by
  unfold State.candidateTargets
  cases r.assigned <;> simp [PerPhase.get]

theorem newPass_aims (s : State) : s.newPass.Aims := by
  refine ⟨fun c hc => ?_, fun m hm => absurd hm List.not_mem_nil⟩
  obtain ⟨ri, -, hri⟩ := List.mem_filterMap.mp hc
  split at hri
  · split at hri
    · cases hri
      exact candidateTargets_assigned ..
    · cases hri
  · cases hri

theorem Pass.Aims.trial {pass : Pass} (h : pass.Aims) {m : ChosenMove} (hm : m ∈ pass.trials) :
    m.target ≠ m.fromPhase := by
  obtain ⟨c, hc, hm⟩ := List.mem_flatMap.mp hm
  obtain ⟨q, hq, hm⟩ := List.mem_filterMap.mp hm
  obtain ⟨g, -, rfl⟩ := Option.map_eq_some_iff.mp hm
  have haimed := h.1 c (List.mem_filter.mp hc).1
  have hallowed := (List.mem_filter.mp hq).2
  intro (hq : q = c.fromPhase)
  rw [hq, haimed] at hallowed
  cases hallowed

theorem Pass.Aims.search {pass : Pass} (h : pass.Aims) : pass.search.Aims := by
  unfold Pass.search
  split
  · rename_i m hm
    split
    · refine ⟨h.1, fun x hx => ?_⟩
      rcases List.mem_append.mp hx with hx | hx
      · exact h.2 x hx
      · rw [List.mem_singleton.mp hx]
        exact h.trial (bestTrial_spec hm).1
    · exact h
  · exact h

theorem passAims_adoptionSafe : AdoptionSafe State.PassAims where
  gentle hg h := h.congr (congrArg Balancer.state hg.balancer)
  adopted {s} h := by
    obtain ⟨sums, -, -, e⟩ := adopted_eq s
    rw [e]
    exact h
  startPass {s} _ pass hp := by
    cases hp
    exact newPass_aims _
  remaining _ h := h

theorem endUnreported_balancerState (e : MoveEntry) (s : State) :
    (endUnreported e s).balancer.state = s.balancer.state := by
  obtain ⟨l, sums, -, eq⟩ := closeEntry_eq e.consumer (unreported e s.freshQuery) s
  have hclosed : (closeEntry e.consumer (unreported e s.freshQuery) s).balancer.state = s.balancer.state := by rw [eq]
  have hrest := fun u : State => ((raiseNotice_keeps .moveFailed
    [byte e.consumer, u.addressOf e.consumer, e.tag, e.origin.code, phaseCode e.fromPhase, phaseCode e.target,
      FailurePoint.deadline.code, reasonNoReport, optionPhaseCode none] u).trans (handOverEnd_keeps e _)).balancerState
  exact (hrest _).trans hclosed

theorem entryAtCycleEnd_passAims (s : State) (e : MoveEntry) (h : s.PassAims) : (entryAtCycleEnd s e).PassAims := by
  unfold entryAtCycleEnd
  split
  · exact h.congr (withdraw_keeps _ e s).balancerState
  · split
    · exact h.congr (endUnreported_balancerState e s)
    · split <;> exact h

/-- Every change keeps the aims of a pass in progress. -/
theorem State.Change.passAims {s t : State} (h : s.Change t) (hs : s.PassAims) : t.PassAims := by
  cases h with
  | gentle h => exact hs.congr (congrArg Balancer.state h.balancer)
  | stage => exact hs
  | accept =>
    obtain ⟨l, -, e⟩ := modifyRecord_eq _ (fun r => { r with state := .accepted }) (setStage _ .accepted s)
    rw [acceptEntry, e]
    exact hs
  | make o => exact hs.congr (makeEntry_keeps o _ _ s).balancerState
  | close i f =>
    obtain ⟨l, sums, -, e⟩ := closeEntry_eq i f s
    rw [e]
    exact hs
  | change i f =>
    obtain ⟨l, sums, -, e⟩ := changeRecord_eq i f s
    rw [e]
    exact hs
  | prune =>
    obtain ⟨l, -, e⟩ := modifyRecord_eq _ _ s
    rw [e]
    exact hs
  | cycleEnd => exact foldl_keeps entryAtCycleEnd_passAims _ hs
  | reports =>
    exact foldl_keeps (f := fun s e => endUnreported e s)
      (fun s e (h : s.PassAims) => h.congr (endUnreported_balancerState e s)) _ hs
  | replies =>
    exact foldl_keeps (P := State.PassAims) (f := fun s (e : MoveEntry) => setStage e.consumer .unconfirmed s)
      (fun _ _ h => h) _ hs
  | written => exact passAims_adoptionSafe.afterTableWrite hs
  | trigger => exact passAims_adoptionSafe.triggerIfDue hs
  | fold => exact passAims_adoptionSafe.completeFold hs
  | search =>
    unfold searchStep
    split
    · rename_i pass hp
      split
      · exact hs
      · intro pass' hp'
        cases hp'
        exact (hs pass hp).search
    all_goals exact hs
  | completion =>
    unfold completionStep
    split
    · split
      · exact fun _ hp => nomatch hp
      · exact hs
    all_goals exact hs
  | balancer hb => exact fun pass hp => absurd hp (hb pass)
  | start sources straps =>
    have hstate : (startWith sources straps s).balancer.state
        = startedBalancer sources (s.management.started sources).active.autoResume :=
      congrArg Balancer.state (queueNotice_gentle _ _ _).balancer
    intro pass hp
    rw [hstate] at hp
    unfold startedBalancer at hp
    split at hp
    · cases hp
    · cases hp
  | segment => exact hs
  | consumer i w =>
    obtain ⟨sums, e⟩ := writeRecord_eq i (some (s.writtenRecord i w)) s
    obtain ⟨m, -, e'⟩ := remap_eq i (s.record i) w.address (writeRecord i (some (s.writtenRecord i w)) s)
    rw [storeConsumer_eq, e', e]
    exact passAims_adoptionSafe.gentle (delist_gentle i _) hs
  | vacate i r =>
    obtain ⟨sums, e⟩ := writeRecord_eq i none s
    rw [vacate_eq, e]
    exact passAims_adoptionSafe.gentle (delist_gentle i _) hs

/-- Every change keeps records in range and entries aimed, a pass in progress being aimed. -/
theorem State.Change.ordered {s t : State} (h : s.Change t) (hp : s.PassAims) (hs : s.Ordered) : t.Ordered := by
  cases h with
  | gentle h => exact hs.gentle h
  | stage he st hst => exact hs.setStage he hst
  | accept he => exact hs.acceptEntry he
  | make o hr hset hroom hq ha => exact hs.makeEntry o hr hset hroom hq ha
  | close i f hf => exact hs.closeEntry fun r hr => ⟨(hf r hr).still, (hf r hr).ranged, (hf r hr).rescue⟩
  | change i f hf => exact hs.changeRecord hf
  | prune hi hf => exact hs.prune hi hf
  | cycleEnd =>
    exact foldl_entries entryAtCycleEnd_keepsOthers (fun s e _ he h => h.entryAtCycleEnd he) (fun _ he => he)
      hs.schedule.1 hs
  | reports =>
    exact foldl_entries endUnreported_keepsOthers (fun s e _ he h => h.endUnreported he)
      (fun e he => List.mem_of_mem_filter he) (hs.schedule.1.sublist (List.filter_sublist.map _)) hs
  | replies =>
    refine foldl_entries (setStage_keepsOthers .unconfirmed) (fun t e hl he ht => ?_)
      (fun e he => List.mem_of_mem_filter he) (hs.schedule.1.sublist (List.filter_sublist.map _)) hs
    refine ht.setStage he ?_
    rw [stage_of_replyDue (List.mem_filter.mp hl).2]
    rfl
  | written => exact ordered_adoptionSafe.afterTableWrite hs
  | trigger => exact ordered_adoptionSafe.triggerIfDue hs
  | fold => exact ordered_adoptionSafe.completeFold hs
  | search =>
    unfold searchStep
    split
    · split
      · exact hs
      · exact hs.withBalancer _
    all_goals exact hs
  | completion =>
    unfold completionStep
    split
    · rename_i pass hstate
      split
      · exact hs.completePass (hp pass hstate).2
      · exact hs
    all_goals exact hs
  | balancer => exact hs.withBalancer _
  | start sources straps => exact startWith_ordered sources straps hs
  | segment => exact ⟨storeSegment_fits hs.fits, hs.schedule, hs.aims, hs.records⟩
  | consumer i w _ he hw => exact hs.storeConsumer he hw
  | vacate i r _ he => exact hs.vacate r he

/-- Settles O59: every change keeps records in range and moves aimed. -/
theorem recordsAreKept : Obligations.RecordsAreKept := by
  intro s t hb hsched hrecords htargets hstep
  obtain ⟨haims, hpass⟩ := htargets
  obtain ⟨ht, hpass'⟩ := step_keeps (P := fun s => s.Ordered ∧ s.PassAims)
    (fun _ _ hc h => ⟨hc.ordered h.2 h.1, hc.passAims h.2⟩) ⟨⟨hb.fits, hsched, haims, hrecords⟩, hpass⟩ hstep
  exact ⟨ht.records, ht.aims, hpass'⟩

end Sys2Proof.Machine

namespace Sys2Proof.Machine

/-! ## The end of an event without moves -/

theorem draws_of_nil {s : State} (h : s.rescue.list = []) : draws s = s := by
  rw [draws, h]
  rfl

theorem orderWaiting_of_nil {s : State} (h : s.scheduler.schedule = []) : s.orderWaiting = false := by
  rw [State.orderWaiting, State.earliestWaiting, h, List.find?_nil]
  exact Bool.and_false _

theorem grantDown_gentle {s : State} (h : s.orderWaiting = false) : s.Gentle (grantDown s) := by
  unfold grantDown
  split
  · unfold chooseDown
    rw [h]
    split
    · exact grantMark_gentle s
    · split
      · exact grantForwardDown_gentle s
      · exact grantBelowOrder_gentle s
  · exact .refl s

/-- What a downstream grant without an order changes: the port, the queries' marks and the tag, the waiting mark. -/
def State.GrantsDown (s t : State) : Prop :=
  ∃ ports timebase queries tag, queries.map QueryEntry.consumer = s.scheduler.queries.map QueryEntry.consumer
    ∧ t = { s with
        ports := ports, timebase := timebase
        scheduler := { s.scheduler with queries := queries, tagCounter := tag } }

theorem State.GrantsDown.refl (s : State) : s.GrantsDown s := ⟨_, _, _, _, rfl, rfl⟩

theorem grantForwardDown_grantsDown (s : State) : s.GrantsDown (grantForwardDown s) := by
  unfold grantForwardDown
  split
  · exact ⟨_, _, _, _, rfl, rfl⟩
  · exact .refl s

theorem grantBelowOrder_grantsDown (s : State) : s.GrantsDown (grantBelowOrder s) := by
  unfold grantBelowOrder
  split
  · rename_i e he
    have hmap : (QueryEntry.mk e.consumer true :: s.scheduler.queries.tail).map QueryEntry.consumer
        = s.scheduler.queries.map QueryEntry.consumer := by
      unfold State.queryHead at he
      split at he
      · rename_i x rest hq
        split at he
        · cases he
        · cases he
          rw [hq]
          rfl
      · cases he
    exact ⟨_, _, _, _, hmap, rfl⟩
  · exact grantForwardDown_grantsDown s

theorem grantDown_eq {s : State} (h : s.orderWaiting = false) : s.GrantsDown (grantDown s) := by
  unfold grantDown
  split
  · unfold chooseDown
    rw [h, if_neg Bool.false_ne_true]
    split
    · exact ⟨_, _, _, _, rfl, rfl⟩
    · split
      · exact grantForwardDown_grantsDown s
      · exact grantBelowOrder_grantsDown s
  · exact .refl s

theorem grantUp_eq (s : State) : ∃ ports, grantUp s = { s with ports := ports } := by
  have hforward : ∃ ports, grantForwardUp s = { s with ports := ports } := by
    unfold grantForwardUp
    split <;> exact ⟨_, rfl⟩
  unfold grantUp
  split
  · unfold chooseUp
    split
    · exact hforward
    · split
      · exact ⟨_, rfl⟩
      · unfold grantNotice
        split
        · exact ⟨_, rfl⟩
        · exact hforward
  · exact ⟨_, rfl⟩

/-- An event that leaves no move and no rescue fills the queue and grants, and nothing else. -/
theorem finish_of_nil {s : State} (hsched : s.scheduler.schedule = []) (hlist : s.rescue.list = []) :
    s.Gentle (finish s) ∧ (finish s).tables = (fill s).tables
      ∧ (finish s).scheduler.queries.map QueryEntry.consumer = (fill s).scheduler.queries.map QueryEntry.consumer := by
  have hfill := fill_gentle s
  have hwait := orderWaiting_of_nil (hfill.schedule.trans hsched)
  have hlist' : (fill s).rescue.list = [] := by
    have hstep : ∀ (l : List Nat) (t : State), (l.foldl enqueueQuery t).rescue = t.rescue := fun l => by
      induction l with
      | nil => exact fun _ => rfl
      | cons i l ih =>
        intro t
        obtain ⟨l', -, e⟩ := modifyRecord_eq i (setQueryStage .queued)
          { t with scheduler.queries := t.scheduler.queries ++ [QueryEntry.mk i false] }
        exact (ih (enqueueQuery t i)).trans ((congrArg State.rescue e).trans rfl)
    unfold fill
    rw [hstep]
    exact hlist
  obtain ⟨ports, timebase, queries, tag, hq, e⟩ := grantDown_eq hwait
  have hgrant := grantDown_gentle hwait
  have hwait' := orderWaiting_of_nil (hgrant.schedule.trans (hfill.schedule.trans hsched))
  have hlist'' : (grantDown (fill s)).rescue.list = [] := by
    rw [e]
    exact hlist'
  obtain ⟨ports', timebase', queries', tag', hq', e'⟩ := grantDown_eq hwait'
  have hgrant' := grantDown_gentle hwait'
  obtain ⟨ports'', e''⟩ := grantUp_eq (grantDown (grantDown (fill s)))
  have hgrant'' := grantUp_gentle (grantDown (grantDown (fill s)))
  have hfinish : finish s = grantUp (grantDown (grantDown (fill s))) := by
    unfold finish
    rw [draws_of_nil hlist, draws_of_nil hlist'']
  rw [hfinish]
  refine ⟨((hfill.trans hgrant).trans hgrant').trans hgrant'', ?_, ?_⟩
  · rw [e'', e', e]
  · rw [e'', e']
    refine hq'.trans ?_
    rw [e]
    exact hq

/-! ### The fill -/

theorem State.indicesWhere_eq (s : State) (test : Nat → Consumer → Bool) :
    s.indicesWhere test = (List.range s.tables.consumers.length).filter fun i => (s.record i).any (test i) := by
  have hz : s.tables.consumers.zipIdx
      = (List.range s.tables.consumers.length).map fun i => (s.record i, i) := by
    refine List.ext_getElem (by simp) fun i h₁ h₂ => ?_
    have hi : i < s.tables.consumers.length := by simpa using h₁
    simp [State.record, List.getElem?_eq_getElem hi]
  rw [State.indicesWhere, hz, List.filterMap_map, ← List.filterMap_eq_filter]
  refine List.filterMap_congr fun i _ => ?_
  change (match s.record i with | some r => _ | none => _) = Option.guard _ i
  rw [Option.guard_apply]
  split
  · rename_i r hr
    rw [hr]
    rfl
  · rename_i hr
    rw [hr]
    rfl

theorem fill_queries (s : State) :
    (fill s).scheduler.queries.map QueryEntry.consumer = s.scheduler.queries.map QueryEntry.consumer
      ++ (s.indicesWhere fun _ r => r.state.waiting).take (Config.queryRoom - s.scheduler.queries.length) := by
  have hstep : ∀ (l : List Nat) (t : State), (l.foldl enqueueQuery t).scheduler.queries.map QueryEntry.consumer
      = t.scheduler.queries.map QueryEntry.consumer ++ l := fun l => by
    induction l with
    | nil => exact fun t => (List.append_nil _).symm
    | cons i l ih =>
      intro t
      rw [List.foldl_cons, ih, enqueueQuery_queries]
      simp
  exact hstep _ s

theorem setQueryStage_setQueryStage (stage stage' : QueryStage) (r : Consumer) :
    setQueryStage stage (setQueryStage stage' r) = setQueryStage stage r := by
  unfold setQueryStage
  cases h : r.state <;> simp [RecordState.query, RecordState.withQuery, h]

/-- The fill leaves a record as it is or queues its query. -/
theorem record_fill (s : State) (i : Nat) :
    (fill s).record i = s.record i ∨ (fill s).record i = (s.record i).map (setQueryStage .queued) := by
  have hstep : ∀ (l : List Nat) (t : State), (l.foldl enqueueQuery t).record i = t.record i
      ∨ (l.foldl enqueueQuery t).record i = (t.record i).map (setQueryStage .queued) := fun l => by
    induction l with
    | nil => exact fun t => .inl rfl
    | cons k l ih =>
      intro t
      have hone : (enqueueQuery t k).record i = if k = i then (t.record i).map (setQueryStage .queued) else t.record i :=
        record_modifyRecord _ k i _
      rw [List.foldl_cons]
      by_cases hk : k = i
      · rw [if_pos hk] at hone
        right
        rcases ih (enqueueQuery t k) with e | e
        · exact e.trans hone
        · rw [e, hone, Option.map_map]
          exact congrArg (fun f => Option.map f _) (funext fun r => setQueryStage_setQueryStage _ _ r)
      · rw [if_neg hk] at hone
        rw [← hone]
        exact ih _
  exact hstep _ s

theorem fill_of_vacant {s : State} (h : ∀ i, s.record i = none) : fill s = s := by
  have hnone : (s.indicesWhere fun _ r => r.state.waiting) = [] := by
    rw [State.indicesWhere_eq]
    exact List.filter_eq_nil_iff.mpr fun i _ => by simp [h]
  rw [fill, hnone, List.take_nil]
  rfl

/-! ## Starts -/

/-- What a start leaves before the fill and the grants of its event. -/
theorem startWith_eq (sources : ResetSources) (straps : Straps) (s : State) :
    startWith sources straps s
      = { startValues sources straps s with
          supervision := (driveSelectLines (startValues sources straps s)).supervision
          balancer := (rebuild (startValues sources straps s)).balancer
          ports.notices := [⟨1, 0, 0, [startRecordByte ⟨sources, sources.cold⟩]⟩] } := rfl

theorem rebuild_of_vacant {s : State} (h : ∀ i, s.record i = none) :
    rebuild s = { s with balancer.sums := rebuiltSums s.tables.active [] } := by
  have hnone : s.contributions = [] := by
    rw [State.contributions_eq]
    exact List.filterMap_eq_nil_iff.mpr fun i _ => by simp [State.contribution, h]
  rw [rebuild, hnone]

theorem record_cold {s : State} (h : s.tables = FeederTables.cold) (i : Nat) : s.record i = none := by
  simp only [State.record, h, FeederTables.cold, List.getElem?_replicate]
  split <;> rfl

theorem startValues_cold {sources : ResetSources} (hc : sources.cold = true) (straps : Straps) (s : State) :
    (startValues sources straps s).tables = FeederTables.cold := by
  rw [startValues_tables, if_pos hc]

theorem startWith_cold_balancer {sources : ResetSources} (hc : sources.cold = true) (straps : Straps) (s : State) :
    (startWith sources straps s).balancer = ⟨.stopped, 6, zeroSums⟩ := by
  have htables := startValues_cold hc straps s
  have hsums : rebuiltSums Segment.coldTable [] = zeroSums := by decide
  rw [startWith_eq, rebuild_of_vacant (record_cold htables), htables]
  simp only [startValues, startedBalancer, Management.started, hc]
  rw [show FeederTables.cold.active = Segment.coldTable from rfl, hsums]
  rfl

theorem finish_start (sources : ResetSources) (straps : Straps) (s : State) :
    (startWith sources straps s).Gentle (finish (startWith sources straps s))
      ∧ (finish (startWith sources straps s)).tables = (fill (startWith sources straps s)).tables
      ∧ (finish (startWith sources straps s)).scheduler.queries.map QueryEntry.consumer
        = (fill (startWith sources straps s)).scheduler.queries.map QueryEntry.consumer :=
  finish_of_nil (by rw [startWith_eq]; rfl) (by rw [startWith_eq]; rfl)

theorem exec_start {sources : ResetSources} {s : State} (h : s.hold = some sources) (straps : Straps) :
    exec (.start straps) s = .next (finish (startWith sources straps s)) := by
  change Host.Outcome.next (match s.hold with | some sources => _ | none => s) = _
  rw [h]

/-! ### A cold start (R8, R25) -/

theorem finish_cold_tables {sources : ResetSources} (hc : sources.cold = true) (straps : Straps) (s : State) :
    (finish (startWith sources straps s)).tables = FeederTables.cold := by
  have htables : (startWith sources straps s).tables = FeederTables.cold := by
    rw [startWith_tables, startValues_cold hc]
  rw [(finish_start sources straps s).2.1, fill_of_vacant (record_cold htables), htables]

theorem finish_cold_queries {sources : ResetSources} (hc : sources.cold = true) (straps : Straps) (s : State) :
    (finish (startWith sources straps s)).scheduler.queries = [] := by
  have htables : (startWith sources straps s).tables = FeederTables.cold := by
    rw [startWith_tables, startValues_cold hc]
  have hmap := (finish_start sources straps s).2.2
  rw [fill_of_vacant (record_cold htables), startWith_eq] at hmap
  exact List.map_eq_nil_iff.mp hmap

/-! ### A warm start (R8, R26) -/

theorem setQueryStage_warmRecord (tries : Nat) (r : Consumer) :
    ((setQueryStage .queued (warmRecord tries r)).rescue = none)
      ∧ ((∃ reason, (setQueryStage .queued (warmRecord tries r)).state = .faulted reason ∧ r.state = .faulted reason)
        ∨ (∀ reason, r.state ≠ .faulted reason)
          ∧ (setQueryStage .queued (warmRecord tries r)).state = .unverified ⟨.queued, tries⟩) := by
  refine ⟨setQueryStage_rescue _ _, ?_⟩
  cases h : r.state <;> simp [setQueryStage, warmRecord, h, RecordState.query, RecordState.withQuery]

theorem warmRecord_state (tries : Nat) (r : Consumer) :
    (∃ reason, (warmRecord tries r).state = .faulted reason ∧ r.state = .faulted reason)
      ∨ (∀ reason, r.state ≠ .faulted reason) ∧ (warmRecord tries r).state = .unverified ⟨.waiting, tries⟩ := by
  cases h : r.state <;> simp [warmRecord, h]

theorem isFaulted_eq_false {s : State} {i : Nat} {r : Consumer} (hr : s.record i = some r)
    (h : ∀ reason, r.state ≠ .faulted reason) : s.isFaulted i = false := by
  unfold State.isFaulted
  simp only [hr]

theorem waiting_warmRecord {s : State} {i : Nat} {r : Consumer} (hr : s.record i = some r) (tries : Nat) :
    (warmRecord tries r).state.waiting = !s.isFaulted i := by
  rcases warmRecord_state tries r with ⟨reason, hw, hst⟩ | ⟨hst, hw⟩
  · rw [hw, State.isFaulted, hr]
    simp only [hst]
    rfl
  · rw [hw, isFaulted_eq_false hr hst]
    rfl

section Warm
variable {sources : ResetSources} (hc : sources.cold = false) (straps : Straps) (s : State)
include hc

theorem record_warm (i : Nat) : (startWith sources straps s).record i
    = (s.record i).map (warmRecord s.management.active.queryTries) := by
  have htries : (s.management.started sources).active = s.management.active := by
    simp [Management.started, hc]
  rw [record_startWith, if_neg (by simp [hc]), htries]

theorem warm_queries : (finish (startWith sources straps s)).scheduler.queries.map QueryEntry.consumer
    = (s.indicesWhere fun i _ => !s.isFaulted i).take 8 := by
  have hlength : (startWith sources straps s).tables.consumers.length = s.tables.consumers.length := by
    rw [startWith_tables, startValues_tables, if_neg (by simp [hc])]
    exact List.length_map ..
  have hindices : ((startWith sources straps s).indicesWhere fun _ r => r.state.waiting)
      = s.indicesWhere fun i _ => !s.isFaulted i := by
    rw [State.indicesWhere_eq, State.indicesWhere_eq, hlength]
    refine List.filter_congr fun i _ => ?_
    rw [record_warm hc]
    cases hr : s.record i with
    | none => rfl
    | some r => exact waiting_warmRecord hr _
  rw [(finish_start sources straps s).2.2, fill_queries, hindices, startWith_eq]
  rfl

theorem warm_core (i : Nat) : ((finish (startWith sources straps s)).record i).map Consumer.core
    = (s.record i).map fun r =>
        { r with
          state := .settled, rescue := none, lastMove := none, silence := 0, forward := 0
          firstBank := ⟨0, 0, false⟩, secondBank := ⟨0, 0, false⟩ } := by
  rw [(finish_keeps _).records, record_warm hc, Option.map_map]
  rfl

theorem warm_record {i : Nat} {r : Consumer} (hr : (finish (startWith sources straps s)).record i = some r) :
    r.rescue = none
      ∧ ((∃ reason, r.state = .faulted reason ∧ (s.record i).map Consumer.state = some (.faulted reason))
        ∨ ∃ q, r.state = .unverified q ∧ s.isFaulted i = false ∧ q.tries = s.management.active.queryTries
            ∧ (q.stage = .waiting ∨ q.stage = .queued)) := by
  rw [record_of_tables (finish_start sources straps s).2.1] at hr
  rcases record_fill (startWith sources straps s) i with e | e
  · rw [e, record_warm hc] at hr
    obtain ⟨r₀, hr₀, rfl⟩ := Option.map_eq_some_iff.mp hr
    refine ⟨rfl, ?_⟩
    rcases warmRecord_state s.management.active.queryTries r₀ with ⟨reason, hw, hst⟩ | ⟨hst, hw⟩
    · exact .inl ⟨reason, hw, by rw [hr₀]; exact congrArg some hst⟩
    · exact .inr ⟨_, hw, isFaulted_eq_false hr₀ hst, rfl, .inl rfl⟩
  · rw [e, record_warm hc, Option.map_map] at hr
    obtain ⟨r₀, hr₀, rfl⟩ := Option.map_eq_some_iff.mp hr
    obtain ⟨hrescue, hstate⟩ := setQueryStage_warmRecord s.management.active.queryTries r₀
    refine ⟨hrescue, ?_⟩
    rcases hstate with ⟨reason, hw, hst⟩ | ⟨hst, hw⟩
    · exact .inl ⟨reason, hw, by rw [hr₀]; exact congrArg some hst⟩
    · exact .inr ⟨_, hw, isFaulted_eq_false hr₀ hst, rfl, .inr rfl⟩

theorem warm_tables : (startWith sources straps s).tables.active = s.tables.active
    ∧ (startWith sources straps s).tables.addressMap = s.tables.addressMap
    ∧ (startWith sources straps s).management.active = s.management.active
    ∧ (startWith sources straps s).balancer.state = if s.management.active.autoResume then .idle else .stopped := by
  have htables := startWith_tables sources straps s
  rw [startValues_tables, if_neg (by simp [hc])] at htables
  refine ⟨by rw [htables]; rfl, by rw [htables]; rfl, ?_, ?_⟩
  · rw [startWith_eq]
    simp [startValues, Management.started, hc]
  · rw [startWith_eq]
    simp [rebuild, startValues, startedBalancer, Management.started, hc]

theorem warm_sumsRight (h : TreeRule s.tables.active) : (finish (startWith sources straps s)).SumsRight := by
  have hactive := (warm_tables hc straps s).1
  rw [startWith_tables] at hactive
  have hstart : (startWith sources straps s).Summed :=
    State.Summed.gentle (State.Summed.rebuild (s := driveSelectLines (startValues sources straps s)) (hactive ▸ h))
      (queueNotice_gentle _ _ _)
  exact (hstart.gentle (finish_start sources straps s).1).right

end Warm

/-- Settles O6: what `startWith` leaves, and that the event's fill and grants keep it. -/
theorem startLoadsOrKeepsTheTables : Obligations.StartLoadsOrKeepsTheTables := by
  intro straps sources s hhold
  refine ⟨fun hcold => ?_, fun hp hd => ?_⟩
  · have hc : sources.cold = true := by
      unfold ResetSources.cold
      simpa using hcold
    have htables := finish_cold_tables hc straps s
    refine ⟨_, exec_start hhold straps, ?_, ?_, ?_, ?_, finish_cold_queries hc straps s, ?_⟩
    · rw [htables]
      rfl
    · rw [htables]
      rfl
    · rw [htables]
      rfl
    · rw [(finish_start sources straps s).1.policy, startWith_eq]
      simp [startValues, Management.started, hc]
    · rw [(finish_start sources straps s).1.balancer, startWith_cold_balancer hc]
      rfl
  · have hc : sources.cold = false := by
      unfold ResetSources.cold
      rw [hp, hd]
      rfl
    have hgentle := (finish_start sources straps s).1
    obtain ⟨hactive, hmap, hpolicy, hstate⟩ := warm_tables hc straps s
    exact ⟨_, exec_start hhold straps, hgentle.active.trans hactive, hgentle.addressMap.trans hmap,
      hgentle.policy.trans hpolicy, (congrArg Balancer.state hgentle.balancer).trans hstate, warm_queries hc straps s,
      warm_core hc straps s, fun i r hr => warm_record hc straps s hr, warm_sumsRight hc straps s⟩

/-! ### The state after reset -/

theorem record_reset (i : Nat) : State.reset.record i = none := record_cold rfl i

theorem mapped_reset (a : Byte) : State.reset.mapped a = none := by
  simp only [State.mapped, State.reset, List.getElem?_replicate]
  split <;> rfl

theorem startNotice_frame : noticeFrame (Config.ownAddress ⟨0, false, 0⟩) ⟨1, 0, 0, [0x81]⟩ = startNoticeFrame := by
  decide +kernel

theorem reset_isColdStart :
    exec (.start ⟨0, false, 0⟩) { State.reset with hold := some ⟨true, false, false, false⟩ } = .next State.reset := by
  have hbalancer := startWith_cold_balancer (sources := ⟨true, false, false, false⟩) rfl ⟨0, false, 0⟩
    { State.reset with hold := some ⟨true, false, false, false⟩ }
  rw [exec_start rfl]
  rw [startWith_eq] at hbalancer ⊢
  have hfill (t : State) (h : t.tables = FeederTables.cold) : fill t = t := fill_of_vacant (record_cold h)
  dsimp only at hbalancer
  rw [hbalancer]
  unfold finish
  rw [draws_of_nil rfl, hfill]
  · refine Eq.trans (b := Host.Outcome.next { State.reset with
      ports.up.transmitter := .busy .notice (noticeFrame (Config.ownAddress ⟨0, false, 0⟩) ⟨1, 0, 0, [0x81]⟩) }) rfl ?_
    rw [startNotice_frame]
    rfl
  · rfl

theorem reset_bounded : State.reset.Bounded := by
  refine ⟨⟨rfl, rfl, rfl, List.length_replicate .., List.length_replicate ..⟩, rfl, Policy.cold_inRange,
    Policy.cold_inRange, ?_, ?_⟩
  · unfold State.QueuesFit
    decide
  · unfold State.CountsFit
    decide

theorem reset_timebaseRight : State.reset.TimebaseRight := by
  unfold State.TimebaseRight
  decide

theorem reset_sumsRight : State.reset.SumsRight := by
  have : State.reset = rebuild State.reset := by
    rw [rebuild_of_vacant record_reset]
    rfl
  rw [this]
  exact rebuild_sumsRight coldTable_treeRule

/-- Settles O8: the start event evaluated, and each invariant of a state without records. -/
theorem resetIsAColdStartAndMeetsTheInvariants : Obligations.ResetIsAColdStartAndMeetsTheInvariants := by
  have hvacant : ∀ {i r}, State.reset.record i = some r → False := fun {i r} h => by
    rw [record_reset] at h
    cases h
  have hunmapped : ∀ {a i}, State.reset.mapped a = some i → False := fun {a i} h => by
    rw [mapped_reset] at h
    cases h
  refine ⟨reset_isColdStart, reset_bounded, ⟨coldTable_treeRule, coldTable_treeRule⟩,
    ⟨fun i _ r h => (hvacant h).elim, fun a i h => (hunmapped h).elim⟩,
    ⟨List.nodup_nil, fun _ he => absurd he List.not_mem_nil, fun i r h => (hvacant h).elim⟩,
    ⟨List.nodup_nil, fun _ he => absurd he List.not_mem_nil, fun i r q h => (hvacant h).elim,
      fun _ he => absurd he List.not_mem_nil⟩,
    reset_sumsRight,
    ⟨List.nodup_nil, fun _ he => absurd he List.not_mem_nil, by decide⟩, ?_, reset_timebaseRight,
    fun i r h => (hvacant h).elim, ⟨fun _ he => absurd he List.not_mem_nil, fun _ h => nomatch h⟩, fun _ h => nomatch h⟩
  intro p
  cases p <;> exact ⟨⟨rfl, rfl⟩, Nat.zero_le _, Nat.zero_le _⟩

end Sys2Proof.Machine

namespace Sys2Proof.Machine

/-! ## Counts that come due, commanded alone -/

section Due
variable {s : State} (h : s.hold = none)
include h

/-- A command of the running part is the end of the event that its body makes. -/
theorem next_whileRunning (body : State → State) :
    (Host.Outcome.next (whileRunning (fun s => finish (body s)) s) : Host.Outcome State Fault Refusal)
      = .next (finish (body s)) := by
  rw [whileRunning_running _ _ h]

theorem exec_flywheelLimitReached :
    exec .flywheelLimitReached s = .next (finish (noticeTimebase s.lockState (unsyncAtLimit s))) :=
  next_whileRunning h fun s => noticeTimebase s.lockState (unsyncAtLimit s)

theorem exec_failover : exec .failover s = .next (finish (noticeTimebase s.lockState (failoverIfDue s))) :=
  next_whileRunning h fun s => noticeTimebase s.lockState (failoverIfDue s)

theorem exec_cycleMarkDue : exec .cycleMarkDue s = .next (finish (markIfDue s)) := next_whileRunning h markIfDue

theorem exec_budgetPeriodEnd : exec .budgetPeriodEnd s = .next (finish (budgetIfDue s)) := next_whileRunning h budgetIfDue

theorem exec_latestExecuteCycleExpiry : exec .latestExecuteCycleExpiry s = .next (finish (expireLatest s)) :=
  next_whileRunning h expireLatest

end Due

theorem noticeTimebase_same {before : SyncState × Phase} {s : State} (h : before = s.lockState) :
    noticeTimebase before s = s := if_pos h

theorem noticeTimebase_changed {before : SyncState × Phase} {s : State} (h : before ≠ s.lockState) :
    noticeTimebase before s = raiseNotice .timebase [s.timebase.sync.code, phaseCode s.timebase.reference] s := if_neg h

/-- Of three phases in turn, the one after the next is the third (R57). -/
theorem next_next_eq {p q : Phase} (h : p.next ≠ q) (h' : p ≠ q) : p.next.next = q := by
  cases p <;> cases q <;> simp_all [Phase.next]

theorem next_ne (p : Phase) : p.next ≠ p := by cases p <;> decide

/-- A failover that takes another phase (R57, R58). -/
theorem failover_to {s : State} {p : Phase} (hrun : 2 ≤ s.timebase.referenceRun) (hp : s.failoverPhase = p)
    (hne : s.timebase.reference ≠ p) :
    noticeTimebase s.lockState (failoverIfDue s)
      = raiseNotice .timebase [s.timebase.sync.code, phaseCode p]
          { s with timebase.reference := p, timebase.referenceRun := 0, timebase.reanchorPending := true } := by
  have hbody : failoverIfDue s
      = { s with timebase.reference := p, timebase.referenceRun := 0, timebase.reanchorPending := true } := by
    rw [failoverIfDue, if_pos hrun, hp]
    have : (p != s.timebase.reference) = true := by simpa using hne.symm
    simp only [this, Bool.or_true]
  rw [hbody]
  exact noticeTimebase_changed fun h => hne (Prod.mk.inj h).2

/-- A failover that finds the other two phases LOST stays (R57). -/
theorem failover_stays {s : State} (hrun : 2 ≤ s.timebase.referenceRun)
    (hp : s.failoverPhase = s.timebase.reference) :
    noticeTimebase s.lockState (failoverIfDue s) = { s with timebase.referenceRun := 0 } := by
  have hbody : failoverIfDue s = { s with timebase.referenceRun := 0 } := by
    rw [failoverIfDue, if_pos hrun, hp]
    simp only [bne_self_eq_false, Bool.or_false]
  rw [hbody]
  exact noticeTimebase_same rfl

theorem unsync_notice (s : State) :
    noticeTimebase s.lockState (unsyncAtLimit s)
      = if s.timebase.sync = .flywheel ∧ s.management.active.flywheelLimit ≤ s.timebase.syntheticRun then
          raiseNotice .timebase [0, phaseCode s.timebase.reference]
            { s with timebase.sync := .unsynced, timebase.reanchorPending := true }
        else s := by
  unfold unsyncAtLimit
  split
  · rename_i h
    rw [noticeTimebase_changed fun hsame => by
      have := (Prod.mk.inj hsame).1
      rw [h.1] at this
      cases this]
    rfl
  · exact noticeTimebase_same rfl

theorem expireLatest_eq (s : State) :
    expireLatest s = { s with scheduler.latestExecute := s.scheduler.latestExecute.filter fun x => ahead x s.now } := by
  unfold expireLatest
  split
  · rename_i x hx
    by_cases ha : ahead x s.now = true
    · rw [if_pos ha, hx, Option.filter_some, if_pos ha, ← hx]
    · rw [if_neg ha, hx, Option.filter_some, if_neg ha]
  · rename_i hx
    rw [hx, Option.filter_none, ← hx]

/-- Settles O12: each row by the count it acts on. -/
theorem countsThatComeDue : Obligations.CountsThatComeDue := by
  intro s h
  refine ⟨?_, fun p hnext hne hrun => ?_, fun hrun => ?_, exec_cycleMarkDue h, exec_budgetPeriodEnd h, ?_⟩
  · rw [exec_flywheelLimitReached h, unsync_notice]
  · rw [exec_failover h]
    have hthird := next_next_eq hnext hne
    refine ⟨fun hlost => ?_, fun hlost hlost' => ?_, fun hlost hlost' => ?_⟩
    · rw [failover_to hrun (p := s.timebase.reference.next) (by simp [State.failoverPhase, hlost]) (next_ne _).symm]
    · rw [failover_to hrun (p := p) (by simp [State.failoverPhase, hthird, hlost, hlost']) hne]
    · rw [failover_stays hrun (by simp [State.failoverPhase, hthird, hlost, hlost'])]
  · rw [exec_failover h, failoverIfDue, if_neg (by omega), noticeTimebase_same rfl]
  · rw [exec_latestExecuteCycleExpiry h, expireLatest_eq]

end Sys2Proof.Machine

namespace Sys2Proof.Machine

/-! ## Management requests, answered in their arrival event -/

/-- The upstream receiver hunts again after a whole frame. -/
def State.heard (s : State) : State := { s with ports.up.receiver := .hunting }

/-- A response placed by a part whose receiver hunts. -/
theorem respond_answered {u : State} (h : u.ports.up.receiver = .hunting) (src tag : Byte) (p : List Byte) (kind : Byte)
    (result : Result) (data : List Byte) :
    respond ⟨src, tag, p⟩ kind result data u = u.answered src tag (kind :: result.code :: data) := by
  unfold respond State.answered
  rw [← h]

/-- What leaves the receiver and the request queue alone leaves the part ready to answer. -/
structure State.Attends (s u : State) : Prop where
  receiver : u.ports.up.receiver = s.ports.up.receiver
  requests : u.management.requests = s.management.requests

theorem State.Attends.refl (s : State) : s.Attends s := ⟨rfl, rfl⟩

theorem State.Attends.of_ports {s u : State} (h : s.PortsStand u)
    (hm : u.management.requests = s.management.requests) : s.Attends u := by
  obtain ⟨_, _, h⟩ := h
  exact ⟨by rw [h], hm⟩

section Requests
variable {src tag kind : Byte} {args : List Byte} {s : State} (hs : s.TakesRequests) (hlen : args.length < 48)
include hs hlen

/-- A request that arrives while R185 lets it be executed is executed at once, and its event ends. -/
theorem requestArrives_eq {t : State} (ht : perform ⟨src, tag, kind :: args⟩ s.heard = t)
    (hreq : t.management.requests = []) : requestArrives src tag (kind :: args) s = finish t := by
  obtain ⟨-, hempty, hpending, hroom⟩ := hs
  have hserved : serve 1 (finish t) = finish t := by
    have : (finish t).executable = none := by
      unfold State.executable
      rw [(finish_keeps t).management, hreq]
      split <;> rfl
    rw [serve, this]
  have henter : enterRequests (goodFrame s.ownAddress src kindManagementRequest tag (kind :: args)) s.heard
      = { s.heard with management.requests := [⟨src, tag, kind :: args⟩] } := by
    have hno : s.heard.management.requests = [] := hempty
    unfold enterRequests
    rw [hno]
    rfl
  have hserve : serveArrival { s.heard with management.requests := [⟨src, tag, kind :: args⟩] } = finish t := by
    have hexec : State.executable { s.heard with management.requests := [⟨src, tag, kind :: args⟩] }
        = some ⟨src, tag, kind :: args⟩ := by
      unfold State.executable
      rw [if_pos (by simpa [State.heard] using ⟨hpending, decide_eq_true hroom⟩)]
      rfl
    have hfirst : executeFirst ⟨src, tag, kind :: args⟩ { s.heard with management.requests := [⟨src, tag, kind :: args⟩] }
        = t := by
      rw [← ht, executeFirst]
      have : { s.heard.management with requests := [] } = s.heard.management := by
        rw [← hempty]
        rfl
      exact congrArg (fun m => perform ⟨src, tag, kind :: args⟩ { s.heard with management := m }) this
    unfold serveArrival
    rw [hexec]
    simp only [hfirst]
    exact hserved
  have hlength : ¬ Config.payloadRoom < (kind :: args).length := by
    rw [List.length_cons]
    exact Nat.not_lt.mpr hlen
  unfold requestArrives frameComes
  change arriveUpstream _ s.heard = _
  unfold arriveUpstream
  refine (if_neg hlength).trans ((if_pos rfl).trans ((if_pos rfl).trans ?_))
  rw [henter, hserve]

/-- A request that is done, its response in the queue. -/
theorem exec_done {c : Instr} (hc : exec c s = .next (whileRunning (requestArrives src tag (kind :: args)) s))
    {u : State} {k : Byte} {result : Result} {data : List Byte}
    (hperform : perform ⟨src, tag, kind :: args⟩ s.heard = respond ⟨src, tag, kind :: args⟩ k result data u)
    (hu : s.heard.Attends u) : exec c s = .next (finish (u.answered src tag (k :: result.code :: data))) := by
  have hempty : s.heard.management.requests = [] := hs.2.1
  rw [hc, whileRunning_running _ _ hs.1, requestArrives_eq hs hlen hperform (hu.requests.trans hempty),
    respond_answered (hu.receiver.trans rfl)]

/-- A request that is answered and changes nothing else. -/
theorem exec_answers {c : Instr} (hc : exec c s = .next (whileRunning (requestArrives src tag (kind :: args)) s))
    {k : Byte} {result : Result} {data : List Byte}
    (hperform : perform ⟨src, tag, kind :: args⟩ s.heard = respond ⟨src, tag, kind :: args⟩ k result data s.heard) :
    exec c s = .next (finish (s.answered src tag (k :: result.code :: data))) :=
  exec_done (u := s.heard) hs hlen hc hperform (.refl _)

end Requests

/-! ### Reads -/

theorem performReadStatus_length {args : List Byte} (h : args.length ≠ 1) (r : Request) (s : State) :
    performReadStatus r args s = refuse r 0x01 .badValue s := by
  rcases args with _ | ⟨a, _ | ⟨b, l⟩⟩
  · rfl
  · exact absurd rfl h
  · rfl

theorem performReadPolicy_length {args : List Byte} (h : args.length ≠ 1) (r : Request) (s : State) :
    performReadPolicy r args s = refuse r 0x02 .badValue s := by
  rcases args with _ | ⟨a, _ | ⟨b, l⟩⟩
  · rfl
  · exact absurd rfl h
  · rfl

theorem performReadSegment_length {args : List Byte} (h : args.length ≠ 1) (r : Request) (s : State) :
    performReadSegment r args s = refuse r 0x04 .badValue s := by
  rcases args with _ | ⟨a, _ | ⟨b, l⟩⟩
  · rfl
  · exact absurd rfl h
  · rfl

theorem performReadConsumer_length {args : List Byte} (h : args.length ≠ 1) (r : Request) (s : State) :
    performReadConsumer r args s = refuse r 0x06 .badValue s := by
  rcases args with _ | ⟨a, _ | ⟨b, l⟩⟩
  · rfl
  · exact absurd rfl h
  · rfl

theorem performReadSums_length {args : List Byte} (h : args.length ≠ 1) (r : Request) (s : State) :
    performReadSums r args s = refuse r 0x09 .badValue s := by
  rcases args with _ | ⟨a, _ | ⟨b, l⟩⟩
  · rfl
  · exact absurd rfl h
  · rfl

theorem statusSection_none {n : Nat} (h : 3 < n) (s : State) : statusSection s n = none := by
  obtain ⟨m, rfl⟩ : ∃ m, n = m + 4 := ⟨n - 4, by omega⟩
  rfl

/-- What stands at a place of the query queue in READ STATUS (R189). -/
def placeByte (queries : List QueryEntry) (k : Nat) : Byte :=
  match queries[k]? with
  | some e => byte e.consumer
  | none => 255

theorem queryPlaces_eq (queries : List QueryEntry) :
    queryPlaces queries = (List.range 8).map (placeByte queries) := by
  refine List.ext_getElem? fun k => ?_
  unfold queryPlaces placeByte
  rw [List.getElem?_take, List.getElem?_map]
  by_cases hk : k < 8
  · rw [if_pos hk, List.getElem?_range hk, Option.map_some]
    by_cases hlen : k < queries.length
    · rw [List.getElem?_append_left (by simpa using hlen)]
      simp [List.getElem?_eq_getElem hlen]
    · rw [List.getElem?_append_right (by simpa using hlen), List.getElem?_eq_none (Nat.le_of_not_lt hlen)]
      simp only [List.length_map, List.getElem?_replicate]
      rw [if_pos (by omega)]
  · rw [if_neg hk, List.getElem?_eq_none (by simpa using hk)]
    rfl

theorem length_optionByte (o : Option Byte) : (optionByte o).length = 2 := by cases o <;> rfl

/-- Section 3 of READ STATUS, byte by byte. -/
theorem statusRescue_spec (s : State) :
    (statusRescue s).length = 18
      ∧ (statusRescue s).head? = some (byte s.scheduler.queries.length)
      ∧ (∀ k < 8, (statusRescue s)[1 + k]? = some (placeByte s.scheduler.queries k))
      ∧ (statusRescue s)[9]? = some (flagByte (s.scheduler.queries.any fun (e : QueryEntry) => e.inTransmission))
      ∧ (statusRescue s)[10]? = some (flagByte s.rescue.event.isSome)
      ∧ (statusRescue s)[11]? = some (match s.rescue.event with
        | some ev => phaseSetCode ev.covered
        | none => 0)
      ∧ ((statusRescue s).drop 12).take 4 = [byte s.rescue.rescued, byte s.rescue.unrescuable, byte s.rescue.restored,
        byte s.rescue.list.length]
      ∧ (statusRescue s).drop 16 = (match s.rescue.list.find? s.isSettled with
        | some i => [1, byte i]
        | none => [0, 0]) := by
  have hdraw : optionByte (s.nextDraw.map byte) = (match s.rescue.list.find? s.isSettled with
      | some i => [1, byte i]
      | none => [0, 0]) := by
    unfold State.nextDraw
    cases s.rescue.list.find? s.isSettled <;> rfl
  unfold statusRescue
  rw [queryPlaces_eq, ← hdraw]
  refine ⟨?_, rfl, fun k hk => ?_, rfl, rfl, rfl, rfl, rfl⟩
  · rw [List.length_append, length_optionByte]
    rfl
  · interval_cases k <;> rfl

theorem entryOf_of_filter {s : State} {i : Nat} {e : MoveEntry}
    (h : (s.scheduler.schedule.filter fun x => x.consumer == i) = [e]) : s.entryOf i = some e := by
  rw [State.entryOf, ← List.head?_filter, h]
  rfl

/-- The fields of a record laid out one after another, each found at its place. -/
theorem layout_slices {data a b c d e f g h : List Byte} (hdata : data = a ++ (b ++ (c ++ (d ++ (e ++ (f ++ (g ++ h)))))))
    (ha : a.length = 8) (hb : b.length = 5) (hc : c.length = 6) (hd : d.length = 5) (he : e.length = 2)
    (hf : f.length = 5) (hg : g.length = 1) (hh : h.length = 2) :
    data.length = 34 ∧ data.take 8 = a ∧ (data.drop 8).take 5 = b ∧ (data.drop 13).take 6 = c
      ∧ (data.drop 19).take 5 = d ∧ (data.drop 24).take 2 = e ∧ (data.drop 26).take 5 = f
      ∧ (data.drop 31).take 1 = g ∧ data.drop 32 = h := by
  subst hdata
  simp [List.drop_append, List.drop_of_length_le, ha, hb, hc, hd, he, hf, hg, hh]

/-- The data of READ CONSUMER, field by field (R188). -/
theorem consumerBytes_spec (r : Consumer) (link : Option MoveEntry) :
    (consumerBytes r link).length = 34
      ∧ (consumerBytes r link).take 8 = [r.state.code, r.address, byte r.segment, phaseSetCode r.allowed,
        phaseCode r.assigned, flagByte r.lock, byte r.priority, byte r.moveCount]
      ∧ ((consumerBytes r link).drop 8).take 5 = (match r.lastMove with
        | some c => 1 :: be4 c.toNat
        | none => [0, 0, 0, 0, 0])
      ∧ ((consumerBytes r link).drop 13).take 6
        = signed2 r.fresh ++ [flagByte r.seeded] ++ signed2 r.stable ++ [byte r.silence]
      ∧ ((consumerBytes r link).drop 19).take 5 = moveLinkBytes link
      ∧ ((consumerBytes r link).drop 24).take 2 = optionByte r.lastTag
      ∧ ((consumerBytes r link).drop 26).take 5 = queryBytes r.state.query
      ∧ ((consumerBytes r link).drop 31).take 1 = [faultByte r.state]
      ∧ (consumerBytes r link).drop 32 = optionByte (r.rescue.map fun m => byte m.attempts) := by
  have hmove : (match r.lastMove with
      | some c => 1 :: be4 c.toNat
      | none => [0, 0, 0, 0, 0]).length = 5 := by cases r.lastMove <;> rfl
  have hlink : (moveLinkBytes link).length = 5 := by cases link <;> rfl
  have hquery : (queryBytes r.state.query).length = 5 := by
    unfold queryBytes
    split <;> rfl
  have hbytes : consumerBytes r link = [r.state.code, r.address, byte r.segment, phaseSetCode r.allowed,
      phaseCode r.assigned, flagByte r.lock, byte r.priority, byte r.moveCount] ++ ((match r.lastMove with
        | some c => 1 :: be4 c.toNat
        | none => [0, 0, 0, 0, 0]) ++ ((signed2 r.fresh ++ [flagByte r.seeded] ++ signed2 r.stable ++ [byte r.silence])
      ++ (moveLinkBytes link ++ (optionByte r.lastTag ++ (queryBytes r.state.query ++ ([faultByte r.state]
      ++ optionByte (r.rescue.map fun m => byte m.attempts))))))) := by
    simp only [consumerBytes, List.append_assoc] <;> rfl
  have hloads : (signed2 r.fresh ++ [flagByte r.seeded] ++ signed2 r.stable ++ [byte r.silence]).length = 6 := rfl
  have htag := length_optionByte r.lastTag
  have hmark := length_optionByte (r.rescue.map fun m => byte m.attempts)
  exact layout_slices hbytes rfl hmove hloads hlink htag hquery rfl hmark

theorem faultByte_eq (st : RecordState) :
    [faultByte st] = (match st with
      | .faulted .openContact => [1]
      | .faulted .contactFault => [2]
      | _ => [0]) := by
  cases st with
  | faulted reason => cases reason <;> rfl
  | _ => rfl

section Reads
variable {src tag : Byte} {s : State} (hs : s.TakesRequests)
include hs

theorem readStatus_answers {n : Byte} {data : List Byte} (h : statusSection s.heard n.toNat = some data) :
    exec (.readStatus src tag [n]) s = .next (finish (s.answered src tag (([0x01, 0] : List Byte) ++ data))) :=
  exec_answers (kind := 0x01) (args := [n]) (result := .done) (data := data) hs (by simp) rfl (by
    change performReadStatus _ [n] s.heard = _
    unfold performReadStatus
    simp only [h]
    rfl)

theorem statusQueues_heard : statusQueues s.heard = (counterList s.ports.counters).flatMap be2
    ++ [byte s.ports.down.forward.length, byte s.ports.up.forward.length, byte s.ports.notices.length,
      byte s.ports.responses.length, 0, byte s.ports.lostNotices] := by
  have hempty : s.heard.management.requests = [] := hs.2.1
  unfold statusQueues
  rw [hempty]
  rfl

theorem readConsumer_answers {i : Byte} {r : Consumer} (hi : i.toNat < 240) (hr : s.record i.toNat = some r) :
    exec (.readConsumer src tag [i]) s = .next (finish (s.answered src tag (([0x06, 0] : List Byte)
      ++ consumerBytes r (if r.state.moving then s.entryOf i.toNat else none)))) :=
  exec_answers (kind := 0x06) (args := [i]) (result := .done) (data := consumerBytes r _) hs (by simp) rfl (by
    change performReadConsumer _ [i] s.heard = _
    have hr' : s.heard.record i.toNat = some r := hr
    unfold performReadConsumer
    simp only [if_pos (show i.toNat < Config.consumers from hi), hr']
    rfl)

theorem wrongLength_answers {args : List Byte} (hne : args.length ≠ 1) (hlen : args.length < 48) :
    exec (.readStatus src tag args) s = .next (finish (s.answered src tag [0x01, 3]))
      ∧ exec (.readPolicy src tag args) s = .next (finish (s.answered src tag [0x02, 3]))
      ∧ exec (.readSegment src tag args) s = .next (finish (s.answered src tag [0x04, 3]))
      ∧ exec (.readConsumer src tag args) s = .next (finish (s.answered src tag [0x06, 3]))
      ∧ exec (.readSums src tag args) s = .next (finish (s.answered src tag [0x09, 3])) :=
  ⟨exec_answers (kind := 0x01) (result := .badValue) (data := []) hs hlen rfl (performReadStatus_length hne _ _),
    exec_answers (kind := 0x02) (result := .badValue) (data := []) hs hlen rfl (performReadPolicy_length hne _ _),
    exec_answers (kind := 0x04) (result := .badValue) (data := []) hs hlen rfl (performReadSegment_length hne _ _),
    exec_answers (kind := 0x06) (result := .badValue) (data := []) hs hlen rfl (performReadConsumer_length hne _ _),
    exec_answers (kind := 0x09) (result := .badValue) (data := []) hs hlen rfl (performReadSums_length hne _ _)⟩

theorem readPolicy_answers {copy : Byte} {p : Policy}
    (h : copy = 0 ∧ p = s.management.active ∨ copy = 1 ∧ p = s.management.shadow) :
    exec (.readPolicy src tag [copy]) s = .next (finish (s.answered src tag
      ([0x02, 0, flagByte s.management.policyPending] ++ policyBytes p))) :=
  exec_answers (kind := 0x02) (args := [copy]) (result := .done)
    (data := flagByte s.management.policyPending :: policyBytes p) hs (by simp) rfl (by
      rcases h with ⟨rfl, rfl⟩ | ⟨rfl, rfl⟩ <;> rfl)

theorem readPolicy_badCopy {copy : Byte} (h : 1 < copy.toNat) :
    exec (.readPolicy src tag [copy]) s = .next (finish (s.answered src tag [0x02, 3])) :=
  exec_answers (kind := 0x02) (args := [copy]) (result := .badValue) (data := []) hs (by simp) rfl (by
    have h0 : copy ≠ 0 := by
      rintro rfl
      cases h
    have h1 : copy ≠ 1 := by
      rintro rfl
      exact absurd h (by decide)
    change performReadPolicy _ [copy] s.heard = _
    exact (if_neg h0).trans (if_neg h1))

theorem readSegment_answers {i : Byte} (hi : i.toNat < 16) {mark : Bool} (hm : s.tables.marks[i.toNat]? = some mark) :
    exec (.readSegment src tag [i]) s = .next (finish (s.answered src tag (([0x04, 0] : List Byte)
      ++ (segmentBytes (segmentAt s.tables.active i.toNat) ++ [flagByte mark]
        ++ (if mark then segmentBytes (segmentAt s.tables.shadow i.toNat) else [0, 0, 0, 0, 0]))))) :=
  exec_answers (kind := 0x04) (args := [i]) (result := .done) (data := _ ++ _) hs (by simp) rfl (by
    have hmark : s.heard.tables.marks.getD i.toNat false = mark := by
      rw [List.getD_eq_getElem?_getD]
      exact congrArg (Option.getD · false) hm
    change performReadSegment _ [i] s.heard = _
    refine (if_pos hi).trans ?_
    simp only [hmark]
    rfl)

theorem readSums_answers {i : Byte} (hi : i.toNat < 16) (hv : (segmentAt s.tables.active i.toNat).valid = true) :
    exec (.readSums src tag [i]) s = .next (finish (s.answered src tag (([0x09, 0] : List Byte)
      ++ (signed4 (sumAt s.balancer.sums i.toNat .l1) ++ signed4 (sumAt s.balancer.sums i.toNat .l2)
        ++ signed4 (sumAt s.balancer.sums i.toNat .l3)
        ++ signed4 (imbalance ((s.balancer.sums[i.toNat]?).getD (PerPhase.const 0)))
        ++ signed4 (cost s.tables.active s.balancer.sums))))) :=
  exec_answers (kind := 0x09) (args := [i]) (result := .done) (data := _ ++ _) hs (by simp) rfl (by
    change performReadSums _ [i] s.heard = _
    have hv' : ¬ (!(segmentAt s.heard.tables.active i.toNat).valid) = true := by
      change ¬ (!(segmentAt s.tables.active i.toNat).valid) = true
      simp [hv]
    exact (if_neg (Nat.not_le.mpr hi)).trans (if_neg hv'))

theorem badIndex_answers {i : Byte} (hi : 16 ≤ i.toNat) :
    exec (.readSegment src tag [i]) s = .next (finish (s.answered src tag [0x04, 2]))
      ∧ exec (.readSums src tag [i]) s = .next (finish (s.answered src tag [0x09, 2])) :=
  ⟨exec_answers (kind := 0x04) (args := [i]) (result := .badIndex) (data := []) hs (by simp) rfl
      (if_neg (Nat.not_lt.mpr hi)),
    exec_answers (kind := 0x09) (args := [i]) (result := .badIndex) (data := []) hs (by simp) rfl (if_pos hi)⟩

theorem readSums_wrongState {i : Byte} (hi : i.toNat < 16) (hv : (segmentAt s.tables.active i.toNat).valid = false) :
    exec (.readSums src tag [i]) s = .next (finish (s.answered src tag [0x09, 5])) :=
  exec_answers (kind := 0x09) (args := [i]) (result := .wrongState) (data := []) hs (by simp) rfl (by
    change performReadSums _ [i] s.heard = _
    have hv' : (!(segmentAt s.heard.tables.active i.toNat).valid) = true := by
      change (!(segmentAt s.tables.active i.toNat).valid) = true
      simp [hv]
    exact (if_neg (Nat.not_le.mpr hi)).trans (if_pos hv'))

theorem readConsumer_badIndex {i : Byte} (hi : 240 ≤ i.toNat) :
    exec (.readConsumer src tag [i]) s = .next (finish (s.answered src tag [0x06, 2])) :=
  exec_answers (kind := 0x06) (args := [i]) (result := .badIndex) (data := []) hs (by simp) rfl
    (if_neg (Nat.not_lt.mpr hi))

theorem readConsumer_vacant {i : Byte} (hi : i.toNat < 240) (hr : s.record i.toNat = none) :
    exec (.readConsumer src tag [i]) s = .next (finish (s.answered src tag [0x06, 0, 0])) :=
  exec_answers (kind := 0x06) (args := [i]) (result := .done) (data := [0]) hs (by simp) rfl (by
    change performReadConsumer _ [i] s.heard = _
    have hr' : s.heard.record i.toNat = none := hr
    refine (if_pos hi).trans ?_
    simp only [hr']
    rfl)

theorem readStatus_badIndex {n : Byte} (hn : 3 < n.toNat) :
    exec (.readStatus src tag [n]) s = .next (finish (s.answered src tag [0x01, 2])) :=
  exec_answers (kind := 0x01) (args := [n]) (result := .badIndex) (data := []) hs (by simp) rfl (by
    change performReadStatus _ [n] s.heard = _
    simp only [performReadStatus, statusSection_none hn]
    rfl)

end Reads

/-- Settles O46: each read by the layout it answers with. -/
theorem readsAnswer : Obligations.ReadsAnswer := by
  intro src tag s hs
  refine ⟨fun args hne hlen => wrongLength_answers hs hne hlen, fun i hi => readStatus_badIndex hs hi,
    readStatus_answers (n := 0) (data := statusStart s) hs rfl, ?_, ?_, ?_, fun copy h => readPolicy_badCopy hs h,
    readPolicy_answers hs (.inl ⟨rfl, rfl⟩), readPolicy_answers hs (.inr ⟨rfl, rfl⟩), fun i hi => badIndex_answers hs hi,
    fun i hi hm => ?_, fun i hi hm => ?_, fun i hi hv => readSums_wrongState hs hi hv, fun i hi hv => ?_,
    fun i hi => readConsumer_badIndex hs hi, fun i hi hr => readConsumer_vacant hs hi hr, fun i r hi hr => ?_⟩
  · refine (readStatus_answers (n := 1) (data := statusPhases s) hs rfl).trans ?_
    unfold statusPhases statusPhase Condition.count
    rfl
  · refine (readStatus_answers (n := 2) (data := statusQueues s.heard) hs rfl).trans ?_
    rw [statusQueues_heard hs]
    simp only [List.append_assoc]
  · obtain ⟨hlength, hrest⟩ := statusRescue_spec s
    exact ⟨statusRescue s, readStatus_answers (n := 3) hs rfl, fun _ => hlength, hrest⟩
  · refine (readSegment_answers hs hi hm).trans ?_
    simp [flagByte]
  · refine (readSegment_answers hs hi hm).trans ?_
    simp [flagByte]
  · refine (readSums_answers hs hi hv).trans ?_
    simp only [List.append_assoc]
    rfl
  · obtain ⟨hlength, hhead, hmove, hloads, hlink, htag, hquery, hfault, hmark⟩ :=
      consumerBytes_spec r (if r.state.moving then s.entryOf i.toNat else none)
    refine ⟨_, readConsumer_answers hs hi hr, hlength, hhead, hmove, hloads, fun hstill => ?_, fun e hm he => ?_, ?_, ?_,
      hfault.trans (faultByte_eq _), ?_⟩
    · rw [hlink, hstill]
      rfl
    · rw [hlink, hm, if_pos rfl, entryOf_of_filter he]
      rfl
    · rw [htag]
      cases r.lastTag <;> rfl
    · rw [hquery]
      rfl
    · rw [hmark]
      cases r.rescue <;> rfl

end Sys2Proof.Machine

namespace Sys2Proof.Machine

/-! ## WRITE POLICY and WRITE SEGMENT -/

/-- The end of the rescue by an adoption changes the rescue and its notices alone (R149). -/
theorem rescueDisabled_eq (s : State) : ∃ rescue notices lost,
    rescueDisabled s = { s with rescue := rescue, ports.notices := notices, ports.lostNotices := lost } := by
  have hfold : ∀ (l : List Nat) (t : State), ∃ rescue,
      l.foldl (fun s i => countUnrescuable (unlist i s)) t = { t with rescue := rescue } := fun l => by
    induction l with
    | nil => exact fun t => ⟨_, rfl⟩
    | cons i l ih =>
      intro t
      obtain ⟨rescue, e⟩ := ih (countUnrescuable (unlist i t))
      exact ⟨rescue, e⟩
  unfold rescueDisabled
  split
  · obtain ⟨rescue, e⟩ := hfold s.rescue.list s
    rw [e]
    rcases closeTest_eq { s with rescue := rescue } with h | ⟨notices, lost, -, -, h⟩
    · exact ⟨_, _, _, h⟩
    · exact ⟨_, _, _, h⟩
  · exact ⟨_, _, _, rfl⟩

/-- What an adoption takes and what it leaves (R81, R83). -/
theorem adopt_fields (s : State) : ∃ sums rescue notices lost,
    (s.tables.shadow = s.tables.active → sums = s.balancer.sums)
      ∧ (s.tables.shadow ≠ s.tables.active → sums = (rebuild (driveSelectLines (takeShadows s))).balancer.sums)
      ∧ adopt s = { driveSelectLines (takeShadows s) with
          balancer.sums := sums, rescue := rescue, ports.notices := notices, ports.lostNotices := lost } := by
  obtain ⟨sums, hsame, hnew, e⟩ := adopted_eq s
  rw [adopt_eq, e]
  split
  · obtain ⟨rescue, notices, lost, e'⟩ := rescueDisabled_eq { driveSelectLines (takeShadows s) with balancer.sums := sums }
    exact ⟨sums, rescue, notices, lost, hsame, hnew, by rw [e']⟩
  · exact ⟨sums, _, _, _, hsame, hnew, rfl⟩

/-- A command whose write leaves `t`: outside STOPPED that is all, in STOPPED both shadows are adopted (R83). -/
def State.Writes (s : State) (src tag : Byte) (c : Instr) (t : State) (payload : List Byte) : Prop :=
  (s.balancer.state ≠ .stopped → exec c s = .next (finish (t.answered src tag payload)))
    ∧ (s.balancer.state = .stopped →
      ∃ u : State, exec c s = .next (finish (u.answered src tag payload))
        ∧ u.tables.active = t.tables.shadow ∧ u.tables.shadow = t.tables.shadow
        ∧ u.tables.marks = List.replicate 16 false ∧ u.management.active = t.management.shadow
        ∧ u.management.shadow = t.management.shadow ∧ u.management.policyPending = false
        ∧ u.balancer.state = .stopped
        ∧ u.balancer.remaining = min s.balancer.remaining t.management.shadow.passDivider
        ∧ u.tables.consumers = s.tables.consumers ∧ u.scheduler = s.scheduler ∧ u.timebase = s.timebase
        ∧ u.intake = s.intake ∧ u.supervision.phases = s.supervision.phases
        ∧ (t.tables.shadow ≠ s.tables.active → TreeRule t.tables.shadow → u.SumsRight)
        ∧ (t.tables.shadow = s.tables.active → u.balancer.sums = s.balancer.sums))

/-- A state with other shadows. -/
def State.withShadows (s : State) (table : List Segment) (marks : List Bool) (policy : Policy) (pending : Bool) : State :=
  { s with
    tables.shadow := table, tables.marks := marks
    management.shadow := policy, management.policyPending := pending }

/-- An accepted write stores its shadow and then does what R83 asks for. -/
theorem exec_writes {s : State} {src tag kind : Byte} {args : List Byte} (hs : s.TakesRequests) (hlen : args.length < 48)
    {c : Instr} (hc : exec c s = .next (whileRunning (requestArrives src tag (kind :: args)) s))
    {k : Byte} {result : Result} {table : List Segment} {marks : List Bool} {policy : Policy} {pending : Bool}
    (hperform : perform ⟨src, tag, kind :: args⟩ s.heard = respond ⟨src, tag, kind :: args⟩ k result []
      (afterTableWrite (s.heard.withShadows table marks policy pending))) :
    s.Writes src tag c (s.withShadows table marks policy pending) [k, result.code] := by
  refine ⟨fun hstate => ?_, fun hstate => ?_⟩
  · have hsame : afterTableWrite (s.heard.withShadows table marks policy pending)
        = s.heard.withShadows table marks policy pending := by
      have hrun : ¬ s.stopped = true := by simpa [State.stopped] using hstate
      exact if_neg hrun
    rw [hsame] at hperform
    exact exec_done (u := s.heard.withShadows table marks policy pending) hs hlen hc hperform ⟨rfl, rfl⟩
  · obtain ⟨sums, rescue, notices, lost, hsame, hnew, e⟩ :=
      adopt_fields (s.heard.withShadows table marks policy pending)
    have hstopped : s.stopped = true := by simpa [State.stopped] using hstate
    have hwritten : afterTableWrite (s.heard.withShadows table marks policy pending)
        = adoptWhileStopped (s.heard.withShadows table marks policy pending) := if_pos hstopped
    unfold adoptWhileStopped at hwritten
    dsimp only at hwritten
    rw [e] at hwritten
    rw [hwritten] at hperform
    refine ⟨_, exec_done hs hlen hc hperform ⟨rfl, rfl⟩, rfl, rfl, rfl, rfl, rfl, rfl, hstate, rfl, rfl, rfl, rfl, rfl, rfl,
      fun hne htree => ?_, hsame⟩
    have hright := rebuild_sumsRight
      (s := driveSelectLines (takeShadows (s.heard.withShadows table marks policy pending))) htree
    refine State.SumsRight.congr ?_ ?_ ?_ (fun j => ?_) hright
    · rfl
    · exact hnew hne
    · rfl
    · rfl

/-! ### WRITE POLICY (R191, R192) -/

theorem perform_writePolicy (src tag : Byte) (args : List Byte) (s : State) :
    perform ⟨src, tag, 0x03 :: args⟩ s = performWritePolicy ⟨src, tag, 0x03 :: args⟩ args s := rfl

theorem doneResult_code (clamped : Bool) : (doneResult clamped).code = if clamped then 1 else 0 := by
  cases clamped <;> rfl

section WritePolicy
variable {src tag : Byte} {args : List Byte} {s : State} (hs : s.TakesRequests)
include hs

theorem writePolicy_refused (hlen : args.length < 48) (h : args.length = 40 → policyOfBytes args = none) :
    exec (.writePolicy src tag args) s = .next (finish (s.answered src tag [0x03, 3])) :=
  exec_answers (kind := 0x03) (args := args) (result := .badValue) (data := []) hs hlen rfl (by
    rw [perform_writePolicy, performWritePolicy]
    by_cases h40 : args.length = 40
    · rw [if_pos h40, h h40]
      rfl
    · rw [if_neg h40]
      rfl)

theorem writePolicy_writes {p : Policy} (h40 : args.length = 40) (hp : policyOfBytes args = some p) :
    s.Writes src tag (.writePolicy src tag args)
      { s with management.shadow := clampPolicy p, management.policyPending := true }
      [0x03, if clampPolicy p = p then 0 else 1] := by
  have hcode : (if clampPolicy p = p then 0 else 1) = (doneResult (clampPolicy p != p)).code := by
    rw [doneResult_code]
    by_cases h : clampPolicy p = p <;> simp [h]
  rw [hcode]
  refine exec_writes (kind := 0x03) (args := args) (table := s.tables.shadow) (marks := s.tables.marks)
    (policy := clampPolicy p) (pending := true) hs (by omega) rfl ?_
  rw [perform_writePolicy, performWritePolicy]
  rw [if_pos h40, hp]
  rfl

end WritePolicy

/-! ### WRITE SEGMENT (R4, R5) -/

theorem perform_writeSegment (src tag : Byte) (args : List Byte) (s : State) :
    perform ⟨src, tag, 0x05 :: args⟩ s = performWriteSegment ⟨src, tag, 0x05 :: args⟩ args s := rfl

theorem performWriteSegment_length {args : List Byte} (h : args.length ≠ 8) (r : Request) (s : State) :
    performWriteSegment r args s = refuse r 0x05 .badValue s := by
  unfold performWriteSegment
  split
  · exact absurd rfl h
  · rfl

/-- Whether a record is kept on a segment. -/
theorem any_segment (s : State) (i : Nat) :
    (s.tables.consumers.any fun r => r.any fun r => r.segment == i) = true
      ↔ ∃ j r, s.record j = some r ∧ r.segment = i := by
  rw [List.any_eq_true]
  constructor
  · rintro ⟨o, ho, hany⟩
    obtain ⟨r, rfl, hr⟩ := (Option.any_eq_true ..).mp hany
    obtain ⟨j, hj, e⟩ := List.getElem_of_mem ho
    exact ⟨j, r, by simp [State.record, List.getElem?_eq_getElem hj, e], by simpa using hr⟩
  · rintro ⟨j, r, hr, hseg⟩
    unfold State.record at hr
    rw [Option.join_eq_some_iff] at hr
    exact ⟨some r, List.mem_of_getElem? hr, by simpa using hseg⟩

section WriteSegment
variable {src tag i valid parent weight l0 l1 l2 l3 : Byte} {s : State} (hs : s.TakesRequests)
include hs

theorem writeSegment_refused {result : Result}
    (h : s.segmentRefusal i.toNat valid.toNat parent.toNat = some result) :
    exec (.writeSegment src tag [i, valid, parent, weight, l0, l1, l2, l3]) s
      = .next (finish (s.answered src tag [0x05, result.code])) :=
  exec_answers (kind := 0x05) (args := [i, valid, parent, weight, l0, l1, l2, l3]) (result := result) (data := [])
    hs (by simp) rfl (by
      have h' : s.heard.segmentRefusal i.toNat valid.toNat parent.toNat = some result := h
      rw [perform_writeSegment, performWriteSegment]
      simp only [h']
      rfl)

theorem writeSegment_writes (hv : valid = 0 ∨ valid = 1)
    (h : s.segmentRefusal i.toNat valid.toNat parent.toNat = none) :
    s.Writes src tag (.writeSegment src tag [i, valid, parent, weight, l0, l1, l2, l3])
      { s with
        tables.shadow := s.tables.shadow.set i.toNat
          ⟨decide (valid = 1), if i = 0 ∨ valid = 0 then none else some parent.toNat, min weight.toNat 15,
            min (beNat [l0, l1, l2, l3]) 65535⟩
        tables.marks := s.tables.marks.set i.toNat true }
      [0x05, if weight.toNat ≤ 15 ∧ beNat [l0, l1, l2, l3] ≤ 65535 then 0 else 1] := by
  have hcode : (if weight.toNat ≤ 15 ∧ beNat [l0, l1, l2, l3] ≤ 65535 then 0 else 1)
      = (doneResult (15 < weight.toNat || Config.noLimit < beNat [l0, l1, l2, l3])).code := by
    rw [doneResult_code]
    change _ = if (decide (15 < weight.toNat) || decide (65535 < beNat [l0, l1, l2, l3])) = true then (1 : Byte) else 0
    by_cases hw : weight.toNat ≤ 15 <;> by_cases hl : beNat [l0, l1, l2, l3] ≤ 65535 <;> simp [hw, hl]
  have hseg : writtenSegment i.toNat valid.toNat parent.toNat weight.toNat (beNat [l0, l1, l2, l3])
      = ⟨decide (valid = 1), if i = 0 ∨ valid = 0 then none else some parent.toNat, min weight.toNat 15,
        min (beNat [l0, l1, l2, l3]) 65535⟩ := by
    have hi : i.toNat = 0 ↔ i = 0 := by
      rw [← BitVec.toNat_inj]
      rfl
    rcases hv with rfl | rfl <;> simp [writtenSegment, hi] <;> rfl
  rw [hcode, ← hseg]
  refine exec_writes (kind := 0x05) (args := [i, valid, parent, weight, l0, l1, l2, l3])
    (policy := s.management.shadow) (pending := s.management.policyPending) hs (by simp) rfl ?_
  have h' : s.heard.segmentRefusal i.toNat valid.toNat parent.toNat = none := h
  rw [perform_writeSegment, performWriteSegment]
  simp only [h']
  rfl

end WriteSegment

/-- The refusals of a WRITE SEGMENT, case by case (R5, R196). -/
theorem segmentRefusal_child {s : State} {i parent : Nat} (hi : 1 ≤ i) (hlt : i < 16) :
    s.segmentRefusal i 1 parent
      = if i ≤ parent ∨ (segmentAt s.tables.shadow parent).valid = false then some .treeRule else none := by
  have hlt' : ¬ Config.segments ≤ i := Nat.not_le.mpr hlt
  unfold State.segmentRefusal
  dsimp only
  rw [if_neg hlt', if_neg (by omega), if_neg (by omega), if_pos rfl]
  by_cases hp : i ≤ parent
  · simp [hp]
  · cases hv : (segmentAt s.tables.shadow parent).valid <;> simp [hp]

theorem segmentRefusal_unused {s : State} {i parent : Nat} (hi : 1 ≤ i) (hlt : i < 16) :
    (s.segmentRefusal i 0 parent = some .treeRule ∨ s.segmentRefusal i 0 parent = none)
      ∧ (s.segmentRefusal i 0 parent = some .treeRule ↔ (∃ j r, s.record j = some r ∧ r.segment = i)
        ∨ ∃ seg ∈ s.tables.shadow, seg.valid = true ∧ seg.parent = some i) := by
  have hlt' : ¬ Config.segments ≤ i := Nat.not_le.mpr hlt
  rw [← any_segment]
  have hchild : (s.tables.shadow.any fun seg => seg.valid && seg.parent == some i) = true
      ↔ ∃ seg ∈ s.tables.shadow, seg.valid = true ∧ seg.parent = some i := by
    simp [List.any_eq_true]
  rw [← hchild]
  unfold State.segmentRefusal
  dsimp only
  rw [if_neg hlt', if_neg (by omega), if_neg (by omega), if_neg (by omega)]
  split
  · rename_i h
    simp [h]
  · split
    · rename_i h
      simp [h]
    · rename_i h h'
      simp [h, h']

/-- Settles O48: each refusal by its first condition, each accepted write by what R83 makes of it. -/
theorem policyAndSegmentWrites : Obligations.PolicyAndSegmentWrites := by
  intro src tag s hs
  refine ⟨fun args hne hlen => writePolicy_refused hs hlen fun h => absurd h hne,
    fun args h40 hnone => writePolicy_refused hs (by omega) fun _ => hnone,
    fun args p h40 hp => writePolicy_writes hs h40 hp,
    fun args hne hlen => exec_answers (kind := 0x05) (result := .badValue) (data := []) hs hlen rfl
      (performWriteSegment_length hne _ _), fun i valid parent weight l0 l1 l2 l3 => ?_⟩
  refine ⟨fun hi => ?_, fun hi hv => ?_, ?_, ?_, fun hlow hi => ?_, fun hlow hi => ?_⟩
  · exact writeSegment_refused (result := .badIndex) hs (if_pos hi)
  · exact writeSegment_refused (result := .badValue) hs ((if_neg (Nat.not_le.mpr hi)).trans (if_pos hv))
  · rintro rfl rfl
    exact writeSegment_refused (result := .treeRule) hs rfl
  · rintro rfl rfl
    exact writeSegment_writes hs (.inr rfl) rfl
  · rintro rfl
    refine ⟨fun h => ?_, fun hp hvalid => ?_⟩
    · exact writeSegment_refused (result := .treeRule) hs ((segmentRefusal_child hlow hi).trans (if_pos h))
    · refine writeSegment_writes hs (.inr rfl) ((segmentRefusal_child hlow hi).trans (if_neg ?_))
      rw [hvalid]
      simpa using hp
  · rintro rfl
    obtain ⟨hor, hiff⟩ := segmentRefusal_unused (s := s) (parent := parent.toNat) hlow hi
    refine ⟨fun h => ?_, fun h => ?_⟩
    · exact writeSegment_refused (result := .treeRule) hs (hiff.mpr h)
    · exact writeSegment_writes hs (.inl rfl) (hor.resolve_left fun h' => h (hiff.mp h'))

end Sys2Proof.Machine

namespace Sys2Proof.Machine

/-! ## WRITE CONSUMER, CLEAR CONSUMER, SET LOCK and CLEAR FAULT -/

/-- A record off the rescue list (R146): the list, the loss event and the notices alone may change. -/
theorem delist_eq (i : Nat) (s : State) : ∃ event notices lost, delist i s =
    { s with
      rescue := { s.rescue with list := s.rescue.list.filter fun j => j != i, event := event }
      ports.notices := notices, ports.lostNotices := lost } := by
  unfold delist
  by_cases hl : s.listed i = true
  · rw [if_pos hl]
    rcases closeTest_eq (unlist i s) with h | ⟨notices, lost, -, -, h⟩
    · exact ⟨_, _, _, h⟩
    · exact ⟨_, _, _, h⟩
  · rw [if_neg hl]
    have hall : (s.rescue.list.filter fun j => j != i) = s.rescue.list := by
      refine List.filter_eq_self.mpr fun j hj => ?_
      have : j ≠ i := by
        rintro rfl
        exact hl (List.contains_iff_mem.mpr hj)
      simpa using this
    exact ⟨s.rescue.event, s.ports.notices, s.ports.lostNotices, by rw [hall]⟩

theorem mem_filter_ne {l : List Nat} {i j : Nat} : j ∈ l.filter (fun j => j != i) ↔ j ∈ l ∧ j ≠ i := by
  simp

/-- An insertion by hand-over happens in an open loss event, or not at all (R152). -/
theorem insertByHandOver_cases (i : Nat) (s : State) :
    insertByHandOver i s = s ∨ s.rescue.event ≠ none ∧ ∃ n p, insertByHandOver i s = enlist i n p s := by
  unfold insertByHandOver
  split
  · rename_i n p h
    refine .inr ⟨fun hnone => ?_, n, p, rfl⟩
    unfold State.handOverInsertion at h
    rw [hnone] at h
    cases h
  · exact .inl rfl

/-- The state that an accepted WRITE CONSUMER leaves but for its map and records (R17 to R19). -/
theorem storeConsumer_fields (i : Nat) (w : ConsumerWrite) (s : State) :
    ∃ map sums event notices lost, storeConsumer i w s =
      { s with
        tables.consumers := s.tables.consumers.set i (some (s.writtenRecord i w)), tables.addressMap := map
        balancer.sums := sums
        scheduler.queries := s.scheduler.queries.filter fun e => e.consumer != i
        rescue := { s.rescue with list := s.rescue.list.filter fun j => j != i, event := event }
        ports.notices := notices, ports.lostNotices := lost } := by
  obtain ⟨map, -, e⟩ := remap_eq i (s.record i) w.address (writeRecord i (some (s.writtenRecord i w)) s)
  obtain ⟨sums, e'⟩ := writeRecord_eq i (some (s.writtenRecord i w)) s
  obtain ⟨event, notices, lost, e''⟩ := delist_eq i
    (leaveQueue i (remap i (s.record i) w.address (writeRecord i (some (s.writtenRecord i w)) s)))
  refine ⟨map, sums, event, notices, lost, ?_⟩
  rw [storeConsumer_eq, e'', e, e']
  rfl

theorem vacate_fields (i : Nat) (r : Consumer) (s : State) :
    ∃ map sums event notices lost, vacate i r s =
      { s with
        tables.consumers := s.tables.consumers.set i none, tables.addressMap := map
        balancer.sums := sums
        scheduler.queries := s.scheduler.queries.filter fun e => e.consumer != i
        rescue := { s.rescue with list := s.rescue.list.filter fun j => j != i, event := event }
        ports.notices := notices, ports.lostNotices := lost } := by
  obtain ⟨sums, e⟩ := writeRecord_eq i none s
  obtain ⟨event, notices, lost, e'⟩ := delist_eq i (leaveQueue i ((writeRecord i none s).setMap r.address none))
  refine ⟨s.tables.addressMap.set r.address.toNat none, sums, event, notices, lost, ?_⟩
  rw [vacate_eq, e', e]
  rfl

/-! ### The codes of WRITE CONSUMER (R16, R196) -/

/-- The segment, set, phase and lock that a WRITE CONSUMER may not carry (R16). -/
def State.RefusesWrite (s : State) (address segment allowed assigned lock : Byte) : Prop :=
  address.toNat < 1 ∨ 239 < address.toNat ∨ 16 ≤ segment.toNat
    ∨ (segmentAt s.tables.shadow segment.toNat).valid = false ∨ 1 < lock.toNat
    ∨ allowed = 0 ∨ 7 < allowed.toNat ∨ assigned = 0 ∨ 3 < assigned.toNat
    ∨ allowed.getLsbD (assigned.toNat - 1) = false

theorem boolOfCode_spec (b : Byte) :
    (1 < b.toNat → boolOfCode b.toNat = none) ∧ (b.toNat ≤ 1 → ∃ x, boolOfCode b.toNat = some x ∧ flagByte x = b) := by
  refine ⟨fun h => ?_, fun h => ?_⟩
  · obtain ⟨m, hm⟩ : ∃ m, b.toNat = m + 2 := ⟨b.toNat - 2, by omega⟩
    rw [hm]
    rfl
  · have : b.toNat = 0 ∨ b.toNat = 1 := by omega
    rcases this with h | h
    · exact ⟨false, by rw [h]; rfl, BitVec.eq_of_toNat_eq h.symm⟩
    · exact ⟨true, by rw [h]; rfl, BitVec.eq_of_toNat_eq h.symm⟩

theorem phaseSetOfCode_spec (b : Byte) :
    (b = 0 ∨ 7 < b.toNat → phaseSetOfCode b = none)
      ∧ (b ≠ 0 → b.toNat ≤ 7 → ∃ t, phaseSetOfCode b = some t ∧ phaseSetCode t = b
        ∧ ∀ p : Phase, t.get p = b.getLsbD ((phaseCode p).toNat - 1)) := by
  have hzero : b = 0 ↔ b.toNat = 0 := by
    rw [← BitVec.toNat_inj]
    rfl
  refine ⟨fun h => ?_, fun h0 h7 => ?_⟩
  · rw [hzero] at h
    exact if_neg (by simp; omega)
  · have hlow : 1 ≤ b.toNat := Nat.one_le_iff_ne_zero.mpr fun h => h0 (hzero.mpr h)
    refine ⟨⟨b.getLsbD 0, b.getLsbD 1, b.getLsbD 2⟩, if_pos (by simp [hlow, h7]), ?_, fun p => by cases p <;> rfl⟩
    have hall : ∀ n : Fin 8, phaseSetCode ⟨(BitVec.ofNat 8 n).getLsbD 0, (BitVec.ofNat 8 n).getLsbD 1,
        (BitVec.ofNat 8 n).getLsbD 2⟩ = BitVec.ofNat 8 n := by decide
    have := hall ⟨b.toNat, by omega⟩
    rwa [BitVec.ofNat_toNat, BitVec.setWidth_eq] at this

theorem phaseOfCode_spec (b : Byte) :
    (b = 0 ∨ 3 < b.toNat → phaseOfCode b = none)
      ∧ (b ≠ 0 → b.toNat ≤ 3 → ∃ p, phaseOfCode b = some p ∧ phaseCode p = b) := by
  have hzero : b = 0 ↔ b.toNat = 0 := by
    rw [← BitVec.toNat_inj]
    rfl
  unfold phaseOfCode
  refine ⟨fun h => ?_, fun h0 h3 => ?_⟩
  · rw [hzero] at h
    rcases h with h | h
    · rw [h]
      rfl
    · obtain ⟨m, hm⟩ : ∃ m, b.toNat = m + 4 := ⟨b.toNat - 4, by omega⟩
      rw [hm]
      rfl
  · have : b.toNat = 1 ∨ b.toNat = 2 ∨ b.toNat = 3 := by
      have : b.toNat ≠ 0 := fun h => h0 (hzero.mpr h)
      omega
    rcases this with h | h | h
    · exact ⟨.l1, by rw [h]; rfl, BitVec.eq_of_toNat_eq h.symm⟩
    · exact ⟨.l2, by rw [h]; rfl, BitVec.eq_of_toNat_eq h.symm⟩
    · exact ⟨.l3, by rw [h]; rfl, BitVec.eq_of_toNat_eq h.symm⟩

section Codes
variable {s : State} {address segment allowed assigned lock priority : Byte}

theorem readWrite_refused (h : s.RefusesWrite address segment allowed assigned lock) :
    s.readWrite address segment allowed assigned lock priority = none := by
  unfold State.readWrite
  by_cases haddress : address.toNat < 1 ∨ 239 < address.toNat
  · exact if_pos (by simpa using haddress)
  by_cases hsegment : Config.segments ≤ segment.toNat ∨ (segmentAt s.tables.shadow segment.toNat).valid = false
  · refine (if_neg (by simpa using haddress)).trans (if_pos ?_)
    simpa using hsegment
  refine (if_neg (by simpa using haddress)).trans ((if_neg (by simpa using hsegment)).trans ?_)
  by_cases hlock : 1 < lock.toNat
  · rw [(boolOfCode_spec lock).1 hlock]
  by_cases hallowed : allowed = 0 ∨ 7 < allowed.toNat
  · rw [(phaseSetOfCode_spec allowed).1 hallowed]
    cases boolOfCode lock.toNat <;> rfl
  by_cases hassigned : assigned = 0 ∨ 3 < assigned.toNat
  · rw [(phaseOfCode_spec assigned).1 hassigned]
    cases boolOfCode lock.toNat <;> cases phaseSetOfCode allowed <;> rfl
  have hbit : allowed.getLsbD (assigned.toNat - 1) = false := by
    change ¬ (16 ≤ segment.toNat ∨ _) at hsegment
    unfold State.RefusesWrite at h
    tauto
  obtain ⟨x, hx, -⟩ := (boolOfCode_spec lock).2 (by omega)
  obtain ⟨t, ht, -, hget⟩ := (phaseSetOfCode_spec allowed).2 (fun h => hallowed (.inl h)) (by omega)
  obtain ⟨p, hp, hcode⟩ := (phaseOfCode_spec assigned).2 (fun h => hassigned (.inl h)) (by omega)
  rw [hx, ht, hp]
  refine if_neg ?_
  rw [hget, hcode, hbit]
  exact Bool.false_ne_true

theorem readWrite_taken (h : ¬ s.RefusesWrite address segment allowed assigned lock) :
    ∃ w, s.readWrite address segment allowed assigned lock priority = some w ∧ w.address = address
      ∧ w.segment = segment.toNat ∧ phaseSetCode w.allowed = allowed ∧ phaseCode w.assigned = assigned
      ∧ flagByte w.lock = lock ∧ w.priority = min priority.toNat 3 := by
  unfold State.RefusesWrite at h
  simp only [not_or, Nat.not_lt, Nat.not_le, Bool.not_eq_false] at h
  obtain ⟨hlow, hhigh, hsegment, hvalid, hlock, hallowed, hallowed', hassigned, hassigned', hbit⟩ := h
  obtain ⟨x, hx, hxc⟩ := (boolOfCode_spec lock).2 hlock
  obtain ⟨t, ht, htc, hget⟩ := (phaseSetOfCode_spec allowed).2 hallowed hallowed'
  obtain ⟨p, hp, hpc⟩ := (phaseOfCode_spec assigned).2 hassigned hassigned'
  refine ⟨⟨address, segment.toNat, t, p, x, min priority.toNat 3⟩, ?_, rfl, rfl, htc, hpc, hxc, rfl⟩
  unfold State.readWrite
  refine (if_neg (by simp; omega)).trans ((if_neg ?_).trans ?_)
  · simp only [Bool.or_eq_true, decide_eq_true_eq, Bool.not_eq_true', not_or, hvalid, Bool.true_eq_false,
      not_false_eq_true, and_true]
    exact Nat.not_le.mpr hsegment
  · rw [hx, ht, hp]
    refine if_pos ?_
    rw [hget, hpc, hbit]

end Codes

theorem engaged_iff (s : State) (i : Nat) :
    s.engaged i = true
      ↔ ∃ r, s.record i = some r ∧ (r.state = .ordered ∨ r.state = .accepted ∨ ∃ q, r.state = .querying q) := by
  unfold State.engaged
  cases hr : s.record i with
  | none => simp
  | some r => cases hst : r.state <;> simp [hst]

theorem priority_code (priority : Byte) :
    (if priority.toNat ≤ 3 then 0 else 1) = (doneResult (3 < priority.toNat)).code := by
  rw [doneResult_code]
  by_cases h : priority.toNat ≤ 3
  · rw [if_pos h, if_neg (by simpa using h)]
  · rw [if_neg h, if_pos (by simpa using h)]

/-! ### WRITE CONSUMER (R16 to R19) -/

theorem perform_writeConsumer (src tag : Byte) (args : List Byte) (s : State) :
    perform ⟨src, tag, 0x07 :: args⟩ s = performWriteConsumer ⟨src, tag, 0x07 :: args⟩ args s := rfl

section WriteConsumer
variable {src tag i address segment allowed assigned lock priority : Byte} {s : State} (hs : s.TakesRequests)
include hs

theorem writeConsumer_refused {result : Result}
    (h : ∀ r : Request, performWriteConsumer r [i, address, segment, allowed, assigned, lock, priority] s.heard
      = refuse r 0x07 result s.heard) :
    exec (.writeConsumer src tag [i, address, segment, allowed, assigned, lock, priority]) s
      = .next (finish (s.answered src tag [0x07, result.code])) :=
  exec_answers (kind := 0x07) (args := [i, address, segment, allowed, assigned, lock, priority]) (result := result)
    (data := []) hs (by simp) rfl (by rw [perform_writeConsumer, h]; rfl)

theorem writeConsumer_badIndex (hi : 240 ≤ i.toNat) :
    exec (.writeConsumer src tag [i, address, segment, allowed, assigned, lock, priority]) s
      = .next (finish (s.answered src tag [0x07, 2])) :=
  writeConsumer_refused (result := .badIndex) hs fun _ => if_pos hi

theorem writeConsumer_busy (hi : i.toNat < 240) (hbusy : s.engaged i.toNat = true) :
    exec (.writeConsumer src tag [i, address, segment, allowed, assigned, lock, priority]) s
      = .next (finish (s.answered src tag [0x07, 4])) :=
  writeConsumer_refused (result := .busy) hs fun _ => (if_neg (Nat.not_le.mpr hi)).trans (if_pos hbusy)

theorem writeConsumer_badValue (hi : i.toNat < 240) (hfree : ¬ s.engaged i.toNat = true)
    (hbad : s.RefusesWrite address segment allowed assigned lock) :
    exec (.writeConsumer src tag [i, address, segment, allowed, assigned, lock, priority]) s
      = .next (finish (s.answered src tag [0x07, 3])) :=
  writeConsumer_refused (result := .badValue) hs fun _ => by
    have hread : s.heard.readWrite address segment allowed assigned lock priority = none := readWrite_refused (s := s) hbad
    refine (if_neg (Nat.not_le.mpr hi)).trans ((if_neg hfree).trans ?_)
    rw [hread]
    rfl

theorem writeConsumer_duplicate (hi : i.toNat < 240) (hfree : ¬ s.engaged i.toNat = true)
    (hgood : ¬ s.RefusesWrite address segment allowed assigned lock)
    (htaken : ∃ j, s.mapped address = some j ∧ j ≠ i.toNat) :
    exec (.writeConsumer src tag [i, address, segment, allowed, assigned, lock, priority]) s
      = .next (finish (s.answered src tag [0x07, 7])) :=
  writeConsumer_refused (result := .duplicateAddress) hs fun _ => by
    obtain ⟨w, hread, -⟩ := readWrite_taken (s := s) (priority := priority) hgood
    have hread' : s.heard.readWrite address segment allowed assigned lock priority = some w := hread
    obtain ⟨j, hj, hne⟩ := htaken
    have hany : (s.heard.mapped address).any (fun j => j != i.toNat) = true := by
      have hj' : s.heard.mapped address = some j := hj
      rw [hj']
      simpa using hne
    refine (if_neg (Nat.not_le.mpr hi)).trans ((if_neg hfree).trans ?_)
    rw [hread']
    exact if_pos hany

theorem writeConsumer_done (hi : i.toNat < 240) (hfree : ¬ s.engaged i.toNat = true)
    (hgood : ¬ s.RefusesWrite address segment allowed assigned lock)
    (hopen : ¬ ∃ j, s.mapped address = some j ∧ j ≠ i.toNat) :
    ∃ w, (w.address = address ∧ w.segment = segment.toNat ∧ phaseSetCode w.allowed = allowed
        ∧ phaseCode w.assigned = assigned ∧ flagByte w.lock = lock ∧ w.priority = min priority.toNat 3)
      ∧ exec (.writeConsumer src tag [i, address, segment, allowed, assigned, lock, priority]) s
        = .next (finish ((storeConsumer i.toNat w s.heard).answered src tag
          [0x07, if priority.toNat ≤ 3 then 0 else 1])) := by
  obtain ⟨w, hread, hw⟩ := readWrite_taken (s := s) (priority := priority) hgood
  have hread' : s.heard.readWrite address segment allowed assigned lock priority = some w := hread
  refine ⟨w, hw, ?_⟩
  rw [priority_code]
  refine exec_done (kind := 0x07) (args := [i, address, segment, allowed, assigned, lock, priority]) (data := []) hs
    (by simp) rfl ?_ ?_
  · have hany : ¬ (s.heard.mapped address).any (fun j => j != i.toNat) = true := fun h => by
      obtain ⟨j, hj, hne⟩ := (Option.any_eq_true ..).mp h
      exact hopen ⟨j, hj, by simpa using hne⟩
    rw [perform_writeConsumer, performWriteConsumer]
    refine (if_neg (Nat.not_le.mpr hi)).trans ((if_neg hfree).trans ?_)
    rw [hread']
    exact if_neg hany
  · obtain ⟨map, sums, event, notices, lost, e⟩ := storeConsumer_fields i.toNat w s.heard
    rw [e]
    exact ⟨rfl, rfl⟩

end WriteConsumer

/-- What a written record takes from the write, whatever stood before (R17, R18). -/
theorem writtenRecord_values (s : State) (i : Nat) (w : ConsumerWrite) :
    (s.writtenRecord i w).segment = w.segment ∧ (s.writtenRecord i w).allowed = w.allowed
      ∧ (s.writtenRecord i w).assigned = w.assigned ∧ (s.writtenRecord i w).lock = w.lock
      ∧ (s.writtenRecord i w).priority = w.priority ∧ (s.writtenRecord i w).silence = 0
      ∧ (s.writtenRecord i w).rescue = none := by
  unfold State.writtenRecord
  split
  · unfold replacedRecord
    split <;> exact ⟨rfl, rfl, rfl, rfl, rfl, rfl, rfl⟩
  · exact ⟨rfl, rfl, rfl, rfl, rfl, rfl, rfl⟩

/-- With its address unchanged a record keeps its loads, banks, counts and last move tag (R18). -/
theorem writtenRecord_same {s : State} {i : Nat} {w : ConsumerWrite} {r : Consumer} (hr : s.record i = some r)
    (ha : r.address = w.address) : s.writtenRecord i w
      = { r with
          state := .unverified s.freshQuery, segment := w.segment, allowed := w.allowed, assigned := w.assigned
          lock := w.lock, priority := w.priority, silence := 0, rescue := none } := by
  unfold State.writtenRecord
  rw [hr]
  exact if_pos ha

/-- A new record, and one with a new address, is as created (R17, R18). -/
theorem writtenRecord_new {s : State} {i : Nat} {w : ConsumerWrite}
    (h : ∀ r, s.record i = some r → r.address ≠ w.address) : s.writtenRecord i w = newRecord w s.freshQuery := by
  unfold State.writtenRecord
  split
  · rename_i r hr
    exact if_neg (h r hr)
  · rfl

/-- Settles O50: the refusals in order, then what `storeConsumer` leaves. -/
theorem writeConsumer : Obligations.WriteConsumer := by
  intro src tag i address segment allowed assigned lock priority s hs
  refine ⟨fun hi => writeConsumer_badIndex hs hi, fun hi hbusy => writeConsumer_busy hs hi ((engaged_iff ..).mpr hbusy),
    fun hi hfree hbad => writeConsumer_badValue hs hi (fun h => hfree ((engaged_iff ..).mp h)) hbad,
    fun hi hfree hgood htaken => writeConsumer_duplicate hs hi (fun h => hfree ((engaged_iff ..).mp h)) hgood htaken,
    fun hi hfree hgood hopen hb => ?_⟩
  obtain ⟨w, ⟨haddress, hsegment, hallowed, hassigned, hlock, hpriority⟩, hexec⟩ :=
    writeConsumer_done (src := src) (tag := tag) (priority := priority) hs hi (fun h => hfree ((engaged_iff ..).mp h))
      hgood hopen
  have hsized := hb.fits.sized
  have hlen : i.toNat < s.heard.tables.consumers.length := hsized.2.2.2.1 ▸ hi
  have hmaplen : s.heard.tables.addressMap.length = Config.addresses := hsized.2.2.2.2
  have hrecord := fun j => record_storeConsumer i.toNat j w s.heard
  have hmapped := fun a => mapped_storeConsumer i.toNat w a hmaplen
  obtain ⟨hvsegment, hvallowed, hvassigned, hvlock, hvpriority, hvsilence, hvrescue⟩ :=
    writtenRecord_values s.heard i.toNat w
  refine ⟨storeConsumer i.toNat w s.heard, s.heard.writtenRecord i.toNat w, hexec,
    by rw [hrecord, if_pos ⟨rfl, hlen⟩], writtenRecord_state .., (writtenRecord_address ..).trans haddress,
    hvsegment.trans hsegment, by rw [hvallowed, hallowed], by rw [hvassigned, hassigned], by rw [hvlock, hlock],
    hvpriority.trans hpriority, hvsilence, hvrescue, fun r hr ha => ?_, fun hne => ?_, fun j hj => ?_, ?_,
    fun r hr ha => ?_, fun a ha hold => ?_, ?_⟩
  · rw [writtenRecord_same (s := s.heard) hr (ha.trans haddress.symm)]
    exact ⟨rfl, rfl, rfl, rfl, rfl, rfl, rfl, rfl, rfl⟩
  · rw [writtenRecord_new (s := s.heard) fun r hr => haddress ▸ hne r hr]
    exact ⟨rfl, rfl, rfl, rfl, rfl, rfl, rfl, rfl, rfl⟩
  · rw [hrecord, if_neg fun h => hj h.1.symm]
    rfl
  · rw [hmapped, if_pos haddress.symm]
  · have hr' : s.heard.record i.toNat = some r := hr
    rw [hmapped, if_neg (haddress ▸ ha), hr', if_pos (by simp)]
  · have hany : ¬ (s.heard.record i.toNat).any (fun r => r.address = a) = true := fun h => by
      obtain ⟨r, hr, hra⟩ := (Option.any_eq_true ..).mp h
      exact hold r hr (by simpa using (of_decide_eq_true hra).symm)
    rw [hmapped, if_neg (haddress ▸ ha), if_neg hany]
    rfl
  · have hsums (hright : s.SumsRight) (htree : TreeRule s.tables.active) : (storeConsumer i.toNat w s.heard).SumsRight := by
      have hsummed : s.heard.Summed := ⟨htree, hb.fits.sums, hright.congr rfl rfl rfl fun _ => rfl⟩
      exact (hsummed.storeConsumer w).right
    obtain ⟨map, sums, event, notices, lost, e⟩ := storeConsumer_fields i.toNat w s.heard
    rw [e] at hsums ⊢
    exact ⟨rfl, fun j => mem_filter_ne, rfl, rfl, rfl, rfl, rfl, hsums⟩

/-! ### CLEAR CONSUMER (R20) -/

theorem perform_clearConsumer (src tag : Byte) (args : List Byte) (s : State) :
    perform ⟨src, tag, 0x08 :: args⟩ s = performClearConsumer ⟨src, tag, 0x08 :: args⟩ args s := rfl

theorem perform_setLock (src tag : Byte) (args : List Byte) (s : State) :
    perform ⟨src, tag, 0x0A :: args⟩ s = performSetLock ⟨src, tag, 0x0A :: args⟩ args s := rfl

theorem perform_clearFault (src tag : Byte) (args : List Byte) (s : State) :
    perform ⟨src, tag, 0x0B :: args⟩ s = performClearFault ⟨src, tag, 0x0B :: args⟩ args s := rfl

theorem performClearConsumer_length {args : List Byte} (h : args.length ≠ 1) (r : Request) (s : State) :
    performClearConsumer r args s = refuse r 0x08 .badValue s := by
  unfold performClearConsumer
  split
  · exact absurd rfl h
  · rfl

theorem performClearFault_length {args : List Byte} (h : args.length ≠ 1) (r : Request) (s : State) :
    performClearFault r args s = refuse r 0x0B .badValue s := by
  unfold performClearFault
  split
  · exact absurd rfl h
  · rfl

theorem performSetLock_length {args : List Byte} (h : args.length ≠ 2) (r : Request) (s : State) :
    performSetLock r args s = refuse r 0x0A .badValue s := by
  unfold performSetLock
  split
  · exact absurd rfl h
  · rfl

/-- A cleared fault (R143): the record UNVERIFIED, then perhaps listed for rescue, and nothing else. -/
theorem unfault_cases (i : Nat) (s : State) :
    (unfault i s = changeRecord i (fun r => { r with state := .unverified s.freshQuery }) s)
      ∨ s.rescue.event ≠ none ∧ ∃ n p,
        unfault i s = enlist i n p (changeRecord i (fun r => { r with state := .unverified s.freshQuery }) s) := by
  obtain ⟨l, sums, -, e⟩ := changeRecord_eq i (fun r => { r with state := .unverified s.freshQuery }) s
  have hevent : (changeRecord i (fun r => { r with state := .unverified s.freshQuery }) s).rescue.event
      = s.rescue.event := by rw [e]
  rw [← hevent]
  exact insertByHandOver_cases i _

section Clears
variable {src tag i : Byte} {s : State} (hs : s.TakesRequests)
include hs

theorem clearConsumer_answers {result : Result}
    (h : ∀ r : Request, performClearConsumer r [i] s.heard = respond r 0x08 result [] s.heard) :
    exec (.clearConsumer src tag [i]) s = .next (finish (s.answered src tag [0x08, result.code])) :=
  exec_answers (kind := 0x08) (args := [i]) (result := result) (data := []) hs (by simp) rfl
    (by rw [perform_clearConsumer, h])

theorem setLock_answers {lock : Byte} {result : Result}
    (h : ∀ r : Request, performSetLock r [i, lock] s.heard = respond r 0x0A result [] s.heard) :
    exec (.setLock src tag [i, lock]) s = .next (finish (s.answered src tag [0x0A, result.code])) :=
  exec_answers (kind := 0x0A) (args := [i, lock]) (result := result) (data := []) hs (by simp) rfl
    (by rw [perform_setLock, h])

theorem clearFault_answers {result : Result}
    (h : ∀ r : Request, performClearFault r [i] s.heard = respond r 0x0B result [] s.heard) :
    exec (.clearFault src tag [i]) s = .next (finish (s.answered src tag [0x0B, result.code])) :=
  exec_answers (kind := 0x0B) (args := [i]) (result := result) (data := []) hs (by simp) rfl
    (by rw [perform_clearFault, h])

theorem clearConsumer_vacant (hi : i.toNat < 240) (hr : s.record i.toNat = none) :
    exec (.clearConsumer src tag [i]) s = .next (finish (s.answered src tag [0x08, 0])) :=
  clearConsumer_answers (result := .done) hs fun r => by
    have hr' : s.heard.record i.toNat = none := hr
    have hfree : ¬ s.heard.engaged i.toNat = true := by
      unfold State.engaged
      rw [hr']
      exact Bool.false_ne_true
    refine (if_neg (Nat.not_le.mpr hi)).trans ((if_neg hfree).trans ?_)
    rw [hr']
    rfl

theorem clearConsumer_done {r : Consumer} (hi : i.toNat < 240) (hr : s.record i.toNat = some r)
    (hfree : ¬ s.engaged i.toNat = true) :
    exec (.clearConsumer src tag [i]) s
      = .next (finish ((vacate i.toNat r s.heard).answered src tag [0x08, 0])) := by
  refine exec_done (kind := 0x08) (args := [i]) (result := .done) (data := []) hs (by simp) rfl ?_ ?_
  · have hr' : s.heard.record i.toNat = some r := hr
    rw [perform_clearConsumer]
    refine (if_neg (Nat.not_le.mpr hi)).trans ((if_neg hfree).trans ?_)
    rw [hr']
    rfl
  · obtain ⟨map, sums, event, notices, lost, e⟩ := vacate_fields i.toNat r s.heard
    rw [e]
    exact ⟨rfl, rfl⟩

/-- SET LOCK by its lock value (R23). -/
theorem setLock_done {lock : Byte} {x : Bool} {r : Consumer} (hi : i.toNat < 240) (hr : s.record i.toNat = some r)
    (hx : boolOfCode lock.toNat = some x) (hattends : s.heard.Attends (storeLock i.toNat x s.heard)) :
    exec (.setLock src tag [i, lock]) s
      = .next (finish ((storeLock i.toNat x s.heard).answered src tag [0x0A, 0])) := by
  refine exec_done (kind := 0x0A) (args := [i, lock]) (result := .done) (data := []) hs (by simp) rfl ?_ hattends
  have hr' : s.heard.record i.toNat = some r := hr
  rw [perform_setLock]
  refine (if_neg (Nat.not_le.mpr hi)).trans ?_
  rw [hx, hr']
  rfl

theorem clearFault_done (hi : i.toNat < 240) (hfault : s.isFaulted i.toNat = true) :
    exec (.clearFault src tag [i]) s
      = .next (finish ((unfault i.toNat s.heard).answered src tag [0x0B, 0])) := by
  refine exec_done (kind := 0x0B) (args := [i]) (result := .done) (data := []) hs (by simp) rfl ?_ ?_
  · rw [perform_clearFault]
    exact (if_neg (Nat.not_le.mpr hi)).trans (if_pos hfault)
  · refine .of_ports (unfault_ports i.toNat s.heard) ?_
    obtain ⟨l, sums, -, e⟩ := changeRecord_eq i.toNat
      (fun r => { r with state := .unverified s.heard.freshQuery }) s.heard
    have hkept := (insertByHandOver_keeps i.toNat
      (changeRecord i.toNat (fun r => { r with state := .unverified s.heard.freshQuery }) s.heard)).management
    have hchange : (changeRecord i.toNat (fun r => { r with state := .unverified s.heard.freshQuery }) s.heard).management
        = s.heard.management := by rw [e]
    exact congrArg Management.requests (hkept.trans hchange)

end Clears

theorem modifyRecord_some {s : State} {i : Nat} {r : Consumer} (hr : s.record i = some r) (f : Consumer → Consumer) :
    s.modifyRecord i f = s.setRecord i (some (f r)) := by
  unfold State.modifyRecord
  rw [hr]

/-- A lock set on (R23). -/
theorem storeLock_on {s : State} {i : Nat} {r : Consumer} (hr : s.record i = some r) :
    storeLock i true s = delist i (s.setRecord i (some { r with lock := true, rescue := none })) := by
  have hlt := State.lt_of_record hr
  have hset : (s.setRecord i (some { r with lock := true })).record i = some { r with lock := true } := by
    rw [record_setRecord, if_pos ⟨rfl, hlt⟩]
  unfold storeLock
  rw [modifyRecord_some hr]
  change delist i (dropRescueMark i (s.setRecord i (some { r with lock := true }))) = _
  unfold dropRescueMark
  rw [modifyRecord_some hset]
  have hsets : (s.tables.consumers.set i (some { r with lock := true })).set i (some { r with lock := true, rescue := none })
      = s.tables.consumers.set i (some { r with lock := true, rescue := none }) := List.set_set ..
  unfold State.setRecord
  dsimp only
  rw [hsets]

theorem storeLock_off {s : State} {i : Nat} {r : Consumer} (hr : s.record i = some r) :
    storeLock i false s = s.setRecord i (some { r with lock := false }) := modifyRecord_some hr _

/-- Settles O51: each refusal by its first condition, each accepted request by the state it leaves. -/
theorem clearsAndLocks : Obligations.ClearsAndLocks := by
  intro src tag i s hs
  refine ⟨fun hi => ⟨?_, fun lock => ?_, ?_⟩, fun args hne hlen => ⟨?_, ?_⟩, fun args hne hlen => ?_,
    fun hi hr => ⟨clearConsumer_vacant hs hi hr, ?_, fun lock hlock => ?_⟩, fun hi lock hlock => ?_,
    fun r hi hr => ⟨fun hbusy => ?_, fun hno hna hnq _ hb => ?_, ?_, ?_, fun hno => ?_, fun x hx => ?_⟩⟩
  · exact clearConsumer_answers (result := .badIndex) hs fun _ => if_pos hi
  · exact setLock_answers (result := .badIndex) hs fun _ => if_pos hi
  · exact clearFault_answers (result := .badIndex) hs fun _ => if_pos hi
  · exact exec_answers (kind := 0x08) (result := .badValue) (data := []) hs hlen rfl
      (performClearConsumer_length hne _ _)
  · exact exec_answers (kind := 0x0B) (result := .badValue) (data := []) hs hlen rfl (performClearFault_length hne _ _)
  · exact exec_answers (kind := 0x0A) (result := .badValue) (data := []) hs hlen rfl (performSetLock_length hne _ _)
  · refine clearFault_answers (result := .wrongState) hs fun _ => (if_neg (Nat.not_le.mpr hi)).trans (if_neg ?_)
    have hr' : s.heard.record i.toNat = none := hr
    unfold State.isFaulted
    rw [hr']
    exact Bool.false_ne_true
  · obtain ⟨x, hx, -⟩ := (boolOfCode_spec lock).2 hlock
    have hr' : s.heard.record i.toNat = none := hr
    refine setLock_answers (result := .wrongState) hs fun _ => (if_neg (Nat.not_le.mpr hi)).trans ?_
    rw [hx, hr']
    rfl
  · refine setLock_answers (result := .badValue) hs fun _ => (if_neg (Nat.not_le.mpr hi)).trans ?_
    rw [(boolOfCode_spec lock).1 hlock]
    rfl
  · exact clearConsumer_answers (result := .busy) hs fun _ =>
      (if_neg (Nat.not_le.mpr hi)).trans (if_pos ((engaged_iff ..).mpr ⟨r, hr, hbusy⟩))
  · have hfree : ¬ s.engaged i.toNat = true := fun h => by
      obtain ⟨r', hr', hbusy⟩ := (engaged_iff ..).mp h
      obtain rfl : r = r' := Option.some.inj (hr.symm.trans hr')
      rcases hbusy with h | h | ⟨q, h⟩
      · exact hno h
      · exact hna h
      · exact hnq q h
    have hsized := hb.fits.sized
    have hlen : i.toNat < s.heard.tables.consumers.length := hsized.2.2.2.1 ▸ hi
    have hmapped := fun a => mapped_vacate i.toNat r a (s := s.heard) hsized.2.2.2.2
    refine ⟨vacate i.toNat r s.heard, clearConsumer_done hs hi hr hfree, ?_, fun j hj => ?_, ?_, fun a ha => ?_, ?_⟩
    · rw [record_vacate, if_pos ⟨rfl, hlen⟩]
    · rw [record_vacate, if_neg fun h => hj h.1.symm]
      rfl
    · rw [hmapped, if_pos rfl]
    · rw [hmapped, if_neg ha]
      rfl
    · have hsums (hright : s.SumsRight) (htree : TreeRule s.tables.active) : (vacate i.toNat r s.heard).SumsRight := by
        have hsummed : s.heard.Summed := ⟨htree, hb.fits.sums, hright.congr rfl rfl rfl fun _ => rfl⟩
        exact (hsummed.vacate r).right
      obtain ⟨map, sums, event, notices, lost, e⟩ := vacate_fields i.toNat r s.heard
      rw [e] at hsums ⊢
      exact ⟨rfl, fun j => mem_filter_ne, rfl, rfl, hsums⟩
  · have hstore := storeLock_off (s := s.heard) hr
    have hdone := setLock_done (src := src) (tag := tag) (lock := 0) (x := false) hs hi hr rfl
      (by rw [hstore]; exact ⟨rfl, rfl⟩)
    rw [hstore] at hdone
    exact hdone
  · have hstore := storeLock_on (s := s.heard) hr
    obtain ⟨event, notices, lost, e⟩ := delist_eq i.toNat
      (s.heard.setRecord i.toNat (some { r with lock := true, rescue := none }))
    rw [e] at hstore
    have hdone := setLock_done (src := src) (tag := tag) (lock := 1) (x := true) hs hi hr rfl
      (by rw [hstore]; exact ⟨rfl, rfl⟩)
    rw [hstore] at hdone
    exact ⟨_, hdone, rfl, fun j => mem_filter_ne, rfl, rfl, rfl, rfl, rfl⟩
  · refine clearFault_answers (result := .wrongState) hs fun _ => (if_neg (Nat.not_le.mpr hi)).trans (if_neg ?_)
    have := isFaulted_eq_false (s := s.heard) hr hno
    rw [this]
    exact Bool.false_ne_true
  · have hfault : s.isFaulted i.toNat = true := by
      unfold State.isFaulted
      rw [hr]
      simp only [hx]
    refine ⟨_, clearFault_done hs hi hfault, ?_⟩
    obtain ⟨l, sums, -, e⟩ := changeRecord_eq i.toNat
      (fun r => { r with state := .unverified s.heard.freshQuery }) s.heard
    have hrecord := fun j => record_changeRecord i.toNat j
      (fun r => { r with state := .unverified s.heard.freshQuery }) s.heard
    have hr' : s.heard.record i.toNat = some r := hr
    have hsums (hright : s.SumsRight) (htree : TreeRule s.tables.active) (hl : s.balancer.sums.length = 16) :
        (unfault i.toNat s.heard).SumsRight := by
      have hsummed : s.heard.Summed := ⟨htree, hl, hright.congr rfl rfl rfl fun _ => rfl⟩
      exact ((hsummed.changeRecord _).gentle (insertByHandOver_gentle i.toNat _)).right
    rcases unfault_cases i.toNat s.heard with hcase | ⟨hevent, n, p, hcase⟩
    · rw [hcase] at hsums ⊢
      refine ⟨?_, fun j hj => ?_, ?_, ?_, ?_, fun _ => ?_, hsums⟩
      · rw [hrecord, if_pos rfl, hr']
        rfl
      · rw [hrecord, if_neg (Ne.symm hj)]
        rfl
      · rw [e]
        rfl
      · rw [e]
        rfl
      · rw [e]
        rfl
      · rw [e]
        rfl
    · rw [hcase] at hsums ⊢
      obtain ⟨l', -, e'⟩ := modifyRecord_eq i.toNat (fun r => { r with rescue := some ⟨n, p⟩ })
        { changeRecord i.toNat (fun r => { r with state := .unverified s.heard.freshQuery }) s.heard with
          rescue.list := insertInOrder
            (changeRecord i.toNat (fun r => { r with state := .unverified s.heard.freshQuery }) s.heard).listedBefore
            i.toNat (changeRecord i.toNat (fun r => { r with state := .unverified s.heard.freshQuery }) s.heard).rescue.list }
      refine ⟨?_, fun j hj => ?_, ?_, ?_, ?_, fun hnone => absurd hnone hevent, hsums⟩
      · rw [record_enlist, if_pos rfl, hrecord, if_pos rfl, hr']
        rfl
      · rw [record_enlist, if_neg (Ne.symm hj), hrecord, if_neg (Ne.symm hj)]
        rfl
      · rw [enlist, e', e]
        rfl
      · rw [enlist, e', e]
        rfl
      · rw [enlist, e', e]
        rfl

end Sys2Proof.Machine

namespace Sys2Proof.Machine

/-! ## What an exchange of one record reaches -/

/-- A record without its rescue attempts. -/
def Consumer.bare (r : Consumer) : Consumer := { r with rescue := none }

/-- A change about one record leaves the other records, the tree, the timebase, the policy, the intake and the
counters alone, and hands its contribution over. -/
structure State.Around (i : Nat) (s t : State) : Prop where
  others : ∀ j, j ≠ i → t.record j = s.record j
  active : t.tables.active = s.tables.active
  timebase : t.timebase = s.timebase
  management : t.management = s.management
  intake : t.intake = s.intake
  counters : t.ports.counters = s.ports.counters
  summed : s.Summed → t.Summed

theorem State.Around.trans {i : Nat} {s t u : State} (h : s.Around i t) (k : t.Around i u) : s.Around i u where
  others j hj := (k.others j hj).trans (h.others j hj)
  active := k.active.trans h.active
  timebase := k.timebase.trans h.timebase
  management := k.management.trans h.management
  intake := k.intake.trans h.intake
  counters := k.counters.trans h.counters
  summed hs := k.summed (h.summed hs)

theorem State.Around.refl (i : Nat) (s : State) : s.Around i s := ⟨fun _ _ => rfl, rfl, rfl, rfl, rfl, rfl, id⟩

/-- The sums stay right through a change about one record. -/
theorem State.Around.sumsRight {i : Nat} {s t : State} (h : s.Around i t) (hs : s.SumsRight)
    (htree : TreeRule s.tables.active) (hl : s.balancer.sums.length = 16) : t.SumsRight :=
  (h.summed ⟨htree, hl, hs⟩).right

theorem closeEntry_around (i : Nat) (f : Consumer → Consumer) (s : State) : s.Around i (closeEntry i f s) := by
  have hother : ∀ j, j ≠ i → (closeEntry i f s).record j = s.record j := fun j hj => by
    rw [record_closeEntry, if_neg (Ne.symm hj)]
  have hsummed : s.Summed → (closeEntry i f s).Summed := fun h => h.closeEntry f
  obtain ⟨l, sums, -, e⟩ := closeEntry_eq i f s
  rw [e] at hother hsummed ⊢
  exact ⟨hother, rfl, rfl, rfl, rfl, rfl, hsummed⟩

theorem changeRecord_around (i : Nat) (f : Consumer → Consumer) (s : State) : s.Around i (changeRecord i f s) := by
  have hother : ∀ j, j ≠ i → (changeRecord i f s).record j = s.record j := fun j hj => by
    rw [record_changeRecord, if_neg (Ne.symm hj)]
  have hsummed : s.Summed → (changeRecord i f s).Summed := fun h => h.changeRecord f
  obtain ⟨l, sums, -, e⟩ := changeRecord_eq i f s
  rw [e] at hother hsummed ⊢
  exact ⟨hother, rfl, rfl, rfl, rfl, rfl, hsummed⟩

theorem modifyRecord_around {i : Nat} {f : Consumer → Consumer} {s : State}
    (hf : ∀ r, s.record i = some r → (f r).share = r.share) : s.Around i (s.modifyRecord i f) := by
  have hother : ∀ j, j ≠ i → (s.modifyRecord i f).record j = s.record j := fun j hj => by
    rw [record_modifyRecord, if_neg (Ne.symm hj)]
  have hsummed : s.Summed → (s.modifyRecord i f).Summed := fun h => h.modifyRecord hf
  obtain ⟨l, -, e⟩ := modifyRecord_eq i f s
  rw [e] at hother hsummed ⊢
  exact ⟨hother, rfl, rfl, rfl, rfl, rfl, hsummed⟩

theorem raiseNotice_around (i : Nat) (k : NoticeKind) (x : List Byte) (s : State) : s.Around i (raiseNotice k x s) := by
  have hsummed : s.Summed → (raiseNotice k x s).Summed := fun h => h.gentle (raiseNotice_gentle k x s)
  obtain ⟨n, l, e⟩ := raiseNotice_eq k x s
  rw [e] at hsummed ⊢
  exact ⟨fun _ _ => rfl, rfl, rfl, rfl, rfl, rfl, hsummed⟩

theorem leaveQueue_around (i : Nat) (s : State) : s.Around i (leaveQueue i s) :=
  ⟨fun _ _ => rfl, rfl, rfl, rfl, rfl, rfl, fun h => h.gentle (leaveQueue_gentle i s)⟩

/-! ### The Rescue Unit told of a record -/

/-- What the Rescue Unit makes of the end of an exchange: the rescue, the record's attempts and the notices; in no loss
event no notice, and of a record that cannot be drawn no attempts. -/
structure State.TellsRescue (i : Nat) (s t : State) : Prop where
  around : s.Around i t
  scheduler : t.scheduler = s.scheduler
  own : (t.record i).map Consumer.bare = (s.record i).map Consumer.bare
  event : s.rescue.event = none → t.rescue.event = none
  ports : s.rescue.event = none → t.ports = s.ports
  undrawable : ∀ r, s.record i = some r → r.state.drawable = false → t.record i = some r

theorem State.TellsRescue.trans {i : Nat} {s t u : State} (h : s.TellsRescue i t) (k : t.TellsRescue i u) :
    s.TellsRescue i u where
  around := h.around.trans k.around
  scheduler := k.scheduler.trans h.scheduler
  own := k.own.trans h.own
  event hs := k.event (h.event hs)
  ports hs := (k.ports (h.event hs)).trans (h.ports hs)
  undrawable r hr hd := k.undrawable r (h.undrawable r hr hd) hd

theorem State.TellsRescue.refl (i : Nat) (s : State) : s.TellsRescue i s :=
  ⟨.refl i s, rfl, rfl, id, fun _ => rfl, fun _ hr _ => hr⟩

/-- A change of the rescue list and counts alone. -/
theorem rescue_tells (i : Nat) {s : State} {x : Rescue} (hx : x.event = s.rescue.event) :
    s.TellsRescue i { s with rescue := x } where
  around := ⟨fun _ _ => rfl, rfl, rfl, rfl, rfl, rfl, fun h => h.congr rfl rfl rfl fun _ => rfl⟩
  scheduler := rfl
  own := rfl
  event h := hx.trans h
  ports _ := rfl
  undrawable _ hr _ := hr

theorem closeTest_tells (i : Nat) (s : State) : s.TellsRescue i (closeTest s) := by
  have hgentle := closeTest_gentle s
  rcases closeTest_eq s with h | ⟨notices, lost, -, hopen, h⟩
  · rw [h]
    exact .refl i s
  · rw [h] at hgentle ⊢
    refine ⟨⟨fun _ _ => rfl, rfl, rfl, rfl, rfl, rfl, fun h => h.gentle hgentle⟩, rfl, rfl, fun _ => rfl,
      fun hnone => ?_, fun _ hr _ => hr⟩
    rw [hnone] at hopen
    cases hopen

/-- A record that an insertion lists is one that a draw may take, in an open loss event (R152). -/
theorem handOverInsertion_spec {s : State} {i n : Nat} {p : Phase} (h : s.handOverInsertion i = some (n, p)) :
    s.rescue.event ≠ none ∧ ∃ r, s.record i = some r ∧ r.state.drawable = true := by
  unfold State.handOverInsertion at h
  split at h
  · rename_i ev r hev hr
    dsimp only at h
    split at h
    · rename_i hall
      simp only [Bool.and_eq_true] at hall
      exact ⟨by rw [hev]; exact nofun, r, hr, hall.1.1.1.2⟩
    · cases h
  · cases h

theorem enlist_tells {i n : Nat} {p : Phase} {s : State} (h : s.handOverInsertion i = some (n, p)) :
    s.TellsRescue i (enlist i n p s) := by
  obtain ⟨hevent, r, hr, hd⟩ := handOverInsertion_spec h
  have hrecord := record_enlist i n p s
  have haround : State.Around i { s with rescue.list := insertInOrder s.listedBefore i s.rescue.list } (enlist i n p s) :=
    modifyRecord_around fun _ _ => rfl
  have hlisted := rescue_tells i (s := s)
    (x := { s.rescue with list := insertInOrder s.listedBefore i s.rescue.list }) rfl
  refine ⟨hlisted.around.trans haround, modifyRecord_scheduler i _ _, ?_, fun hn => absurd hn hevent,
    fun hn => absurd hn hevent, fun r' hr' hd' => ?_⟩
  · rw [hrecord, if_pos rfl, Option.map_map]
    rfl
  · obtain rfl : r = r' := Option.some.inj (hr.symm.trans hr')
    rw [hd] at hd'
    cases hd'

theorem insertByHandOver_tells (i : Nat) (s : State) : s.TellsRescue i (insertByHandOver i s) := by
  unfold insertByHandOver
  split
  · rename_i n p h
    exact enlist_tells h
  · exact .refl i s

theorem rescueEntryEnd_tells (e : MoveEntry) (s : State) : s.TellsRescue e.consumer (rescueEntryEnd e s) := by
  have hcount : s.TellsRescue e.consumer (countUnrescuable s) := rescue_tells _ rfl
  unfold rescueEntryEnd
  split
  · exact hcount
  · split
    · split
      · split
        · rename_i n q h
          exact enlist_tells h
        · exact hcount
      · split
        · exact rescue_tells _ rfl
        · exact rescue_tells _ rfl
    · exact .refl _ s

theorem handOverEnd_tells (e : MoveEntry) (s : State) : s.TellsRescue e.consumer (handOverEnd e s) := by
  unfold handOverEnd
  refine State.TellsRescue.trans ?_ (closeTest_tells _ _)
  split
  · exact rescueEntryEnd_tells e s
  · exact insertByHandOver_tells e.consumer s
  · exact insertByHandOver_tells e.consumer s

theorem delist_tells (i : Nat) (s : State) : s.TellsRescue i (delist i s) := by
  unfold delist
  split
  · exact State.TellsRescue.trans (t := unlist i s) (rescue_tells i rfl) (closeTest_tells i _)
  · exact .refl i s

theorem noteSettlement_tells (i : Nat) (s : State) : s.TellsRescue i (noteSettlement i s) := by
  unfold noteSettlement
  split
  · split
    · split
      · exact .refl i s
      · exact insertByHandOver_tells i s
    · exact delist_tells i s
  · exact .refl i s

theorem noteOutOfService_tells (i : Nat) (s : State) : s.TellsRescue i (noteOutOfService i s) := by
  unfold noteOutOfService
  split
  · exact State.TellsRescue.trans (t := countUnrescuable (unlist i s)) (rescue_tells i rfl) (closeTest_tells i _)
  · exact .refl i s

/-! ### Notices -/

/-- A notice that passes the mask in a queue with room (R177, R179). -/
theorem raiseNotice_queued {k : NoticeKind} {s : State} (x : List Byte)
    (hk : s.management.active.mask.getLsbD (k.code - 1) = true) (hroom : s.ports.notices.length < 16) :
    (raiseNotice k x s).ports.notices = s.ports.notices ++ [⟨byte k.code, s.ports.lostNotices, s.now, x⟩]
      ∧ (raiseNotice k x s).ports.lostNotices = 0 := by
  rw [raiseNotice_room k x s hk hroom]
  exact ⟨rfl, rfl⟩

theorem record_raiseNotice (k : NoticeKind) (x : List Byte) (s : State) (i : Nat) :
    (raiseNotice k x s).record i = s.record i := by
  obtain ⟨n, l, e⟩ := raiseNotice_eq k x s
  rw [e]
  rfl

theorem raiseNotice_event (k : NoticeKind) (x : List Byte) (s : State) :
    (raiseNotice k x s).rescue = s.rescue := by
  obtain ⟨n, l, e⟩ := raiseNotice_eq k x s
  rw [e]

theorem closeEntry_rescue (i : Nat) (f : Consumer → Consumer) (s : State) :
    (closeEntry i f s).rescue = s.rescue := by
  obtain ⟨l, sums, -, e⟩ := closeEntry_eq i f s
  rw [e]

theorem changeRecord_rescue (i : Nat) (f : Consumer → Consumer) (s : State) :
    (changeRecord i f s).rescue = s.rescue := by
  obtain ⟨l, sums, -, e⟩ := changeRecord_eq i f s
  rw [e]

theorem changeRecord_scheduler (i : Nat) (f : Consumer → Consumer) (s : State) :
    (changeRecord i f s).scheduler = s.scheduler := by
  obtain ⟨l, sums, -, e⟩ := changeRecord_eq i f s
  rw [e]

theorem now_of_timebase {s t : State} (h : t.timebase = s.timebase) : t.now = s.now := by
  rw [State.now, h, State.now]

theorem addressOf_some {s : State} {i : Nat} {r : Consumer} (h : s.record i = some r) : s.addressOf i = r.address := by
  unfold State.addressOf
  rw [h]

/-! ### Frames from downstream to the own address -/

/-- The downstream receiver hunts again after a whole frame. -/
def State.heardDown (s : State) : State := { s with ports.down.receiver := .hunting }

theorem classifyDown_own {f : Frame} {s : State} (hlen : f.payload.length ≤ 48) (hdest : f.dest = s.ownAddress) :
    classifyDown f s = takeOwn f s := (if_neg (Nat.not_lt.mpr hlen)).trans (if_pos hdest)

/-- A frame to the own address, taken by the running part in one event (R169). -/
theorem next_frame {s : State} (h : s.hold = none) {f : Frame} (hlen : f.payload.length ≤ 48)
    (hdest : f.dest = s.ownAddress) :
    (Host.Outcome.next (whileRunning (frameComes .downstream f) s) : Host.Outcome State Fault Refusal)
      = .next (finish (takeOwn f s.heardDown)) := by
  rw [whileRunning_running _ _ h, ← classifyDown_own (s := s.heardDown) hlen hdest]
  rfl

theorem exec_transferAnswer {s : State} (h : s.hold = none) (src tag verdict reason : Byte) :
    exec (.transferAnswer src tag verdict reason) s
      = .next (finish (takeTransferAnswer src tag [verdict, reason] s.heardDown)) :=
  next_frame h (show 2 ≤ 48 by decide) rfl

theorem exec_transferReport {s : State} (h : s.hold = none) (src tag outcome reason phaseNow : Byte) :
    exec (.transferReport src tag outcome reason phaseNow) s
      = .next (finish (takeTransferReport src tag [outcome, reason, phaseNow] s.heardDown)) :=
  next_frame h (show 3 ≤ 48 by decide) rfl

theorem exec_phaseAnswer {s : State} (h : s.hold = none) (src tag phaseNow supply : Byte) :
    exec (.phaseAnswer src tag phaseNow supply) s
      = .next (finish (takePhaseAnswer src tag [phaseNow, supply] s.heardDown)) :=
  next_frame h (show 2 ≤ 48 by decide) rfl

/-- The one entry that a frame matches (R116). -/
theorem matchedEntry_eq {s : State} (h : s.ScheduleRight) {e : MoveEntry} (he : e ∈ s.scheduler.schedule) :
    s.matchedEntry e.consumer e.tag = some e := by
  cases hm : s.matchedEntry e.consumer e.tag with
  | none =>
    have := List.find?_eq_none.mp hm e he
    simp at this
  | some x =>
    obtain ⟨hx, hc⟩ := matchedEntry_spec hm
    rw [h.eq_of_consumer he hx hc.1]

theorem matchedEntry_none {s : State} {i : Nat} {tag : Byte}
    (h : ∀ e ∈ s.scheduler.schedule, e.consumer = i → e.tag ≠ tag) : s.matchedEntry i tag = none := by
  refine List.find?_eq_none.mpr fun e he => ?_
  simpa using h e he

theorem phaseOfCode_phaseCode (p : Phase) : phaseOfCode (phaseCode p) = some p := by
  cases p <;> rfl

end Sys2Proof.Machine

namespace Sys2Proof.Machine

/-! ## Answers and reports taken by an entry -/

/-! ### REFUSE (R118) -/

theorem record_closeRefused (reason : Byte) (e : MoveEntry) (s : State) (j : Nat) :
    (closeRefused reason e s).record j
      = if e.consumer = j then (s.record j).map fun r => { r with state := .settled } else s.record j :=
  (record_raiseNotice _ _ _ j).trans (record_closeEntry ..)

theorem closeRefused_around (reason : Byte) (e : MoveEntry) (s : State) : s.Around e.consumer (closeRefused reason e s) :=
  (closeEntry_around _ _ s).trans (raiseNotice_around _ _ _ _)

theorem learnWiring_around (e : MoveEntry) (s : State) : s.Around e.consumer (learnWiring e s) := by
  refine State.Around.trans (modifyRecord_around fun r _ => ?_) (raiseNotice_around _ _ _ _)
  obtain ⟨a, h, -⟩ := unwire_spec e.target r
  rw [h]
  rfl

theorem record_learnWiring (e : MoveEntry) (s : State) (j : Nat) :
    (learnWiring e s).record j = if e.consumer = j then (s.record j).map (unwire e.target) else s.record j :=
  (record_raiseNotice _ _ _ j).trans (record_modifyRecord ..)

theorem learnWiring_scheduler (e : MoveEntry) (s : State) : (learnWiring e s).scheduler = s.scheduler :=
  (raiseNotice_scheduler _ _ _).trans (modifyRecord_scheduler ..)

theorem learnWiring_rescue (e : MoveEntry) (s : State) : (learnWiring e s).rescue = s.rescue := by
  obtain ⟨l, -, h⟩ := modifyRecord_eq e.consumer (unwire e.target) s
  exact (raiseNotice_event _ _ _).trans ((congrArg State.rescue h).trans rfl)

/-- A refused entry closed and its wiring learned, before the Rescue Unit is told (R118). -/
def refused (reason : Byte) (e : MoveEntry) (s : State) : State :=
  if reason = 2 then learnWiring e (closeRefused reason e s) else closeRefused reason e s

theorem refused_around (reason : Byte) (e : MoveEntry) (s : State) : s.Around e.consumer (refused reason e s) := by
  unfold refused
  split
  · exact (closeRefused_around reason e s).trans (learnWiring_around e _)
  · exact closeRefused_around reason e s

theorem refused_scheduler (reason : Byte) (e : MoveEntry) (s : State) :
    (refused reason e s).scheduler
      = { s.scheduler with schedule := s.scheduler.schedule.filter fun x => x.consumer != e.consumer } := by
  unfold refused
  split
  · exact (learnWiring_scheduler e _).trans (closeRefused_scheduler reason e s)
  · exact closeRefused_scheduler reason e s

theorem refused_rescue (reason : Byte) (e : MoveEntry) (s : State) : (refused reason e s).rescue = s.rescue := by
  have hclosed : (closeRefused reason e s).rescue = s.rescue := (raiseNotice_event _ _ _).trans (closeEntry_rescue _ _ s)
  unfold refused
  split
  · exact (learnWiring_rescue e _).trans hclosed
  · exact hclosed

section Refuse
variable {reason : Byte} {e : MoveEntry} {s : State} {r : Consumer}

theorem record_refused (hr : s.record e.consumer = some r) (hne : r.assigned ≠ e.target) :
    (refused reason e s).record e.consumer
      = some { r with
          state := .settled, allowed := if reason = 2 then r.allowed.set e.target false else r.allowed } := by
  unfold refused
  by_cases h : reason = 2
  · rw [if_pos h, if_pos h, record_learnWiring, if_pos rfl, record_closeRefused, if_pos rfl, hr]
    simp only [Option.map_some, unwire]
    rw [if_pos (by simpa using hne)]
  · rw [if_neg h, if_neg h, record_closeRefused, if_pos rfl, hr]
    rfl

/-- The notices of a REFUSE that the mask lets through (R118, R129). -/
theorem refused_notices (hr : s.record e.consumer = some r) (hne : r.assigned ≠ e.target)
    (hfailed : s.management.active.mask.getLsbD 2 = true) (hwiring : s.management.active.mask.getLsbD 3 = true)
    (hroom : s.ports.notices.length ≤ 14) :
    (refused reason e s).ports.notices = s.ports.notices
      ++ [⟨3, s.ports.lostNotices, s.now,
        [byte e.consumer, r.address, e.tag, e.origin.code, phaseCode e.fromPhase, phaseCode e.target, 2, reason, 0]⟩]
      ++ (if reason = 2 then
          [⟨4, 0, s.now,
            [byte e.consumer, r.address, phaseCode e.target, phaseSetCode (r.allowed.set e.target false)]⟩]
        else []) := by
  have haround := closeEntry_around e.consumer (fun r => { r with state := .settled }) s
  have hports := closeEntry_ports e.consumer (fun r => { r with state := .settled }) s
  have hrecord : (closeEntry e.consumer (fun r => { r with state := .settled }) s).record e.consumer
      = some { r with state := .settled } := by
    rw [record_closeEntry, if_pos rfl, hr]
    rfl
  obtain ⟨hclosed, hlost⟩ := raiseNotice_queued (k := .moveFailed)
    (s := closeEntry e.consumer (fun r => { r with state := .settled }) s)
    [byte e.consumer, r.address, e.tag, e.origin.code, phaseCode e.fromPhase, phaseCode e.target,
      FailurePoint.answer.code, reason, optionPhaseCode none]
    (by rw [haround.management]; exact hfailed) (by rw [hports]; omega)
  rw [hports, now_of_timebase haround.timebase] at hclosed
  have hrefused : closeRefused reason e s = raiseNotice .moveFailed
      [byte e.consumer, r.address, e.tag, e.origin.code, phaseCode e.fromPhase, phaseCode e.target,
        FailurePoint.answer.code, reason, optionPhaseCode none]
      (closeEntry e.consumer (fun r => { r with state := .settled }) s) := by
    unfold closeRefused noticeMoveFailed
    rw [addressOf_some hrecord]
  rw [← hrefused] at hclosed hlost
  unfold refused
  by_cases h : reason = 2
  · have haround' := closeRefused_around reason e s
    obtain ⟨l, -, hl⟩ := modifyRecord_eq e.consumer (unwire e.target) (closeRefused reason e s)
    have hports' : ((closeRefused reason e s).modifyRecord e.consumer (unwire e.target)).ports
        = (closeRefused reason e s).ports := by rw [hl]
    have htime : ((closeRefused reason e s).modifyRecord e.consumer (unwire e.target)).timebase = s.timebase := by
      rw [hl]
      exact haround'.timebase
    have hmanagement : ((closeRefused reason e s).modifyRecord e.consumer (unwire e.target)).management
        = s.management := by
      rw [hl]
      exact haround'.management
    have hrecord' : ((closeRefused reason e s).modifyRecord e.consumer (unwire e.target)).record e.consumer
        = some { r with state := .settled, allowed := r.allowed.set e.target false } := by
      rw [record_modifyRecord, if_pos rfl, record_closeRefused, if_pos rfl, hr]
      simp only [Option.map_some, unwire]
      rw [if_pos (by simpa using hne)]
    obtain ⟨hlearned, -⟩ := raiseNotice_queued (k := .wiringLearned)
      (s := (closeRefused reason e s).modifyRecord e.consumer (unwire e.target))
      [byte e.consumer, r.address, phaseCode e.target, phaseSetCode (r.allowed.set e.target false)]
      (by rw [hmanagement]; exact hwiring)
      (by rw [hports', hclosed]; simp only [List.length_append, List.length_singleton]; omega)
    have hlearn : learnWiring e (closeRefused reason e s) = raiseNotice .wiringLearned
        [byte e.consumer, r.address, phaseCode e.target, phaseSetCode (r.allowed.set e.target false)]
        ((closeRefused reason e s).modifyRecord e.consumer (unwire e.target)) := by
      unfold learnWiring
      dsimp only
      rw [addressOf_some hrecord', hrecord']
    rw [if_pos h, if_pos h, hlearn, hlearned, hports', hclosed, hlost, now_of_timebase htime]
    rfl
  · rw [if_neg h, if_neg h, hclosed, List.append_nil]
    rfl

end Refuse

/-! ### Answers taken (R116, R117) -/

section Answer
variable {src tag reason : Byte} {e : MoveEntry} {s : State} (hm : s.mapped src = some e.consumer)
  (hmatch : s.matchedEntry e.consumer tag = some e) (hst : e.stage.takesAnswer = true)
include hm hmatch hst

theorem takeTransferAnswer_accept : takeTransferAnswer src tag [1, reason] s = acceptEntry e.consumer s := by
  unfold takeTransferAnswer
  simp only [hm, hmatch, hst]
  rfl

theorem takeTransferAnswer_refuse (hlow : 1 ≤ reason.toNat) (hhigh : reason.toNat ≤ 4) :
    takeTransferAnswer src tag [2, reason] s = refuseEntry reason e s := by
  unfold takeTransferAnswer
  simp only [hm, hmatch, hst, hlow, hhigh]
  rfl

end Answer

/-- An ACCEPT taken: the entry and its record ACCEPTED, and nothing else (R117). -/
theorem acceptEntry_eq {s : State} {i : Nat} {r : Consumer} (hr : s.record i = some r) :
    acceptEntry i s
      = { s with
          scheduler.schedule := s.scheduler.schedule.map fun x =>
            if x.consumer = i then { x with stage := .accepted } else x
          tables.consumers := s.tables.consumers.set i (some { r with state := .accepted }) } := by
  have hmap : (fun x : MoveEntry => if x.consumer == i then { x with stage := .accepted } else x)
      = fun x => if x.consumer = i then { x with stage := .accepted } else x := funext fun x => by
    simp only [beq_iff_eq]
  unfold acceptEntry
  rw [modifyRecord_some (s := setStage i .accepted s) hr, setStage, hmap]
  rfl

/-- Settles O33: the entry that the answer matches is the only one of its record; then each verdict's own lemma. -/
theorem answerTaken : Obligations.AnswerTaken := by
  intro src tag reason i e r s hhold hsched hm he hi htag hst hr htarget
  subst hi htag
  have hmatch : s.heardDown.matchedEntry e.consumer e.tag = some e := matchedEntry_eq (s := s.heardDown) hsched he
  have htakes : e.stage.takesAnswer = true := by
    rcases hst with h | h <;> rw [h] <;> rfl
  obtain ⟨r', hr', -, hassigned⟩ := hsched.2.1 e he
  obtain rfl : r = r' := Option.some.inj (hr.symm.trans hr')
  have hne : r.assigned ≠ e.target := hassigned ▸ htarget.symm
  have hrecord : s.heardDown.record e.consumer = some r := hr
  refine ⟨?_, fun hlow hhigh => ?_⟩
  · rw [exec_transferAnswer hhold, takeTransferAnswer_accept (s := s.heardDown) hm hmatch htakes, acceptEntry_eq hrecord]
    rfl
  · have htold := handOverEnd_tells e (refused reason e s.heardDown)
    have haround := (refused_around reason e s.heardDown).trans htold.around
    refine ⟨handOverEnd e (refused reason e s.heardDown), ?_, ?_, ?_, haround.others, haround.active, haround.timebase,
      haround.management, fun hsums htree hl => ?_, fun hfailed hwiring hevent hroom => ?_⟩
    · rw [exec_transferAnswer hhold, takeTransferAnswer_refuse (s := s.heardDown) hm hmatch htakes hlow hhigh,
        refuseEntry_eq]
      rfl
    · rw [htold.scheduler, refused_scheduler]
      rfl
    · refine htold.own.trans ?_
      rw [record_refused hrecord hne]
      rfl
    · exact haround.sumsRight (hsums.congr rfl rfl rfl fun _ => rfl) htree hl
    · have hclosed : (refused reason e s.heardDown).rescue.event = none := by
        rw [refused_rescue]
        exact hevent
      rw [htold.ports hclosed]
      exact refused_notices hrecord hne hfailed hwiring hroom

end Sys2Proof.Machine

namespace Sys2Proof.Machine

/-! ### Records settled or faulted by a frame -/

theorem mem_noteOutOfService (i j : Nat) (s : State) :
    j ∈ (noteOutOfService i s).rescue.list ↔ j ∈ s.rescue.list ∧ j ≠ i := by
  unfold noteOutOfService
  by_cases hl : s.listed i = true
  · rw [if_pos hl, closeTest_list]
    exact mem_unlist i j s
  · rw [if_neg hl]
    refine ⟨fun hj => ⟨hj, ?_⟩, And.left⟩
    rintro rfl
    exact hl (List.contains_iff_mem.mpr hj)

section Fault
variable {i : Nat} {reason : FaultReason} {tag : Byte} {s : State}

/-- A record FAULTED and off the query queue, with its notice, before the Rescue Unit is told (R124, R140). -/
def faulted (i : Nat) (reason : FaultReason) (tag : Byte) (s : State) : State :=
  noticeConsumerFault i reason tag (leaveQueue i (changeRecord i (fun r => { r with state := .faulted reason }) s))

theorem faulted_around : s.Around i (faulted i reason tag s) :=
  ((changeRecord_around i _ s).trans (leaveQueue_around i _)).trans (raiseNotice_around i _ _ _)

theorem faulted_scheduler : (faulted i reason tag s).scheduler
    = { s.scheduler with queries := s.scheduler.queries.filter fun x => x.consumer != i } := by
  refine (raiseNotice_scheduler _ _ _).trans ?_
  rw [leaveQueue, changeRecord_scheduler]

theorem faulted_rescue : (faulted i reason tag s).rescue = s.rescue :=
  (raiseNotice_event _ _ _).trans (changeRecord_rescue i _ s)

theorem record_faulted {r : Consumer} (hr : s.record i = some r) :
    (faulted i reason tag s).record i = some { r with state := .faulted reason } := by
  refine (record_raiseNotice _ _ _ i).trans ?_
  refine (record_changeRecord i i _ s).trans ?_
  rw [if_pos rfl, hr]
  rfl

theorem faulted_notices {r : Consumer} (hr : s.record i = some r)
    (hmask : s.management.active.mask.getLsbD 4 = true) (hroom : s.ports.notices.length < 16) :
    (faulted i reason tag s).ports.notices = s.ports.notices
      ++ [⟨5, s.ports.lostNotices, s.now, [byte i, r.address, reason.code, tag]⟩] := by
  have haround := (changeRecord_around i (fun r => { r with state := .faulted reason }) s).trans (leaveQueue_around i _)
  have hports : (leaveQueue i (changeRecord i (fun r => { r with state := .faulted reason }) s)).ports = s.ports :=
    changeRecord_ports i _ s
  have hrecord : (leaveQueue i (changeRecord i (fun r => { r with state := .faulted reason }) s)).record i
      = some { r with state := .faulted reason } := by
    refine (record_changeRecord i i _ s).trans ?_
    rw [if_pos rfl, hr]
    rfl
  obtain ⟨hqueued, -⟩ := raiseNotice_queued (k := .consumerFault)
    (s := leaveQueue i (changeRecord i (fun r => { r with state := .faulted reason }) s))
    [byte i, r.address, reason.code, tag] (by rw [haround.management]; exact hmask) (by rw [hports]; exact hroom)
  unfold faulted noticeConsumerFault
  rw [addressOf_some hrecord, hqueued, hports, now_of_timebase haround.timebase]
  rfl

theorem faultByFrame_eq : faultByFrame i reason tag s = noteOutOfService i (faulted i reason tag s) := rfl

/-- A record FAULTED by a frame, its queue place and its rescue (R124, R140). -/
theorem faultByFrame_spec {r : Consumer} (hr : s.record i = some r) :
    s.Around i (faultByFrame i reason tag s)
      ∧ (faultByFrame i reason tag s).scheduler
        = { s.scheduler with queries := s.scheduler.queries.filter fun x => x.consumer != i }
      ∧ (faultByFrame i reason tag s).record i = some { r with state := .faulted reason } := by
  have htold := noteOutOfService_tells i (faulted i reason tag s)
  exact ⟨faulted_around.trans htold.around, htold.scheduler.trans faulted_scheduler,
    htold.undrawable _ (record_faulted hr) rfl⟩

end Fault

section Settle
variable {i : Nat} {p : Phase} {s : State}

/-- A record settled by a late report (R124). -/
theorem settleByLateReport_spec {r : Consumer} (hr : s.record i = some r) :
    s.Around i (settleByLateReport i p s)
      ∧ (settleByLateReport i p s).scheduler
        = { s.scheduler with queries := s.scheduler.queries.filter fun x => x.consumer != i }
      ∧ ((settleByLateReport i p s).record i).map Consumer.bare = some (settleOn p r).bare := by
  have htold := noteSettlement_tells i (leaveQueue i (changeRecord i (settleOn p) s))
  refine ⟨((changeRecord_around i _ s).trans (leaveQueue_around i _)).trans htold.around, htold.scheduler.trans ?_,
    htold.own.trans ?_⟩
  · rw [leaveQueue, changeRecord_scheduler]
  · change ((changeRecord i (settleOn p) s).record i).map _ = _
    rw [record_changeRecord, if_pos rfl, hr]
    rfl

end Settle

/-! ### Reports taken (R120 to R122) -/

section Report
variable {e : MoveEntry} {s : State} {r : Consumer} (hr : s.record e.consumer = some r)
include hr

/-- A taken report whose phase now is none (R121). -/
theorem reportFaulted_spec :
    s.Around e.consumer (reportFaulted e s)
      ∧ (reportFaulted e s).scheduler
        = { s.scheduler with schedule := s.scheduler.schedule.filter fun x => x.consumer != e.consumer }
      ∧ (reportFaulted e s).record e.consumer = some { r with state := .faulted .contactFault }
      ∧ (s.management.active.mask.getLsbD 4 = true → s.rescue.event = none → s.ports.notices.length < 16 →
        (reportFaulted e s).ports.notices = s.ports.notices
          ++ [⟨5, s.ports.lostNotices, s.now, [byte e.consumer, r.address, 2, e.tag]⟩]) := by
  have hclose := closeEntry_around e.consumer (fun r => { r with state := .faulted .contactFault }) s
  have hports := closeEntry_ports e.consumer (fun r => { r with state := .faulted .contactFault }) s
  have hrecord : (closeEntry e.consumer (fun r => { r with state := .faulted .contactFault }) s).record e.consumer
      = some { r with state := .faulted .contactFault } := by
    rw [record_closeEntry, if_pos rfl, hr]
    rfl
  have hnotice := raiseNotice_queued (k := .consumerFault)
    (s := closeEntry e.consumer (fun r => { r with state := .faulted .contactFault }) s)
    [byte e.consumer, r.address, FaultReason.contactFault.code, e.tag]
  have hrest : reportFaulted e s = handOverEnd e (raiseNotice .consumerFault
      [byte e.consumer, r.address, FaultReason.contactFault.code, e.tag]
      (closeEntry e.consumer (fun r => { r with state := .faulted .contactFault }) s)) := by
    unfold reportFaulted noticeConsumerFault
    rw [addressOf_some hrecord]
  have htold := handOverEnd_tells e (raiseNotice .consumerFault
    [byte e.consumer, r.address, FaultReason.contactFault.code, e.tag]
    (closeEntry e.consumer (fun r => { r with state := .faulted .contactFault }) s))
  rw [hrest]
  refine ⟨(hclose.trans (raiseNotice_around ..)).trans htold.around, htold.scheduler.trans ?_,
    htold.undrawable _ ((record_raiseNotice ..).trans hrecord) rfl, fun hmask hevent hroom => ?_⟩
  · rw [raiseNotice_scheduler, closeEntry_schedule]
  · rw [htold.ports (by rw [raiseNotice_event, closeEntry_rescue]; exact hevent),
      (hnotice (by rw [hclose.management]; exact hmask) (by rw [hports]; exact hroom)).1, hports,
      now_of_timebase hclose.timebase]
    rfl

/-- The notice of a taken report that names a phase (R122): MOVE DONE on the target, MOVE FAILED elsewhere. -/
def noticeReported (e : MoveEntry) (p : Phase) (outcome reason : Byte) (s : State) : State :=
  if p = e.target then noticeMoveDone e p outcome s else noticeMoveFailed e .report reason (some p) s

omit hr in
theorem noticeReported_eq (p : Phase) (outcome reason : Byte) (u : State) :
    ∃ k x, noticeReported e p outcome reason u = raiseNotice k x u := by
  unfold noticeReported
  split
  · exact ⟨_, _, rfl⟩
  · exact ⟨_, _, rfl⟩

theorem noticeReported_queued (p : Phase) (outcome reason : Byte) (hdone : s.management.active.mask.getLsbD 1 = true)
    (hfailed : s.management.active.mask.getLsbD 2 = true) (hroom : s.ports.notices.length < 16) :
    (noticeReported e p outcome reason s).ports.notices = s.ports.notices
      ++ [if p = e.target then
          ⟨2, s.ports.lostNotices, s.now,
            [byte e.consumer, r.address, e.tag, e.origin.code, phaseCode e.fromPhase, phaseCode e.target,
              phaseCode p, outcome]⟩
        else
          ⟨3, s.ports.lostNotices, s.now,
            [byte e.consumer, r.address, e.tag, e.origin.code, phaseCode e.fromPhase, phaseCode e.target, 3, reason,
              phaseCode p]⟩] := by
  unfold noticeReported
  split
  · unfold noticeMoveDone
    rw [addressOf_some hr, (raiseNotice_queued _ hdone hroom).1]
    rfl
  · unfold noticeMoveFailed
    rw [addressOf_some hr, (raiseNotice_queued _ hfailed hroom).1]
    rfl

/-- A taken report that names a phase (R122). -/
theorem reportSettled_spec (p : Phase) (outcome reason : Byte) :
    s.Around e.consumer (reportSettled e p outcome reason s)
      ∧ (reportSettled e p outcome reason s).scheduler
        = { s.scheduler with schedule := s.scheduler.schedule.filter fun x => x.consumer != e.consumer }
      ∧ ((reportSettled e p outcome reason s).record e.consumer).map Consumer.bare
        = some (settleReported e p s.timebase.cycleCount r).bare
      ∧ (s.management.active.mask.getLsbD 1 = true → s.management.active.mask.getLsbD 2 = true →
        s.rescue.event = none → s.ports.notices.length < 16 →
        (reportSettled e p outcome reason s).ports.notices = s.ports.notices
          ++ [if p = e.target then
              ⟨2, s.ports.lostNotices, s.now,
                [byte e.consumer, r.address, e.tag, e.origin.code, phaseCode e.fromPhase, phaseCode e.target,
                  phaseCode p, outcome]⟩
            else
              ⟨3, s.ports.lostNotices, s.now,
                [byte e.consumer, r.address, e.tag, e.origin.code, phaseCode e.fromPhase, phaseCode e.target, 3, reason,
                  phaseCode p]⟩]) := by
  have hclose := closeEntry_around e.consumer (settleReported e p s.timebase.cycleCount) s
  have hports := closeEntry_ports e.consumer (settleReported e p s.timebase.cycleCount) s
  have hrecord : (closeEntry e.consumer (settleReported e p s.timebase.cycleCount) s).record e.consumer
      = some (settleReported e p s.timebase.cycleCount r) := by
    rw [record_closeEntry, if_pos rfl, hr]
    rfl
  have hrest : reportSettled e p outcome reason s = handOverEnd e (noticeReported e p outcome reason
      (closeEntry e.consumer (settleReported e p s.timebase.cycleCount) s)) := rfl
  have hnotice := noticeReported_queued hrecord p outcome reason
  have haddress : (settleReported e p s.timebase.cycleCount r).address = r.address :=
    (settleReported_closes e p _ r).address
  rw [haddress, hclose.management, hports, now_of_timebase hclose.timebase] at hnotice
  have htold := handOverEnd_tells e (noticeReported e p outcome reason
    (closeEntry e.consumer (settleReported e p s.timebase.cycleCount) s))
  obtain ⟨k, x, hraise⟩ := noticeReported_eq (e := e) p outcome reason
    (closeEntry e.consumer (settleReported e p s.timebase.cycleCount) s)
  rw [hrest]
  refine ⟨?_, htold.scheduler.trans ?_, htold.own.trans ?_, fun hdone hfailed hevent hroom => ?_⟩
  · refine State.Around.trans ?_ htold.around
    rw [hraise]
    exact hclose.trans (raiseNotice_around ..)
  · rw [hraise, raiseNotice_scheduler, closeEntry_schedule]
  · rw [hraise, record_raiseNotice, hrecord]
    rfl
  · rw [htold.ports (by rw [hraise, raiseNotice_event, closeEntry_rescue]; exact hevent)]
    exact hnotice hdone hfailed hroom

end Report

theorem reportDefined_of {outcome reason phaseNow : Byte}
    (h : outcome = 1 ∨ outcome = 2 ∧ 1 ≤ reason.toNat ∧ reason.toNat ≤ 4) (hp : phaseNow.toNat ≤ 3) :
    reportDefined outcome reason phaseNow = true := by
  unfold reportDefined
  rcases h with rfl | ⟨rfl, hlow, hhigh⟩
  · simp [hp]
  · simp [hp, hlow, hhigh]

theorem phaseCode_le (p : Phase) : (phaseCode p).toNat ≤ 3 := by cases p <;> decide

/-- The reason of the MOVE FAILED of a report, by its outcome (R122). -/
theorem reportReason_eq {outcome reason : Byte} (h : outcome = 1 ∨ outcome = 2 ∧ 1 ≤ reason.toNat ∧ reason.toNat ≤ 4) :
    reportReason outcome reason
      = if outcome = 1 then 8 else if reason = 1 then 5 else if reason = 2 then 6 else if reason = 3 then 7 else 4 := by
  rcases h with rfl | ⟨rfl, hlow, hhigh⟩
  · rfl
  · have hcases : reason = 1 ∨ reason = 2 ∨ reason = 3 ∨ reason = 4 := by
      have : reason.toNat = 1 ∨ reason.toNat = 2 ∨ reason.toNat = 3 ∨ reason.toNat = 4 := by omega
      rcases this with h | h | h | h
      · exact .inl (BitVec.eq_of_toNat_eq h)
      · exact .inr (.inl (BitVec.eq_of_toNat_eq h))
      · exact .inr (.inr (.inl (BitVec.eq_of_toNat_eq h)))
      · exact .inr (.inr (.inr (BitVec.eq_of_toNat_eq h)))
    rcases hcases with rfl | rfl | rfl | rfl <;> rfl

section Take
variable {src tag outcome reason phaseNow : Byte} {i : Nat} {s : State} (hm : s.mapped src = some i)
  (hdefined : reportDefined outcome reason phaseNow = true)
include hm hdefined

theorem takeTransferReport_entry {e : MoveEntry} (hmatch : s.matchedEntry i tag = some e)
    (hst : e.stage.takesReport = true) :
    takeTransferReport src tag [outcome, reason, phaseNow] s
      = match phaseOfCode phaseNow with
        | some p => reportSettled e p outcome (reportReason outcome reason) s
        | none => reportFaulted e s := by
  unfold takeTransferReport
  simp only [hm, hdefined, hmatch, hst] <;> rfl

theorem takeTransferReport_late {r : Consumer} {q : Query} (hmatch : s.matchedEntry i tag = none)
    (hr : s.record i = some r) (hst : r.state = .querying q) (htag : r.lastTag = some tag) :
    takeTransferReport src tag [outcome, reason, phaseNow] s
      = match phaseOfCode phaseNow with
        | some p => settleByLateReport i p s
        | none => faultByFrame i .contactFault tag s := by
  unfold takeTransferReport
  simp only [hm, hdefined, hmatch, takeLateReport, hr, hst, htag] <;> rfl

end Take

/-- Settles O34: an entry's report by `reportFaulted_spec` and `reportSettled_spec`, a late one by the record's own. -/
theorem reportTaken : Obligations.ReportTaken := by
  intro src tag outcome reason phaseNow i r s hhold hsched hm hr hout
  have hmapped : s.heardDown.mapped src = some i := hm
  have hrecord : s.heardDown.record i = some r := hr
  have hsumsDown : s.SumsRight → s.heardDown.SumsRight := fun h => h.congr rfl rfl rfl fun _ => rfl
  refine ⟨fun e he hi htag hst => ?_, fun hfree htag hq => ?_⟩
  · subst hi htag
    have hmatch := matchedEntry_eq (s := s.heardDown) hsched he
    have htakes : e.stage.takesReport = true := by
      rcases hst with h | h | h <;> rw [h] <;> rfl
    refine ⟨?_, ?_⟩
    · rintro rfl
      obtain ⟨haround, hscheduler, hown, hnotices⟩ := reportFaulted_spec hrecord
      refine ⟨reportFaulted e s.heardDown, ?_, hscheduler, hown, haround.others, haround.active, haround.timebase,
        haround.management, fun hs htree hl => haround.sumsRight (hsumsDown hs) htree hl, hnotices⟩
      rw [exec_transferReport hhold, takeTransferReport_entry hmapped (reportDefined_of hout (by decide)) hmatch htakes]
      rfl
    · rintro p rfl
      obtain ⟨haround, hscheduler, hown, hnotices⟩ :=
        reportSettled_spec hrecord p outcome (reportReason outcome reason)
      refine ⟨reportSettled e p outcome (reportReason outcome reason) s.heardDown, ?_, hscheduler, hown.trans ?_,
        haround.others, haround.active, haround.timebase, haround.management,
        fun hs htree hl => haround.sumsRight (hsumsDown hs) htree hl, ?_⟩
      · rw [exec_transferReport hhold, takeTransferReport_entry hmapped (reportDefined_of hout (phaseCode_le p)) hmatch
          htakes, phaseOfCode_phaseCode]
      · unfold settleReported
        by_cases hp : p = e.fromPhase
        · simp only [if_pos hp]
          rfl
        · simp only [if_neg hp]
          rfl
      · rw [reportReason_eq hout] at hnotices ⊢
        exact hnotices
  · obtain ⟨q, hst⟩ := hq
    have hmatch := matchedEntry_none (s := s.heardDown) hfree
    refine ⟨?_, ?_⟩
    · rintro rfl
      obtain ⟨haround, hscheduler, hown⟩ := faultByFrame_spec (reason := .contactFault) (tag := tag) hrecord
      refine ⟨faultByFrame i .contactFault tag s.heardDown, ?_, hscheduler, hown, haround.others,
        fun hs htree hl => haround.sumsRight (hsumsDown hs) htree hl⟩
      rw [exec_transferReport hhold, takeTransferReport_late hmapped (reportDefined_of hout (by decide)) hmatch hrecord
        hst htag]
      rfl
    · rintro p rfl
      obtain ⟨haround, hscheduler, hown⟩ := settleByLateReport_spec (p := p) hrecord
      refine ⟨settleByLateReport i p s.heardDown, ?_, hscheduler, hown, haround.others,
        fun hs htree hl => haround.sumsRight (hsumsDown hs) htree hl⟩
      rw [exec_transferReport hhold, takeTransferReport_late hmapped (reportDefined_of hout (phaseCode_le p)) hmatch
        hrecord hst htag, phaseOfCode_phaseCode]

end Sys2Proof.Machine

namespace Sys2Proof.Machine

/-! ### Records settled by an answer (R139) -/

/-- A settlement that no loss event and no rescue list can take note of (R154). -/
theorem noteSettlement_idle (i : Nat) {s : State} (hevent : s.rescue.event = none) (hlist : s.rescue.list = []) :
    noteSettlement i s = s := by
  have hlisted : s.listed i = false := by rw [State.listed, hlist, List.contains_nil]
  have hdelist : delist i s = s := if_neg (by rw [hlisted]; exact Bool.false_ne_true)
  have hinsertion : s.handOverInsertion i = none := by
    unfold State.handOverInsertion
    rw [hevent]
  have hinsert : insertByHandOver i s = s := by
    unfold insertByHandOver
    rw [hinsertion]
  unfold noteSettlement
  rw [hdelist, hinsert]
  cases s.projected i with
  | none => rfl
  | some p => simp

theorem changeOpenBank_share (b : Bool) (f : Bank → Bank) (r : Consumer) :
    (changeOpenBank b f r).share = r.share := by
  cases b <;> rfl

section Settle
variable {i : Nat} {p : Phase} {s : State} {r : Consumer} (hr : s.record i = some r)
include hr

/-- A record settled by an answer, its queue place, its open bank and its rescue (R139). -/
theorem settleByAnswer_spec :
    s.Around i (settleByAnswer i p s)
      ∧ (settleByAnswer i p s).scheduler
        = { s.scheduler with queries := s.scheduler.queries.filter fun x => x.consumer != i }
      ∧ ((settleByAnswer i p s).record i).map Consumer.bare
        = some (changeOpenBank s.intake.secondOpen (fun b => { b with heard := true }) (settleOn p r)).bare
      ∧ (s.rescue.event = none → s.rescue.list = [] →
        (settleByAnswer i p s).rescue = s.rescue ∧ (settleByAnswer i p s).ports = s.ports) := by
  have hsettled := (changeRecord_around i (settleOn p) s).trans (leaveQueue_around i (changeRecord i (settleOn p) s))
  have hheard := modifyRecord_around (i := i) (s := leaveQueue i (changeRecord i (settleOn p) s))
    (f := changeOpenBank s.intake.secondOpen fun b => { b with heard := true }) fun _ _ => changeOpenBank_share ..
  have htold := noteSettlement_tells i ((leaveQueue i (changeRecord i (settleOn p) s)).modifyRecord i
    (changeOpenBank s.intake.secondOpen fun b => { b with heard := true }))
  refine ⟨(hsettled.trans hheard).trans htold.around, htold.scheduler.trans ?_, htold.own.trans ?_,
    fun hevent hlist => ?_⟩
  · rw [modifyRecord_scheduler, leaveQueue, changeRecord_scheduler]
  · rw [record_modifyRecord, if_pos rfl]
    change Option.map _ (Option.map _ ((changeRecord i (settleOn p) s).record i)) = _
    rw [record_changeRecord, if_pos rfl, hr]
    rfl
  · have hrescue : ((leaveQueue i (changeRecord i (settleOn p) s)).modifyRecord i
        (changeOpenBank s.intake.secondOpen fun b => { b with heard := true })).rescue = s.rescue := by
      obtain ⟨l, -, e⟩ := modifyRecord_eq i (changeOpenBank s.intake.secondOpen fun b => { b with heard := true })
        (leaveQueue i (changeRecord i (settleOn p) s))
      rw [e]
      exact changeRecord_rescue i _ s
    unfold settleByAnswer
    rw [noteSettlement_idle i (by rw [hrescue]; exact hevent) (by rw [hrescue]; exact hlist)]
    refine ⟨hrescue, (modifyRecord_ports ..).trans ?_⟩
    exact changeRecord_ports ..

/-- A PHASE ANSWER with the tag of its record's query is taken (R138). -/
theorem takePhaseAnswer_taken {src tag a b : Byte} {left tries : Nat} (hm : s.mapped src = some i)
    (hq : r.state.query = some ⟨.asked tag left, tries⟩) (ha : a.toNat ≤ 3) (hb : b.toNat ≤ 1) :
    takePhaseAnswer src tag [a, b] s
      = match phaseOfCode a with
        | some p => settleByAnswer i p s
        | none => faultByFrame i .openContact tag s := by
  have hdefined : (decide (a.toNat > 3) || decide (b.toNat > 1)) = false := by simp [ha, hb]
  unfold takePhaseAnswer
  simp only [hm, hdefined, hr, Option.bind_some, hq] <;> rfl

end Settle

/-! ### Query deadlines (R136, R137) -/

section Fold
variable {f : State → Nat → State} (hf : ∀ (s : State) (i : Nat), s.Around i (f s i))
include hf

/-- A pass over records changes those it visits alone. -/
theorem record_foldl_of_not_mem {l : List Nat} {j : Nat} (hj : j ∉ l) (s : State) :
    (l.foldl f s).record j = s.record j := by
  induction l generalizing s with
  | nil => rfl
  | cons i l ih =>
    rw [List.mem_cons, not_or] at hj
    exact (ih hj.2 (f s i)).trans ((hf s i).others j hj.1)

/-- A pass visits each record once, and finds it as the pass began. -/
theorem record_foldl_of_mem {l : List Nat} (hl : l.Nodup) {j : Nat} (hj : j ∈ l) (s : State) :
    ∃ t, t.record j = s.record j ∧ (l.foldl f s).record j = (f t j).record j := by
  induction l generalizing s with
  | nil => cases hj
  | cons i l ih =>
    obtain ⟨hi, hl⟩ := List.nodup_cons.mp hl
    rcases List.mem_cons.mp hj with rfl | hmem
    · exact ⟨s, rfl, record_foldl_of_not_mem hf hi _⟩
    · obtain ⟨t, ht, e⟩ := ih hl hmem (f s i)
      refine ⟨t, ht.trans ((hf s i).others j ?_), e⟩
      rintro rfl
      exact hi hmem

end Fold

theorem State.indicesWhere_nodup (s : State) (test : Nat → Consumer → Bool) : (s.indicesWhere test).Nodup := by
  rw [State.indicesWhere_eq]
  exact List.nodup_range.filter _

theorem goSilent_around (i : Nat) (s : State) : s.Around i (goSilent i s) :=
  (changeRecord_around i _ s).trans (leaveQueue_around i _)

theorem record_goSilent (i : Nat) (s : State) :
    (goSilent i s).record i = (s.record i).map fun r => { r with state := .silent } := by
  refine (record_changeRecord i i _ s).trans ?_
  rw [if_pos rfl]

/-- A record SILENT by its queries, its schedule left (R137). -/
theorem silentByQueries_spec (i : Nat) (s : State) :
    s.Around i (silentByQueries i s)
      ∧ (silentByQueries i s).scheduler.schedule = s.scheduler.schedule
      ∧ ∀ r, s.record i = some r → (silentByQueries i s).record i = some { r with state := .silent } := by
  have htold := noteOutOfService_tells i (noticeSilent i causeQueries (goSilent i s))
  refine ⟨((goSilent_around i s).trans (raiseNotice_around ..)).trans htold.around, ?_, fun r hr => ?_⟩
  · unfold silentByQueries
    rw [htold.scheduler, noticeSilent, raiseNotice_scheduler, goSilent, leaveQueue, changeRecord_scheduler]
  · refine htold.undrawable { r with state := .silent } ?_ rfl
    rw [noticeSilent, record_raiseNotice, record_goSilent, hr]
    rfl

/-- A query in its state changes nothing that a sum reads. -/
theorem withQuery_share (r : Consumer) (q : Query) :
    ({ r with state := r.state.withQuery q } : Consumer).share = r.share :=
  Gist.share_eq (withQuery_gist r q)

theorem withQuery_around (i : Nat) (q : Query) (s : State) :
    s.Around i (s.modifyRecord i fun r => { r with state := r.state.withQuery q }) :=
  modifyRecord_around fun r _ => withQuery_share r q

theorem spendTry_around (s : State) (i : Nat) : s.Around i (spendTry s i) := by
  unfold spendTry
  split
  · split
    · exact (withQuery_around i _ s).trans (silentByQueries_spec i _).1
    · exact withQuery_around i _ s
  · exact .refl i s

theorem spendTry_schedule (s : State) (i : Nat) : (spendTry s i).scheduler.schedule = s.scheduler.schedule := by
  unfold spendTry
  split
  · split
    · rw [(silentByQueries_spec i _).2.1, modifyRecord_scheduler]
    · rw [modifyRecord_scheduler]
  · rfl

/-- A try spent: the record waits with one less, or is SILENT at its last (R136, R137). -/
theorem record_spendTry {s : State} {i : Nat} {r : Consumer} {q : Query} (hr : s.record i = some r)
    (hq : r.state.query = some q) :
    (spendTry s i).record i
      = some { r with state := if q.tries ≤ 1 then .silent else r.state.withQuery ⟨.waiting, q.tries - 1⟩ } := by
  have hmodified : ∀ q', (s.modifyRecord i fun r => { r with state := r.state.withQuery q' }).record i
      = some { r with state := r.state.withQuery q' } := fun q' => by
    rw [record_modifyRecord, if_pos rfl, hr]
    rfl
  unfold spendTry
  simp only [hr, Option.bind_some, hq]
  split
  · have hsilent := (silentByQueries_spec i _).2.2 _ (hmodified ⟨.waiting, 0⟩)
    exact hsilent
  · exact hmodified _

theorem queryDue_iff {st : RecordState} : st.queryDue = true ↔ ∃ tag tries, st.query = some ⟨.asked tag 0, tries⟩ := by
  unfold RecordState.queryDue
  cases st.query with
  | none => simp
  | some q =>
    obtain ⟨stage, tries⟩ := q
    cases stage <;> simp

theorem queryDeadlines_spec (s : State) :
    (∀ i r, s.record i = some r →
      (∀ q, r.state.queryDue = true → r.state.query = some q → (queryDeadlines s).record i
        = some { r with state := if q.tries ≤ 1 then .silent else r.state.withQuery ⟨.waiting, q.tries - 1⟩ })
      ∧ (r.state.queryDue = false → (queryDeadlines s).record i = some r))
    ∧ (queryDeadlines s).scheduler.schedule = s.scheduler.schedule ∧ (queryDeadlines s).timebase = s.timebase
    ∧ (queryDeadlines s).management = s.management ∧ (s.Summed → (queryDeadlines s).Summed) := by
  refine ⟨fun i r hr => ⟨fun q hdue hq => ?_, fun hdue => ?_⟩, ?_, ?_, ?_, fun h => ?_⟩
  · obtain ⟨t, ht, e⟩ := record_foldl_of_mem spendTry_around
      (s.indicesWhere_nodup fun _ r => r.state.queryDue) ((mem_indicesWhere s _ i).mpr ⟨r, hr, hdue⟩) s
    exact e.trans (record_spendTry (ht.trans hr) hq)
  · refine (record_foldl_of_not_mem spendTry_around (fun hmem => ?_) s).trans hr
    obtain ⟨r', hr', hdue'⟩ := (mem_indicesWhere s _ i).mp hmem
    obtain rfl : r = r' := Option.some.inj (hr.symm.trans hr')
    rw [hdue] at hdue'
    cases hdue'
  · exact foldl_keeps (P := fun t => t.scheduler.schedule = s.scheduler.schedule)
      (fun t i h => (spendTry_schedule t i).trans h) _ rfl
  · exact foldl_keeps (P := fun t => t.timebase = s.timebase) (fun t i h => (spendTry_around t i).timebase.trans h) _ rfl
  · exact foldl_keeps (P := fun t => t.management = s.management)
      (fun t i h => (spendTry_around t i).management.trans h) _ rfl
  · exact foldl_keeps (fun t i => (spendTry_around t i).summed) _ h

theorem exec_queryDeadline {s : State} (h : s.hold = none) :
    exec .queryDeadline s = .next (finish (queryDeadlines s)) := next_whileRunning h queryDeadlines

/-- Settles O37: an answer by `settleByAnswer_spec` and `faultByFrame_spec`, a deadline by `queryDeadlines_spec`. -/
theorem queriesEnd : Obligations.QueriesEnd := by
  intro s hhold
  have hsumsDown : s.SumsRight → s.heardDown.SumsRight := fun h => h.congr rfl rfl rfl fun _ => rfl
  refine ⟨fun src tag a b i left tries r hm hr hq hb => ?_, ?_⟩
  · have hrecord : s.heardDown.record i = some r := hr
    have htaken := fun ha => takePhaseAnswer_taken (s := s.heardDown) (a := a) hrecord hm hq ha hb
    refine ⟨?_, ?_⟩
    · rintro p rfl
      obtain ⟨haround, hscheduler, hown, hidle⟩ := settleByAnswer_spec (p := p) hrecord
      refine ⟨settleByAnswer i p s.heardDown, ?_, hown.trans ?_, haround.others, hscheduler, haround.counters,
        haround.intake, haround.management, fun hevent hlist => ?_,
        fun hs htree hl => haround.sumsRight (hsumsDown hs) htree hl⟩
      · rw [exec_phaseAnswer hhold, htaken (phaseCode_le p), phaseOfCode_phaseCode]
      · unfold changeOpenBank
        cases hopen : s.intake.secondOpen with
        | true => rw [show s.heardDown.intake.secondOpen = true from hopen]; rfl
        | false => rw [show s.heardDown.intake.secondOpen = false from hopen]; rfl
      · obtain ⟨hrescue, hports⟩ := hidle hevent hlist
        exact ⟨hrescue, by rw [hports]; rfl⟩
    · rintro rfl
      obtain ⟨haround, hscheduler, hown⟩ := faultByFrame_spec (reason := .openContact) (tag := tag) hrecord
      refine ⟨faultByFrame i .openContact tag s.heardDown, ?_, hown, haround.others, hscheduler, fun j => ?_,
        fun hmask hroom hevent => ?_, fun hs htree hl => haround.sumsRight (hsumsDown hs) htree hl⟩
      · rw [exec_phaseAnswer hhold, htaken (by decide)]
        rfl
      · rw [faultByFrame_eq, mem_noteOutOfService, faulted_rescue]
        rfl
      · rw [faultByFrame_eq, (noteOutOfService_tells i _).ports (by rw [faulted_rescue]; exact hevent)]
        exact faulted_notices hrecord hmask hroom
  · obtain ⟨hrecords, hschedule, htimebase, hmanagement, hsummed⟩ := queryDeadlines_spec s
    refine ⟨queryDeadlines s, exec_queryDeadline hhold, fun i r hr => ⟨fun tag tries hq => ?_, fun hnone => ?_⟩,
      hschedule, htimebase, hmanagement, fun hs htree hl => (hsummed ⟨htree, hl, hs⟩).right⟩
    · have hspent := (hrecords i r hr).1 _ (queryDue_iff.mpr ⟨tag, tries, hq⟩) hq
      exact ⟨fun h => hspent.trans (by rw [if_neg (by dsimp only; omega)]), fun h => hspent.trans (by rw [if_pos h])⟩
    · refine (hrecords i r hr).2 ?_
      cases hdue : r.state.queryDue with
      | false => rfl
      | true =>
        obtain ⟨tag, tries, hq⟩ := queryDue_iff.mp hdue
        exact absurd hq (hnone tag tries)

end Sys2Proof.Machine

namespace Sys2Proof.Machine

/-! ### The return of a SILENT record (R29) -/

theorem Consumer.eq_of_bare {a b : Consumer} (h : a.bare = b.bare) : a = { b with rescue := a.rescue } := by
  cases a
  cases b
  simp only [Consumer.bare, Consumer.mk.injEq] at h ⊢
  tauto

theorem forwardUp_eq (f : Frame) (s : State) :
    ∃ p, forwardUp f s = { s with ports := p } ∧ p.notices = s.ports.notices := by
  unfold forwardUp
  split
  · exact ⟨_, rfl, rfl⟩
  · exact ⟨_, rfl, rfl⟩

/-- A record UNVERIFIED with full tries and its notice, before the Rescue Unit is told (R29). -/
def returned (i : Nat) (s : State) : State :=
  raiseNotice .consumerBack
    [byte i, (changeRecord i (fun r => { r with state := .unverified s.freshQuery, silence := 0 }) s).addressOf i]
    (changeRecord i (fun r => { r with state := .unverified s.freshQuery, silence := 0 }) s)

theorem returnToService_eq (i : Nat) (s : State) : returnToService i s = insertByHandOver i (returned i s) := rfl

theorem returned_around (i : Nat) (s : State) : s.Around i (returned i s) :=
  (changeRecord_around i _ s).trans (raiseNotice_around ..)

/-- What a return reaches before the Rescue Unit is told: records, sums and notices. -/
theorem returned_eq (i : Nat) (s : State) :
    ∃ l sums n k, returned i s
      = { s with tables.consumers := l, balancer.sums := sums, ports.notices := n, ports.lostNotices := k } := by
  obtain ⟨l, sums, -, e⟩ := changeRecord_eq i (fun r => { r with state := .unverified s.freshQuery, silence := 0 }) s
  obtain ⟨n, k, e'⟩ := raiseNotice_eq .consumerBack
    [byte i, (changeRecord i (fun r => { r with state := .unverified s.freshQuery, silence := 0 }) s).addressOf i]
    (changeRecord i (fun r => { r with state := .unverified s.freshQuery, silence := 0 }) s)
  refine ⟨l, sums, n, k, e'.trans ?_⟩
  rw [e]

section Return
variable {i : Nat} {s : State} {r : Consumer} (hr : s.record i = some r)
include hr

theorem record_returned :
    (returned i s).record i = some { r with state := .unverified s.freshQuery, silence := 0 } := by
  refine (record_raiseNotice ..).trans ?_
  rw [record_changeRecord, if_pos rfl, hr]
  rfl

theorem returned_notices (hmask : s.management.active.mask.getLsbD 6 = true) (hroom : s.ports.notices.length < 16) :
    (returned i s).ports.notices
      = s.ports.notices ++ [⟨7, s.ports.lostNotices, s.now, [byte i, r.address]⟩] := by
  have haround := changeRecord_around i (fun r => { r with state := .unverified s.freshQuery, silence := 0 }) s
  have hports : (changeRecord i (fun r => { r with state := .unverified s.freshQuery, silence := 0 }) s).ports = s.ports :=
    changeRecord_ports ..
  have hrecord : (changeRecord i (fun r => { r with state := .unverified s.freshQuery, silence := 0 }) s).record i
      = some { r with state := .unverified s.freshQuery, silence := 0 } := by
    rw [record_changeRecord, if_pos rfl, hr]
    rfl
  unfold returned
  rw [addressOf_some hrecord, (raiseNotice_queued (k := .consumerBack) _ (by rw [haround.management]; exact hmask)
    (by rw [hports]; exact hroom)).1, hports, now_of_timebase haround.timebase]
  rfl

/-- The contribution that a SILENT record adds as it returns (R12, R85). -/
theorem sumAt_returned (hst : r.state = .silent) (htree : TreeRule s.tables.active)
    (hl : s.balancer.sums.length = Config.segments) (k : Nat) (q : Phase) :
    sumAt (returned i s).balancer.sums k q = sumAt s.balancer.sums k q
      + (if (segmentAt s.tables.active r.segment).valid = true ∧ q = r.assigned
          ∧ k ∈ segmentPath s.tables.active r.segment then r.stable else 0) := by
  have hrecord : (s.modifyRecord i fun r => { r with state := .unverified s.freshQuery, silence := 0 }).record i
      = some { r with state := .unverified s.freshQuery, silence := 0 } := by
    rw [record_modifyRecord, if_pos rfl, hr]
    rfl
  obtain ⟨l, -, e⟩ := modifyRecord_eq i (fun r => { r with state := .unverified s.freshQuery, silence := 0 }) s
  have hold : s.contribution i = none := by
    rw [State.contribution, hr, Option.bind_some, State.contributionOf, hst]
    rfl
  have hnew : (s.modifyRecord i fun r => { r with state := .unverified s.freshQuery, silence := 0 }).contribution i
      = if (segmentAt s.tables.active r.segment).valid = true then some ⟨r.segment, r.assigned, r.stable⟩ else none := by
    rw [State.contribution, hrecord, Option.bind_some, State.contributionOf, e]
    simp [RecordState.contributes, State.projectedOf, RecordState.moving]
  have hsums : (returned i s).balancer.sums = addContribution s.tables.active
      ((s.modifyRecord i fun r => { r with state := .unverified s.freshQuery, silence := 0 }).contribution i)
      s.balancer.sums := by
    refine (congrArg Balancer.sums (raiseNotice_gentle ..).balancer).trans ?_
    rw [changeRecord, recontribute_eq, hold]
    dsimp only
    split
    · rename_i hnone
      rw [← hnone, e]
      rfl
    · rw [e]
      rfl
  rw [hsums, hnew]
  by_cases hv : (segmentAt s.tables.active r.segment).valid = true
  · rw [if_pos hv, sumAt_addContribution htree (fun c hc => by cases hc; exact hv) hl]
    simp only [shareOf, hv, true_and, eq_comm]
  · simp [hv, addContribution]

/-- A returned record is listed again where the hand-over holds (R152). -/
theorem handOverInsertion_returned {ev : LossEvent} (hevent : s.rescue.event = some ev)
    (hcovered : ev.covered.get r.assigned = true) (henabled : s.management.active.rescueEnable = true)
    (hlock : r.lock = false) (hlost : s.isLost r.assigned = true) (hlisted : i ∉ s.rescue.list)
    (hmark : r.rescue = none) : (returned i s).handOverInsertion i = some (0, r.assigned) := by
  have hrecord := record_returned hr
  obtain ⟨l, sums, n, k, e⟩ := returned_eq i s
  rw [e] at hrecord ⊢
  have hcondition : (s.supervision.phases.get r.assigned).condition = .lost := eq_of_beq hlost
  unfold State.handOverInsertion
  simp only [hevent, hrecord]
  simp [State.rescueEnabled, henabled, hlock, RecordState.drawable, State.projectedOf, RecordState.moving,
    State.isLost, State.listed, hcovered, attemptsAllowed, hmark, hcondition, hlisted]

theorem returnToService_tells : s.Around i (returnToService i s) ∧ (returnToService i s).scheduler = s.scheduler
    ∧ (returnToService i s).balancer = (returned i s).balancer
    ∧ (returnToService i s).ports = (returned i s).ports
    ∧ ∃ mark, (returnToService i s).record i
        = some { r with state := .unverified s.freshQuery, silence := 0, rescue := mark } := by
  have htold := insertByHandOver_tells i (returned i s)
  have hown := htold.own
  rw [record_returned hr] at hown
  obtain ⟨t, ht, hbare⟩ := Option.map_eq_some_iff.mp hown
  refine ⟨(returned_around i s).trans htold.around, htold.scheduler.trans ?_, (insertByHandOver_gentle i _).balancer,
    insertByHandOver_ports i _, t.rescue, ?_⟩
  · obtain ⟨l, sums, n, k, e⟩ := returned_eq i s
    rw [e]
  · rw [returnToService_eq, ht, Consumer.eq_of_bare hbare]

/-- In no loss event a return inserts nothing. -/
theorem returnToService_idle (hevent : s.rescue.event = none) :
    (returnToService i s).rescue = s.rescue
      ∧ (returnToService i s).record i = some { r with state := .unverified s.freshQuery, silence := 0 } := by
  have hrecord := record_returned hr
  have hrescue : (returned i s).rescue = s.rescue := by
    obtain ⟨l, sums, n, k, e⟩ := returned_eq i s
    rw [e]
  have hsame : returnToService i s = returned i s := by
    rcases insertByHandOver_cases i (returned i s) with h | ⟨h, -⟩
    · exact h
    · exact absurd (hrescue ▸ hevent) h
  rw [hsame]
  exact ⟨hrescue, hrecord⟩

/-- In a loss event a return lists the record where the hand-over holds (R152). -/
theorem returnToService_listed {ev : LossEvent} (hevent : s.rescue.event = some ev)
    (hcovered : ev.covered.get r.assigned = true) (henabled : s.management.active.rescueEnable = true)
    (hlock : r.lock = false) (hlost : s.isLost r.assigned = true) (hlisted : i ∉ s.rescue.list)
    (hmark : r.rescue = none) :
    (∀ j, j ∈ (returnToService i s).rescue.list ↔ j = i ∨ j ∈ s.rescue.list)
      ∧ (returnToService i s).record i = some
        { r with state := .unverified s.freshQuery, silence := 0, rescue := some ⟨0, r.assigned⟩ } := by
  have hinsert : returnToService i s = enlist i 0 r.assigned (returned i s) := by
    rw [returnToService_eq, insertByHandOver,
      handOverInsertion_returned hr hevent hcovered henabled hlock hlost hlisted hmark]
  have hrescue : (returned i s).rescue = s.rescue := by
    obtain ⟨l, sums, n, k, e⟩ := returned_eq i s
    rw [e]
  rw [hinsert]
  refine ⟨fun j => ?_, ?_⟩
  · have hlist : (enlist i 0 r.assigned (returned i s)).rescue.list
        = insertInOrder (returned i s).listedBefore i (returned i s).rescue.list := by
      obtain ⟨l, -, e⟩ := modifyRecord_eq i (fun r' => { r' with rescue := some ⟨0, r.assigned⟩ })
        { returned i s with
          rescue.list := insertInOrder (returned i s).listedBefore i (returned i s).rescue.list }
      rw [enlist, e]
    rw [hlist, mem_insertInOrder, hrescue]
  · rw [record_enlist, if_pos rfl, record_returned hr]
    rfl

end Return

/-! ### The reading itself (R28, R30) -/

/-- The sample and the forward count of a reading on its record (R30, R31). -/
def sampled (divider : Nat) (secondOpen supply : Bool) (x : Int) (r : Consumer) : Consumer :=
  { changeOpenBank secondOpen (Bank.takeReading supply x) r with forward := nextForward divider r.forward }

theorem takeReading_heard (supply : Bool) (x : Int) (b : Bank) : (b.takeReading supply x).heard = true := by
  unfold Bank.takeReading
  split
  · rfl
  · rfl

/-- A sample marks the open bank heard and leaves the other bank and the rest of the record (R27, R30). -/
theorem sampled_eq (divider : Nat) (secondOpen supply : Bool) (x : Int) (r : Consumer) :
    ∃ b c n, sampled divider secondOpen supply x r = { r with firstBank := b, secondBank := c, forward := n }
      ∧ (if secondOpen then c.heard = true ∧ b = r.firstBank else b.heard = true ∧ c = r.secondBank) := by
  cases secondOpen with
  | false => exact ⟨_, _, _, rfl, takeReading_heard .., rfl⟩
  | true => exact ⟨_, _, _, rfl, takeReading_heard .., rfl⟩

/-- A reading of a SILENT record: the return, then the sample on its record; the forwarding reaches no notice (R29). -/
theorem takeReading_silent {i : Nat} {s : State} {r : Consumer} (hr : s.record i = some r) (hst : r.state = .silent)
    (f : Frame) (x : Word16) (supply : Bool) :
    ∃ divider y l p, takeReading i f x supply s = { returnToService i s with tables.consumers := l, ports := p }
      ∧ p.notices = (returnToService i s).ports.notices
      ∧ ∀ j, (takeReading i f x supply s).record j
        = if i = j then ((returnToService i s).record j).map
            (sampled divider (returnToService i s).intake.secondOpen supply y)
          else (returnToService i s).record j := by
  have hsilent : s.isSilent i = true := by
    unfold State.isSilent
    rw [hr]
    exact beq_iff_eq.mpr hst
  have hrecord := fun j => record_modifyRecord (returnToService i s) i j
    (sampled (returnToService i s).management.active.divider (returnToService i s).intake.secondOpen supply
      (clampLoad x.toInt))
  obtain ⟨l, -, e⟩ := modifyRecord_eq i (sampled (returnToService i s).management.active.divider
    (returnToService i s).intake.secondOpen supply (clampLoad x.toInt)) (returnToService i s)
  have htake : takeReading i f x supply s
      = if ((returnToService i s).record i).any fun r => forwarded (returnToService i s).management.active.divider r.forward
        then forwardUp f { returnToService i s with tables.consumers := l }
        else { returnToService i s with tables.consumers := l } := by
    rw [← e, takeReading, if_pos hsilent]
    rfl
  rw [e] at hrecord
  rw [htake]
  split
  · obtain ⟨p, hforward, hp⟩ := forwardUp_eq f { returnToService i s with tables.consumers := l }
    rw [hforward]
    exact ⟨_, _, l, p, rfl, hp, hrecord⟩
  · exact ⟨_, _, l, _, rfl, rfl, hrecord⟩

theorem readingOf_be2 (dest src tag interval : Byte) (reading : Word16) (supply : Bool) :
    ∃ x, readingOf (goodFrame dest src kindLoadReading tag (be2 reading.toNat ++ [flagByte supply, interval]))
      = some (x, supply) := by
  cases supply with
  | false => exact ⟨_, rfl⟩
  | true => exact ⟨_, rfl⟩

/-- A LOAD READING of a mapped source that passes through the part goes to Measurement Intake (R169). -/
theorem exec_loadReading {s : State} (h : s.hold = none) {dest src : Byte} (tag interval : Byte) (reading : Word16)
    (supply : Bool) (hdest : dest ≠ s.ownAddress) {i : Nat} (hm : s.mapped src = some i) :
    ∃ f x, exec (.loadReading dest src tag reading (flagByte supply) interval) s
      = .next (finish (takeReading i f x supply s.heardDown)) := by
  obtain ⟨x, hx⟩ := readingOf_be2 dest src tag interval reading supply
  refine ⟨goodFrame dest src kindLoadReading tag (be2 reading.toNat ++ [flagByte supply, interval]), x, ?_⟩
  have hpass : classifyDown (goodFrame dest src kindLoadReading tag (be2 reading.toNat ++ [flagByte supply, interval]))
      s.heardDown = takeReading i (goodFrame dest src kindLoadReading tag (be2 reading.toNat ++ [flagByte supply, interval]))
        x supply s.heardDown := by
    have hm' : s.heardDown.mapped (goodFrame dest src kindLoadReading tag
        (be2 reading.toNat ++ [flagByte supply, interval])).src = some i := hm
    refine (if_neg (show ¬ 48 < 4 by decide)).trans ((if_neg hdest).trans ((if_pos rfl).trans ?_))
    rw [hm', hx]
  rw [← hpass]
  exact congrArg _ (whileRunning_running _ _ h)

/-- Settles O19: the return by `returned`, its hand-over by `handOverInsertion_returned`, the sample by `sampled`. -/
theorem silentUnitReturns : Obligations.SilentUnitReturns := by
  intro dest src tag interval reading supply i r s hhold hdest hm hr hst hbounded htree _
  obtain ⟨-, hl, -⟩ := hbounded
  obtain ⟨f, x, hexec⟩ := exec_loadReading hhold tag interval reading supply hdest hm
  have hrecord : s.heardDown.record i = some r := hr
  obtain ⟨haround, hscheduler, hbalancer, hports, mark, hreturned⟩ := returnToService_tells hrecord
  obtain ⟨divider, y, l, p, htake, hnotices, hrecords⟩ := takeReading_silent hrecord hst f x supply
  obtain ⟨b, c, n, hsampled, hbanks⟩ := sampled_eq divider (returnToService i s.heardDown).intake.secondOpen supply y
    { r with state := .unverified s.heardDown.freshQuery, silence := 0, rescue := mark }
  have hown := hrecords i
  rw [if_pos rfl, hreturned, Option.map_some, hsampled] at hown
  rw [haround.intake] at hbanks
  have hothers : ∀ j, j ≠ i → (takeReading i f x supply s.heardDown).record j = s.record j := fun j hj => by
    rw [hrecords, if_neg (Ne.symm hj)]
    exact haround.others j hj
  have hmark : ∀ {mark'}, (returnToService i s.heardDown).record i = some
      { r with state := .unverified s.heardDown.freshQuery, silence := 0, rescue := mark' } → mark = mark' := fun h =>
    congrArg Consumer.rescue (Option.some.inj (hreturned.symm.trans h))
  refine ⟨_, _, hexec, hown, rfl, rfl, rfl, rfl, rfl, rfl, rfl, rfl, rfl, rfl, hbanks, hothers, ?_⟩
  rw [htake]
  refine ⟨haround.active, hscheduler, haround.timebase, haround.management, fun k _ q => ?_, fun hmask hroom => ?_,
    fun hevent => ?_, fun ev hevent hcovered henabled hlock hlost hlisted hnone => ?_⟩
  · rw [hbalancer]
    exact sumAt_returned hrecord hst htree hl k q
  · rw [hnotices, hports]
    exact returned_notices hrecord hmask hroom
  · obtain ⟨hidle, hstays⟩ := returnToService_idle hrecord hevent
    exact ⟨hidle, hmark hstays⟩
  · obtain ⟨hlist, henlisted⟩ := returnToService_listed hrecord hevent hcovered henabled hlock hlost hlisted hnone
    exact ⟨hlist, hmark henlisted⟩

end Sys2Proof.Machine

namespace Sys2Proof.Machine

/-! ## Cycle ends

The blocks at a cycle end leave alone what the cycle end has counted; of the three, the Timebase alone reaches the
timebase and Phase Supervision alone the phases. -/

/-! ### What the blocks leave alone -/

/-- The move count and the last move cycle of a record (R13, R24). -/
def Consumer.moves (r : Consumer) : Nat × Option Word32 := (r.moveCount, r.lastMove)

/-- Nothing that a cycle end counts outside the timebase and the phases changes. -/
structure State.LeavesCounts (s t : State) : Prop where
  active : t.tables.active = s.tables.active
  shadow : t.tables.shadow = s.tables.shadow
  addressMap : t.tables.addressMap = s.tables.addressMap
  budgetCounter : t.tables.budgetCounter = s.tables.budgetCounter
  moves : ∀ i, (t.record i).map Consumer.moves = (s.record i).map Consumer.moves
  intake : t.intake = s.intake
  sagLines : t.supervision.sagLines = s.supervision.sagLines
  counters : t.ports.counters = s.ports.counters
  management : t.management = s.management
  straps : t.straps = s.straps

/-- Nor does the timebase or the event's order choice. -/
structure State.LeavesClock (s t : State) : Prop extends State.LeavesCounts s t where
  timebase : t.timebase = s.timebase
  order : t.order = s.order

/-- Nor does what Phase Supervision keeps of the phases. -/
structure State.LeavesPhases (s t : State) : Prop extends State.LeavesClock s t where
  phases : t.supervision.phases = s.supervision.phases

theorem State.LeavesCounts.refl (s : State) : s.LeavesCounts s := ⟨rfl, rfl, rfl, rfl, fun _ => rfl, rfl, rfl, rfl, rfl, rfl⟩

theorem State.LeavesCounts.trans {s t u : State} (h : s.LeavesCounts t) (k : t.LeavesCounts u) : s.LeavesCounts u where
  active := k.active.trans h.active
  shadow := k.shadow.trans h.shadow
  addressMap := k.addressMap.trans h.addressMap
  budgetCounter := k.budgetCounter.trans h.budgetCounter
  moves i := (k.moves i).trans (h.moves i)
  intake := k.intake.trans h.intake
  sagLines := k.sagLines.trans h.sagLines
  counters := k.counters.trans h.counters
  management := k.management.trans h.management
  straps := k.straps.trans h.straps

theorem State.LeavesClock.refl (s : State) : s.LeavesClock s := ⟨.refl s, rfl, rfl⟩

theorem State.LeavesClock.trans {s t u : State} (h : s.LeavesClock t) (k : t.LeavesClock u) : s.LeavesClock u :=
  ⟨h.toLeavesCounts.trans k.toLeavesCounts, k.timebase.trans h.timebase, k.order.trans h.order⟩

theorem State.LeavesClock.foldl {α : Type} {f : State → α → State} (hf : ∀ (s : State) (a : α), s.LeavesClock (f s a))
    (l : List α) (s : State) : s.LeavesClock (l.foldl f s) :=
  foldl_keeps (P := fun t => s.LeavesClock t) (fun t a h => h.trans (hf t a)) l (.refl s)

theorem State.LeavesPhases.refl (s : State) : s.LeavesPhases s := ⟨.refl s, rfl⟩

theorem State.LeavesPhases.trans {s t u : State} (h : s.LeavesPhases t) (k : t.LeavesPhases u) : s.LeavesPhases u :=
  ⟨h.toLeavesClock.trans k.toLeavesClock, k.phases.trans h.phases⟩

theorem State.LeavesPhases.foldl {α : Type} {f : State → α → State} (hf : ∀ (s : State) (a : α), s.LeavesPhases (f s a))
    (l : List α) (s : State) : s.LeavesPhases (l.foldl f s) :=
  foldl_keeps (P := fun t => s.LeavesPhases t) (fun t a h => h.trans (hf t a)) l (.refl s)

theorem moves_of_core {a b : Option Consumer} (h : a.map Consumer.core = b.map Consumer.core) :
    a.map Consumer.moves = b.map Consumer.moves := by
  have e := congrArg (Option.map Consumer.moves) h
  rwa [Option.map_map, Option.map_map] at e

/-- What keeps the rest of an event leaves the counts. -/
theorem State.KeepsRest.leavesCounts {s t : State} (h : s.KeepsRest t) : s.LeavesCounts t where
  active := h.active
  shadow := h.shadow
  addressMap := h.addressMap
  budgetCounter := h.budgetCounter
  moves i := moves_of_core (h.records i)
  intake := h.intake
  sagLines := congrArg Supervision.sagLines h.supervision
  counters := h.counters
  management := h.management
  straps := h.straps

theorem State.KeepsRest.leavesPhases {s t : State} (h : s.KeepsRest t) (ht : t.timebase = s.timebase) : s.LeavesPhases t :=
  ⟨⟨h.leavesCounts, ht, h.order⟩, congrArg Supervision.phases h.supervision⟩

/-! ### Shared operations -/

theorem raiseNotice_leaves (k : NoticeKind) (x : List Byte) (s : State) : s.LeavesPhases (raiseNotice k x s) :=
  (raiseNotice_keeps k x s).leavesPhases (raiseNotice_around 0 k x s).timebase

theorem queueNotice_leaves (k : NoticeKind) (x : List Byte) (s : State) : s.LeavesPhases (queueNotice k x s) := by
  refine (queueNotice_keeps k x s).leavesPhases ?_
  obtain ⟨n, l, e⟩ := queueNotice_eq k x s
  rw [e]

theorem closeTest_leaves (s : State) : s.LeavesPhases (closeTest s) :=
  (closeTest_keeps s).leavesPhases (closeTest_tells 0 s).around.timebase

theorem modifyRecord_leaves (i : Nat) {f : Consumer → Consumer} (hf : ∀ r, (f r).moves = r.moves) (s : State) :
    s.LeavesPhases (s.modifyRecord i f) := by
  have hrecord : ∀ j, ((s.modifyRecord i f).record j).map Consumer.moves = (s.record j).map Consumer.moves := fun j => by
    rw [record_modifyRecord]
    split
    · rw [Option.map_map]
      exact congrArg (Option.map · (s.record j)) (funext hf)
    · rfl
  obtain ⟨l, -, e⟩ := modifyRecord_eq i f s
  rw [e] at hrecord ⊢
  exact ⟨⟨⟨rfl, rfl, rfl, rfl, hrecord, rfl, rfl, rfl, rfl, rfl⟩, rfl, rfl⟩, rfl⟩

theorem recontribute_leaves (i : Nat) {f : State → State} {s : State} (h : s.LeavesPhases (f s)) :
    s.LeavesPhases (recontribute i f s) := by
  obtain ⟨sums, e⟩ := recontribute_sums i f s
  rw [e]
  exact { h with }

/-- A change of the schedule, the queues and the rescue alone. -/
theorem scheduler_leaves (s : State) (x : Scheduler) (y : Rescue) :
    s.LeavesPhases { s with scheduler := x, rescue := y } :=
  ⟨⟨⟨rfl, rfl, rfl, rfl, fun _ => rfl, rfl, rfl, rfl, rfl, rfl⟩, rfl, rfl⟩, rfl⟩

theorem changeRecord_leaves (i : Nat) {f : Consumer → Consumer} (hf : ∀ r, (f r).moves = r.moves) (s : State) :
    s.LeavesPhases (changeRecord i f s) := recontribute_leaves i (modifyRecord_leaves i hf s)

theorem closeEntry_leaves (i : Nat) {f : Consumer → Consumer} (hf : ∀ r, (f r).moves = r.moves) (s : State) :
    s.LeavesPhases (closeEntry i f s) :=
  recontribute_leaves i ((scheduler_leaves s _ s.rescue).trans (modifyRecord_leaves i hf _))

theorem handOverEnd_leaves (e : MoveEntry) (s : State) : s.LeavesPhases (handOverEnd e s) :=
  (handOverEnd_keeps e s).leavesPhases (handOverEnd_tells e s).around.timebase

theorem delist_leaves (i : Nat) (s : State) : s.LeavesPhases (delist i s) :=
  (delist_keeps i s).leavesPhases (delist_tells i s).around.timebase

theorem noteOutOfService_leaves (i : Nat) (s : State) : s.LeavesPhases (noteOutOfService i s) := by
  unfold noteOutOfService
  split
  · exact (scheduler_leaves s s.scheduler _).trans (closeTest_leaves _)
  · exact .refl s

/-! ### The Order Scheduler at a cycle end -/

theorem withdraw_leaves (reason : Byte) (e : MoveEntry) (s : State) : s.LeavesPhases (withdraw reason e s) :=
  ((closeEntry_leaves e.consumer (f := fun r => { r with state := .settled }) (fun _ => rfl) s).trans
    (raiseNotice_leaves _ _ _)).trans (handOverEnd_leaves e _)

theorem endUnreported_leaves (e : MoveEntry) (s : State) : s.LeavesPhases (endUnreported e s) :=
  ((closeEntry_leaves e.consumer (f := unreported e s.freshQuery) (fun _ => rfl) s).trans
    (raiseNotice_leaves _ _ _)).trans (handOverEnd_leaves e _)

theorem entryAtCycleEnd_leaves (s : State) (e : MoveEntry) : s.LeavesPhases (entryAtCycleEnd s e) := by
  unfold entryAtCycleEnd
  split
  · exact withdraw_leaves _ e s
  · split
    · exact endUnreported_leaves e s
    · split
      · exact scheduler_leaves s _ s.rescue
      · exact .refl s

theorem silentByQueries_leaves (i : Nat) (s : State) : s.LeavesPhases (silentByQueries i s) := by
  have hsilent : s.LeavesPhases (goSilent i s) :=
    (changeRecord_leaves i (f := fun r => { r with state := .silent }) (fun _ => rfl) s).trans
      (scheduler_leaves _ _ (changeRecord i _ s).rescue)
  exact (hsilent.trans (raiseNotice_leaves _ _ _)).trans (noteOutOfService_leaves i _)

theorem spendTry_leaves (s : State) (i : Nat) : s.LeavesPhases (spendTry s i) := by
  have hquery : ∀ q, s.LeavesPhases (s.modifyRecord i fun r => { r with state := r.state.withQuery q }) := fun q =>
    modifyRecord_leaves i (f := fun r => { r with state := r.state.withQuery q }) (fun _ => rfl) s
  unfold spendTry
  split
  · split
    · exact (hquery _).trans (silentByQueries_leaves i _)
    · exact hquery _
  · exact .refl s

theorem lowerDeadline_moves (r : Consumer) : (lowerDeadline r).moves = r.moves := by
  unfold lowerDeadline
  split
  · rfl
  · rfl

/-- Every record changed in the same way. -/
theorem record_mapConsumers (f : Consumer → Consumer) (s : State) (i : Nat) :
    State.record { s with tables.consumers := s.tables.consumers.map fun r => r.map f } i = (s.record i).map f := by
  simp only [State.record, List.getElem?_map]
  cases s.tables.consumers[i]? with
  | none => rfl
  | some o => rfl

theorem queriesAtCycleEnd_leaves (s : State) : s.LeavesPhases (queriesAtCycleEnd s) := by
  refine State.LeavesPhases.trans
    (t := { s with tables.consumers := s.tables.consumers.map fun r => r.map lowerDeadline })
    ⟨⟨⟨rfl, rfl, rfl, rfl, fun i => ?_, rfl, rfl, rfl, rfl, rfl⟩, rfl, rfl⟩, rfl⟩ (.foldl spendTry_leaves _ _)
  rw [record_mapConsumers, Option.map_map]
  exact congrArg (Option.map · (s.record i)) (funext lowerDeadline_moves)

theorem expireLatest_leaves (s : State) : s.LeavesPhases (expireLatest s) := by
  unfold expireLatest
  split
  · split
    · exact .refl s
    · exact scheduler_leaves s _ s.rescue
  · exact .refl s

theorem schedulerAtCycleEnd_leaves (s : State) : s.LeavesPhases (schedulerAtCycleEnd s) := by
  have hmoves : ∀ t : State, t.LeavesPhases (scheduleAtCycleEnd t) := fun t => .foldl entryAtCycleEnd_leaves _ t
  unfold schedulerAtCycleEnd
  refine State.LeavesPhases.trans ?_ (expireLatest_leaves _)
  split
  · exact (hmoves s).trans (queriesAtCycleEnd_leaves _)
  · exact (queriesAtCycleEnd_leaves s).trans (hmoves _)

/-! ### Changes of condition -/

theorem setWatch_leaves (p : Phase) (w : PhaseWatch) (s : State) : s.LeavesClock (s.setWatch p w) :=
  ⟨⟨rfl, rfl, rfl, rfl, fun _ => rfl, rfl, rfl, rfl, rfl, rfl⟩, rfl, rfl⟩

theorem noticeCondition_leaves (p : Phase) (left entered : Condition) (cause : ConditionCause) (s : State) :
    s.LeavesPhases (noticeCondition p left entered cause s) := by
  unfold noticeCondition
  dsimp only
  split
  · exact queueNotice_leaves _ _ s
  · exact queueNotice_leaves _ _ s
  · split
    · exact raiseNotice_leaves _ _ s
    · exact .refl s
  · split
    · exact raiseNotice_leaves _ _ s
    · exact .refl s
  · exact raiseNotice_leaves _ _ s
  · exact .refl s

theorem rescueTrigger_leaves (p : Phase) (s : State) : s.LeavesPhases (rescueTrigger p s) := by
  have hopen : s.LeavesPhases (openOrExtend p s) := by
    unfold openOrExtend
    split
    · exact scheduler_leaves s s.scheduler _
    · exact scheduler_leaves s s.scheduler _
  have henlist : ∀ (t : State) i, t.LeavesPhases (enlist i 0 p t) := fun t i =>
    (scheduler_leaves t t.scheduler _).trans
      (modifyRecord_leaves i (f := fun r => { r with rescue := some ⟨0, p⟩ }) (fun _ => rfl) _)
  unfold rescueTrigger
  split
  · exact (hopen.trans (.foldl henlist _ _)).trans (closeTest_leaves _)
  · exact .refl s

theorem rescueRecovery_leaves (p : Phase) (s : State) : s.LeavesPhases (rescueRecovery p s) := by
  have hrestored : ∀ (t : State) i, t.LeavesPhases (countRestored (unlist i t)) := fun t i =>
    scheduler_leaves t t.scheduler _
  have hdrop : ∀ (t : State) i, t.LeavesPhases (dropRescueMark i t) := fun t i =>
    modifyRecord_leaves i (f := fun r => { r with rescue := none }) (fun _ => rfl) t
  unfold rescueRecovery
  dsimp only
  refine State.LeavesPhases.trans ?_ (closeTest_leaves _)
  split
  · exact ((State.LeavesPhases.foldl hrestored _ s).trans (.foldl hdrop _ _)).trans (scheduler_leaves _ _ _)
  · exact (State.LeavesPhases.foldl hrestored _ s).trans (.foldl hdrop _ _)

theorem rescueOnCondition_leaves (p : Phase) (left entered : Condition) (s : State) :
    s.LeavesPhases (rescueOnCondition p left entered s) := by
  unfold rescueOnCondition
  split
  · exact rescueTrigger_leaves p s
  · exact rescueTrigger_leaves p s
  · exact rescueRecovery_leaves p s
  · exact .refl s

theorem changeCondition_leaves (p : Phase) (entered : Condition) (cause : ConditionCause) (s : State) :
    s.LeavesClock (changeCondition p entered cause s) := by
  refine (setWatch_leaves p { s.watch p with condition := entered } s).trans ?_
  unfold changeCondition
  dsimp only
  split
  · exact ((noticeCondition_leaves ..).trans (rescueOnCondition_leaves ..)).toLeavesClock
  · exact ((rescueOnCondition_leaves ..).trans (noticeCondition_leaves ..)).toLeavesClock

/-! ### Phase Supervision -/

theorem onFilteredLevel_leaves (p : Phase) (s : State) : s.LeavesClock (onFilteredLevel p s) := by
  unfold onFilteredLevel
  dsimp only
  split
  · exact changeCondition_leaves ..
  · exact changeCondition_leaves ..
  · exact changeCondition_leaves ..
  · split
    · exact changeCondition_leaves ..
    · exact .refl s
  · exact .refl s

theorem samplePhase_leaves (level : Bool) (p : Phase) (s : State) : s.LeavesClock (samplePhase level p s) := by
  have hfilter : ∀ t : State, t.LeavesClock (filteredLevelChange p t) := fun t => by
    unfold filteredLevelChange
    dsimp only
    split
    · exact (setWatch_leaves p { t.watch p with sagActive := !(t.watch p).sagActive, filterRun := 0 } t).trans
        (onFilteredLevel_leaves p _)
    · exact .refl t
  unfold samplePhase
  dsimp only
  split
  · exact setWatch_leaves p _ s
  · exact (setWatch_leaves p { s.watch p with filterRun := (s.watch p).filterRun + 1 } s).trans (hfilter _)

theorem onPresence_leaves (p : Phase) (s : State) : s.LeavesClock (onPresence p s) := by
  unfold onPresence
  dsimp only
  split
  · split
    · exact changeCondition_leaves ..
    · exact .refl s
  all_goals
    split
    · exact .refl s
    · exact changeCondition_leaves ..

theorem sagDelayReached_leaves (p : Phase) (s : State) : s.LeavesClock (sagDelayReached p s) := by
  unfold sagDelayReached
  split
  · split
    · exact changeCondition_leaves ..
    · exact .refl s
  all_goals exact .refl s

theorem holdReached_leaves (p : Phase) (s : State) : s.LeavesClock (holdReached p s) := by
  unfold holdReached
  dsimp only
  split
  · split
    · exact changeCondition_leaves ..
    · exact .refl s
  all_goals exact .refl s

theorem conditionAtCycleEnd_leaves (began : PerPhase PhaseWatch) (p : Phase) (s : State) :
    s.LeavesClock (conditionAtCycleEnd began p s) := by
  unfold conditionAtCycleEnd
  dsimp only
  split
  · split
    · exact .refl s
    · exact (setWatch_leaves p _ s).trans (sagDelayReached_leaves p _)
    · exact onPresence_leaves p s
    · split
      · exact .refl s
      · exact (setWatch_leaves p _ s).trans (holdReached_leaves p _)
  · exact onPresence_leaves p s

theorem sampleAll_leaves (s : State) : s.LeavesClock (sampleAll s) :=
  .foldl (fun t p => samplePhase_leaves (t.supervision.sagLines.get p) p t) _ s

theorem presenceUpdates_leaves (s : State) : s.LeavesClock (presenceUpdates s) :=
  .foldl (fun t p => setWatch_leaves p _ t) _ s

theorem conditionsAtCycleEnd_leaves (began : PerPhase PhaseWatch) (s : State) :
    s.LeavesClock (conditionsAtCycleEnd began s) :=
  .foldl (fun t p => conditionAtCycleEnd_leaves began p t) _ s

theorem sampleAndConditions_leaves (began : PerPhase PhaseWatch) (s : State) :
    s.LeavesClock (sampleAndConditions began s) := by
  unfold sampleAndConditions
  split
  · exact (sampleAll_leaves s).trans (conditionsAtCycleEnd_leaves began _)
  · exact (conditionsAtCycleEnd_leaves began s).trans (sampleAll_leaves _)

theorem supervisionBlock_leaves (how : CycleEnd) (s : State) : s.LeavesClock (supervisionBlock how s) := by
  unfold supervisionBlock
  dsimp only
  split
  · exact (presenceUpdates_leaves s).trans (conditionsAtCycleEnd_leaves _ _)
  · exact (presenceUpdates_leaves s).trans (sampleAndConditions_leaves _ _)
  · split
    · exact ((sampleAll_leaves s).trans (presenceUpdates_leaves _)).trans (conditionsAtCycleEnd_leaves _ _)
    · exact (presenceUpdates_leaves s).trans (sampleAndConditions_leaves _ _)

end Sys2Proof.Machine

namespace Sys2Proof.Machine

/-! ### What a cycle end makes of one phase -/

/-- A phase after a sample of its sag line (R67, R70). -/
def PhaseWatch.sampled (level : Bool) (filter : Nat) (w : PhaseWatch) : PhaseWatch :=
  if level = w.sagActive then { w with filterRun := 0 }
  else if filter ≤ w.filterRun + 1 then
    { w with sagActive := level, filterRun := 0, condition := w.conditionOnLevel level }
  else { w with filterRun := w.filterRun + 1 }

/-- A phase after its condition machine at a cycle end; `began` says whether it was RECOVERING as the cycle end came
(R70, R71). -/
def PhaseWatch.conditioned (delay hold : Nat) (began : Bool) (w : PhaseWatch) : PhaseWatch :=
  if w.recovers = true ∧ w.present = true ∧ began = false then w
  else { w with condition := w.conditionAtCycleEnd delay hold }

/-- A phase after Phase Supervision at a cycle end, by its maker and the order choice (R66, R68, R70; log 3, log 22). -/
def PhaseWatch.atCycleEnd (how : CycleEnd) (c : Config.OrderChoice) (policy : Policy) (level : Bool) (w : PhaseWatch) :
    PhaseWatch :=
  let sample := PhaseWatch.sampled level policy.sagFilter
  let condition := PhaseWatch.conditioned policy.sagDelay policy.recoveryHold w.recovers
  let both (x : PhaseWatch) := if c.sampleFirst then condition (sample x) else sample (condition x)
  match how with
  | .synthetic => condition w.counted
  | .accepted => both w.counted
  | .reanchor => if c.pointFirst then condition (sample w).counted else both w.counted

/-- The condition machine at a cycle end on its phase. -/
theorem conditionAtCycleEnd_conditioned (began : PerPhase PhaseWatch) (p : Phase) (s : State) :
    (conditionAtCycleEnd began p s).supervision.phases = s.supervision.phases.set p
      ((s.watch p).conditioned s.management.active.sagDelay s.management.active.recoveryHold (began.get p).recovers) := by
  unfold PhaseWatch.conditioned
  split
  · rename_i h
    obtain ⟨hrecovers, hpresent, hbegan⟩ := h
    obtain ⟨n, hn⟩ : ∃ n, (s.watch p).condition = .recovering n := by
      unfold PhaseWatch.recovers at hrecovers
      split at hrecovers
      · exact ⟨_, by assumption⟩
      all_goals cases hrecovers
    rw [set_watch_self]
    unfold conditionAtCycleEnd
    simp only [hpresent, hn, hbegan, Bool.not_false, Bool.or_true, if_true]
  · rename_i h
    by_cases hpresent : (s.watch p).present = true
    · refine conditionAtCycleEnd_phases began p s fun hrecovers => ?_
      by_contra hbegan
      exact h ⟨hrecovers, hpresent, Bool.eq_false_iff.mpr hbegan⟩
    · unfold conditionAtCycleEnd PhaseWatch.conditionAtCycleEnd
      rw [if_neg hpresent, if_neg hpresent]
      have hself := set_watch_self s p
      unfold onPresence
      dsimp only
      split
      · rename_i hlost
        rw [if_neg (by simp [hpresent]), ← hlost]
        exact hself.symm
      all_goals
        rw [if_neg hpresent]
        exact changeCondition_phases ..

/-- A pass over the phases changes each by itself. -/
theorem watch_foldl {f : State → Phase → State} {s : State} {g : Phase → PhaseWatch → PhaseWatch}
    (hleaves : ∀ (t : State) p, t.LeavesClock (f t p))
    (hf : ∀ t p, s.LeavesClock t → (f t p).supervision.phases = t.supervision.phases.set p (g p (t.watch p)))
    {l : List Phase} (hl : l.Nodup) {t : State} (ht : s.LeavesClock t) (q : Phase) :
    (l.foldl f t).watch q = if q ∈ l then g q (t.watch q) else t.watch q := by
  induction l generalizing t with
  | nil => rfl
  | cons p l ih =>
    obtain ⟨hp, hl⟩ := List.nodup_cons.mp hl
    have hwatch : (f t p).watch q = if q = p then g p (t.watch p) else t.watch q := by
      rw [State.watch, hf t p ht]
      split
      · rename_i h
        rw [h, PerPhase.get_set_same]
      · rename_i h
        rw [PerPhase.get_set_other _ _ h]
        rfl
    rw [List.foldl_cons, ih hl (ht.trans (hleaves t p)), hwatch]
    by_cases hq : q = p
    · subst hq
      simp [hp]
    · simp [hq]

theorem watch_foldl_all {f : State → Phase → State} {s : State} {g : Phase → PhaseWatch → PhaseWatch}
    (hleaves : ∀ (t : State) p, t.LeavesClock (f t p))
    (hf : ∀ t p, s.LeavesClock t → (f t p).supervision.phases = t.supervision.phases.set p (g p (t.watch p)))
    (q : Phase) : (Phase.all.foldl f s).watch q = g q (s.watch q) := by
  rw [watch_foldl hleaves hf (by decide) (.refl s), if_pos]
  cases q <;> decide

theorem watch_sampleAll (s : State) (p : Phase) :
    (sampleAll s).watch p
      = (s.watch p).sampled (s.supervision.sagLines.get p) s.management.active.sagFilter :=
  watch_foldl_all (g := fun p w => w.sampled (s.supervision.sagLines.get p) s.management.active.sagFilter)
    (fun _ _ => samplePhase_leaves ..) (fun t p h => by
      rw [samplePhase_phases, h.management, h.sagLines]
      rfl) p

theorem watch_presenceUpdates (s : State) (p : Phase) : (presenceUpdates s).watch p = (s.watch p).counted :=
  watch_foldl_all (g := fun _ w => w.counted) (fun t p => setWatch_leaves p _ t) (fun t p _ =>
    congrArg (t.supervision.phases.set p) (withPresence_withRuns (t.watch p))) p

theorem watch_conditionsAtCycleEnd (began : PerPhase PhaseWatch) (s : State) (p : Phase) :
    (conditionsAtCycleEnd began s).watch p
      = (s.watch p).conditioned s.management.active.sagDelay s.management.active.recoveryHold (began.get p).recovers :=
  watch_foldl_all
    (g := fun p w => w.conditioned s.management.active.sagDelay s.management.active.recoveryHold (began.get p).recovers)
    (fun t p => conditionAtCycleEnd_leaves began p t) (fun t p h => by
      rw [conditionAtCycleEnd_conditioned, h.management]) p

/-- What Phase Supervision makes of each phase at a cycle end. -/
theorem watch_supervisionBlock (how : CycleEnd) (s : State) (p : Phase) :
    (supervisionBlock how s).watch p
      = (s.watch p).atCycleEnd how s.order s.management.active (s.supervision.sagLines.get p) := by
  have hcounted := presenceUpdates_leaves s
  have hboth : (sampleAndConditions s.supervision.phases (presenceUpdates s)).watch p
      = if s.order.sampleFirst then
          ((s.watch p).counted.sampled (s.supervision.sagLines.get p) s.management.active.sagFilter).conditioned
            s.management.active.sagDelay s.management.active.recoveryHold (s.watch p).recovers
        else
          ((s.watch p).counted.conditioned s.management.active.sagDelay s.management.active.recoveryHold
            (s.watch p).recovers).sampled (s.supervision.sagLines.get p) s.management.active.sagFilter := by
    have hsampled := hcounted.trans (sampleAll_leaves _)
    have hconditioned := hcounted.trans (conditionsAtCycleEnd_leaves s.supervision.phases _)
    unfold sampleAndConditions State.choice
    rw [hcounted.order]
    split
    · rw [watch_conditionsAtCycleEnd, watch_sampleAll, watch_presenceUpdates, hsampled.management, hcounted.management,
        hcounted.sagLines]
      rfl
    · rw [watch_sampleAll, watch_conditionsAtCycleEnd, watch_presenceUpdates, hconditioned.management,
        hcounted.management, hconditioned.sagLines]
      rfl
  unfold supervisionBlock PhaseWatch.atCycleEnd
  cases how with
  | synthetic =>
    rw [watch_conditionsAtCycleEnd, watch_presenceUpdates, hcounted.management]
    rfl
  | accepted => exact hboth
  | reanchor =>
    dsimp only
    unfold State.choice
    by_cases hpoint : s.order.pointFirst = true
    · have hsampled := sampleAll_leaves s
      rw [if_pos hpoint, if_pos hpoint, watch_conditionsAtCycleEnd, watch_presenceUpdates, watch_sampleAll,
        (hsampled.trans (presenceUpdates_leaves _)).management]
      rfl
    · rw [if_neg hpoint, if_neg hpoint]
      exact hboth

end Sys2Proof.Machine

namespace Sys2Proof.Machine

/-! ### How a phase after a cycle end compares with R68, R70 and R71 -/

theorem PhaseWatch.SameRuns.refl (w : PhaseWatch) : w.SameRuns w := ⟨rfl, rfl, rfl, rfl⟩

theorem PhaseWatch.SameRuns.trans {w x y : PhaseWatch} (h : w.SameRuns x) (k : x.SameRuns y) : w.SameRuns y := by
  obtain ⟨hseen, habsence, hpresence, hpresent⟩ := h
  obtain ⟨kseen, kabsence, kpresence, kpresent⟩ := k
  exact ⟨hseen.trans kseen, habsence.trans kabsence, hpresence.trans kpresence, hpresent.trans kpresent⟩

theorem PhaseWatch.SameRuns.symm {w x : PhaseWatch} (h : w.SameRuns x) : x.SameRuns w := by
  obtain ⟨hseen, habsence, hpresence, hpresent⟩ := h
  exact ⟨hseen.symm, habsence.symm, hpresence.symm, hpresent.symm⟩

/-- The presence update reads the runs alone. -/
theorem PhaseWatch.SameRuns.counted {w x : PhaseWatch} (h : w.SameRuns x) : w.counted.SameRuns x.counted := by
  obtain ⟨hseen, habsence, hpresence, hpresent⟩ := h
  unfold PhaseWatch.counted
  simp only [PhaseWatch.SameRuns, hseen, habsence, hpresence, hpresent, and_self]

theorem PhaseWatch.SameRuns.mark {w x : PhaseWatch} (h : w.SameRuns x) :
    PhaseWatch.SameRuns { w with edgeSeen := true } { x with edgeSeen := true } := by
  obtain ⟨-, habsence, hpresence, hpresent⟩ := h
  exact ⟨rfl, habsence, hpresence, hpresent⟩

section Sample
variable (level : Bool) (filter : Nat) (w : PhaseWatch)

theorem PhaseWatch.sampled_sameRuns : (w.sampled level filter).SameRuns w := by
  unfold PhaseWatch.sampled
  split
  · exact .refl w
  · split
    · exact .refl w
    · exact .refl w

variable {level filter w}

theorem PhaseWatch.sampled_same (h : level = w.sagActive) : w.sampled level filter = { w with filterRun := 0 } := if_pos h

theorem PhaseWatch.sampled_running (h : level ≠ w.sagActive) (hrun : w.filterRun + 1 < filter) :
    w.sampled level filter = { w with filterRun := w.filterRun + 1 } :=
  (if_neg h).trans (if_neg (Nat.not_le.mpr hrun))

theorem PhaseWatch.sampled_turned (h : level ≠ w.sagActive) (hrun : filter ≤ w.filterRun + 1) :
    w.sampled level filter
      = { w with sagActive := level, filterRun := 0, condition := w.conditionOnLevel level } :=
  (if_neg h).trans (if_pos hrun)

end Sample

section Condition
variable (delay hold : Nat) (began : Bool) (w : PhaseWatch)

theorem PhaseWatch.conditioned_sameRuns : (w.conditioned delay hold began).SameRuns w := by
  unfold PhaseWatch.conditioned
  split
  · exact .refl w
  · exact .refl w

theorem PhaseWatch.conditioned_sagActive : (w.conditioned delay hold began).sagActive = w.sagActive := by
  unfold PhaseWatch.conditioned
  split
  · rfl
  · rfl

theorem PhaseWatch.conditioned_filterRun : (w.conditioned delay hold began).filterRun = w.filterRun := by
  unfold PhaseWatch.conditioned
  split
  · rfl
  · rfl

/-- The condition machine does not read the filter run. -/
theorem PhaseWatch.conditioned_withFilterRun (n : Nat) :
    PhaseWatch.conditioned delay hold began { w with filterRun := n }
      = { w.conditioned delay hold began with filterRun := n } := by
  unfold PhaseWatch.conditioned
  have hrecovers : PhaseWatch.recovers { w with filterRun := n } = w.recovers := rfl
  rw [hrecovers]
  split
  · rfl
  · rfl

/-- Without a sample the condition machine acts in full. -/
theorem PhaseWatch.conditioned_counted :
    w.counted.conditioned delay hold w.recovers
      = { w.counted with condition := w.counted.conditionAtCycleEnd delay hold } := by
  refine if_neg fun h => ?_
  obtain ⟨hrecovers, -, hbegan⟩ := h
  exact Bool.false_ne_true (hbegan.symm.trans hrecovers)

/-- A phase in RECOVERING by a sample of the cycle end stays there with crossings present. -/
theorem PhaseWatch.conditioned_recovering (hrecovers : w.recovers = true) (hpresent : w.present = true) :
    w.conditioned delay hold false = w := if_pos ⟨hrecovers, hpresent, rfl⟩

end Condition

/-- How a phase after a cycle end with sample point 0 compares with one without it (R67, R70, R71). -/
def PhaseWatch.CountedFrom (level : Bool) (filter : Nat) (before w x : PhaseWatch) : Prop :=
  w.SameRuns x
    ∧ (level = before.sagActive → w = { x with filterRun := 0 })
    ∧ (level ≠ before.sagActive → before.filterRun + 1 < filter → w = { x with filterRun := before.filterRun + 1 })
    ∧ (before.condition = .lost → before.sagActive = true → level = false → filter ≤ before.filterRun + 1 →
      x.present = true → w.condition = .recovering 0)

theorem PhaseWatch.CountedFrom.mark {level : Bool} {filter : Nat} {before w x : PhaseWatch}
    (h : before.CountedFrom level filter w x) :
    before.CountedFrom level filter { w with edgeSeen := true } { x with edgeSeen := true } := by
  obtain ⟨hruns, hsame, hrunning, hturned⟩ := h
  refine ⟨hruns.mark, fun hl => ?_, fun hl hr => ?_, hturned⟩
  · rw [hsame hl]
  · rw [hrunning hl hr]

section Orders
variable {level : Bool} {filter delay hold : Nat} {w x : PhaseWatch}

/-- The condition machine, then the sample. -/
theorem countedFrom_conditionFirst (hx : w.counted.conditioned delay hold w.recovers = x) :
    w.CountedFrom level filter (x.sampled level filter) x := by
  have hactive : x.sagActive = w.sagActive := hx ▸ PhaseWatch.conditioned_sagActive ..
  have hrun : x.filterRun = w.filterRun := hx ▸ PhaseWatch.conditioned_filterRun ..
  refine ⟨PhaseWatch.sampled_sameRuns .., fun hl => ?_, fun hl hr => ?_, fun hlost ha hl hr hp => ?_⟩
  · exact PhaseWatch.sampled_same (hl.trans hactive.symm)
  · rw [PhaseWatch.sampled_running (hactive ▸ hl) (hrun ▸ hr), hrun]
  · have hcondition : x.condition = .lost := by
      rw [PhaseWatch.conditioned_counted] at hx
      subst hx
      have hpresent : w.counted.present = true := hp
      have hstays : w.counted.condition = .lost := hlost
      have hsag : w.counted.sagActive = true := ha
      unfold PhaseWatch.conditionAtCycleEnd
      simp only [hpresent, hstays, hsag, if_true]
    have hturns : level ≠ x.sagActive := by
      rw [hl, hactive, ha]
      exact Bool.false_ne_true
    rw [PhaseWatch.sampled_turned hturns (hrun ▸ hr)]
    unfold PhaseWatch.conditionOnLevel
    simp only [hcondition, hl, hp, if_true]

/-- A sample before or after the presence update, then the condition machine: `y` is the phase between them. -/
theorem countedFrom_sampleFirst {y : PhaseWatch} (hx : w.counted.conditioned delay hold w.recovers = x)
    (hruns : y.SameRuns w.counted)
    (hsame : level = w.sagActive → y = { w.counted with filterRun := 0 })
    (hrunning : level ≠ w.sagActive → w.filterRun + 1 < filter → y = { w.counted with filterRun := w.filterRun + 1 })
    (hturned : w.condition = .lost → level ≠ w.sagActive → filter ≤ w.filterRun + 1 →
      y.sagActive = level ∧ (level = false → y.condition = .lost ∨ y.condition = .recovering 0)) :
    w.CountedFrom level filter (y.conditioned delay hold w.recovers) x := by
  refine ⟨?_, fun hl => ?_, fun hl hr => ?_, fun hlost ha hl hr hp => ?_⟩
  · rw [← hx]
    exact ((PhaseWatch.conditioned_sameRuns ..).trans hruns).trans (PhaseWatch.conditioned_sameRuns ..).symm
  · rw [hsame hl, PhaseWatch.conditioned_withFilterRun, hx]
  · rw [hrunning hl hr, PhaseWatch.conditioned_withFilterRun, hx]
  · have hpresent : y.present = true := by
      obtain ⟨-, -, -, hy⟩ := hruns
      obtain ⟨-, -, -, hc⟩ := PhaseWatch.conditioned_sameRuns delay hold w.recovers w.counted
      rw [hy, ← hc, hx, hp]
    have hbegan : w.recovers = false := by
      unfold PhaseWatch.recovers
      rw [hlost]
    obtain ⟨hactive, hcondition⟩ := hturned hlost (by rw [hl, ha]; exact Bool.false_ne_true) hr
    rw [hl] at hactive
    rw [hbegan]
    rcases hcondition hl with h | h
    · have hrecovers : y.recovers = false := by
        unfold PhaseWatch.recovers
        rw [h]
      unfold PhaseWatch.conditioned PhaseWatch.conditionAtCycleEnd
      simp [hrecovers, hpresent, h, hactive]
    · rw [PhaseWatch.conditioned_recovering _ _ _ (by unfold PhaseWatch.recovers; rw [h]) hpresent, h]

/-- The presence update, then the sample. -/
theorem countedFrom_sampleCounted (hx : w.counted.conditioned delay hold w.recovers = x) :
    w.CountedFrom level filter ((w.counted.sampled level filter).conditioned delay hold w.recovers) x := by
  refine countedFrom_sampleFirst hx (PhaseWatch.sampled_sameRuns ..)
    (PhaseWatch.sampled_same (w := w.counted)) (PhaseWatch.sampled_running (w := w.counted)) fun hlost hl hr => ?_
  rw [PhaseWatch.sampled_turned (w := w.counted) hl hr]
  refine ⟨rfl, fun hlevel => ?_⟩
  have hstays : w.counted.condition = .lost := hlost
  unfold PhaseWatch.conditionOnLevel
  rw [hstays, hlevel]
  by_cases hp : w.counted.present = true
  · exact .inr (if_pos hp)
  · exact .inl (if_neg hp)

/-- The sample, then the presence update. -/
theorem countedFrom_countSampled (hx : w.counted.conditioned delay hold w.recovers = x) :
    w.CountedFrom level filter ((w.sampled level filter).counted.conditioned delay hold w.recovers) x := by
  refine countedFrom_sampleFirst hx (PhaseWatch.sampled_sameRuns level filter w).counted
    (fun hl => by rw [PhaseWatch.sampled_same hl]; rfl) (fun hl hr => by rw [PhaseWatch.sampled_running hl hr]; rfl)
    fun hlost hl hr => ?_
  rw [PhaseWatch.sampled_turned hl hr]
  refine ⟨rfl, fun hlevel => ?_⟩
  unfold PhaseWatch.conditionOnLevel
  rw [hlost, hlevel]
  by_cases hp : w.present = true
  · exact .inr (if_pos hp)
  · exact .inl (if_neg hp)

end Orders

/-- A cycle end that a crossing makes, against what a cycle end makes of the phase by itself, in every order. -/
theorem countedFrom_atCycleEnd {how : CycleEnd} (hhow : how ≠ .synthetic) (c : Config.OrderChoice) (level : Bool)
    (s : State) (w : PhaseWatch) :
    w.CountedFrom level s.management.active.sagFilter (w.atCycleEnd how c s.management.active level)
      (s.watchAtCycleEnd w) := by
  have hx := w.conditioned_counted s.management.active.sagDelay s.management.active.recoveryHold
  have hboth : w.CountedFrom level s.management.active.sagFilter
      (w.atCycleEnd .accepted c s.management.active level) (s.watchAtCycleEnd w) := by
    unfold PhaseWatch.atCycleEnd
    dsimp only
    split
    · exact countedFrom_sampleCounted hx
    · rw [hx]
      exact countedFrom_conditionFirst hx
  cases how with
  | synthetic => exact absurd rfl hhow
  | accepted => exact hboth
  | reanchor =>
    by_cases hpoint : c.pointFirst = true
    · have e : w.atCycleEnd .reanchor c s.management.active level
          = (w.sampled level s.management.active.sagFilter).counted.conditioned s.management.active.sagDelay
            s.management.active.recoveryHold w.recovers := if_pos hpoint
      rw [e]
      exact countedFrom_countSampled hx
    · have e : w.atCycleEnd .reanchor c s.management.active level = w.atCycleEnd .accepted c s.management.active level :=
        if_neg hpoint
      rw [e]
      exact hboth

/-- A synthetic cycle end has no sample in its event. -/
theorem atCycleEnd_synthetic (c : Config.OrderChoice) (level : Bool) (s : State) (w : PhaseWatch) :
    w.atCycleEnd .synthetic c s.management.active level = s.watchAtCycleEnd w := w.conditioned_counted ..

end Sys2Proof.Machine

namespace Sys2Proof.Machine

/-! ### The three blocks in any order (R49; log 3) -/

/-- The timebase after its own part in a cycle end; `q` and `pending` are what a failover leaves (R55, R57). -/
def Timebase.atCycleEnd (how : CycleEnd) (limit : Nat) (q : Phase) (pending : Bool) (t : Timebase) : Timebase :=
  match how with
  | .accepted => { t with sync := if 4 ≤ t.acceptedRun then .synced else t.sync }
  | .reanchor => t
  | .synthetic =>
    { t with
      reference := q
      reanchorPending := pending
      referenceRun := if 2 ≤ t.referenceRun then 0 else t.referenceRun
      sync := match t.sync with
        | .synced => .flywheel
        | .flywheel => if limit ≤ t.syntheticRun then .unsynced else .flywheel
        | .unsynced => .unsynced }

theorem syncAfterSynthetic_eq (s : State) :
    ∃ pending, syncAfterSynthetic s = { s with
      timebase := { s.timebase with
        reanchorPending := pending
        sync := match s.timebase.sync with
          | .synced => .flywheel
          | .flywheel => if s.management.active.flywheelLimit ≤ s.timebase.syntheticRun then .unsynced else .flywheel
          | .unsynced => .unsynced } } := by
  cases hs : s.timebase.sync with
  | synced => exact ⟨s.timebase.reanchorPending, by unfold syncAfterSynthetic; rw [hs]⟩
  | unsynced =>
    refine ⟨s.timebase.reanchorPending, ?_⟩
    unfold syncAfterSynthetic
    simp only [hs]
    rw [← hs]
  | flywheel =>
    unfold syncAfterSynthetic unsyncAtLimit
    simp only [hs, true_and]
    by_cases hl : s.management.active.flywheelLimit ≤ s.timebase.syntheticRun
    · exact ⟨true, by simp only [hl, if_true]⟩
    · refine ⟨s.timebase.reanchorPending, ?_⟩
      simp only [hl, if_false]
      rw [← hs]

theorem failoverIfDue_eq (s : State) :
    ∃ q pending, failoverIfDue s = { s with
      timebase := { s.timebase with
        reference := q
        reanchorPending := pending
        referenceRun := if 2 ≤ s.timebase.referenceRun then 0 else s.timebase.referenceRun } }
      ∧ (s.timebase.referenceRun < 2 → q = s.timebase.reference) := by
  unfold failoverIfDue
  by_cases hrun : 2 ≤ s.timebase.referenceRun
  · exact ⟨s.failoverPhase, s.timebase.reanchorPending || s.failoverPhase != s.timebase.reference,
      by simp only [hrun, if_true], fun h => absurd hrun (Nat.not_le.mpr h)⟩
  · exact ⟨s.timebase.reference, s.timebase.reanchorPending, by simp only [hrun, if_false], fun _ => rfl⟩

/-- The Timebase's own part: its fields, and at most one notice. -/
theorem timebaseAtCycleEnd_spec (how : CycleEnd) (s : State) :
    s.LeavesCounts (timebaseAtCycleEnd how s) ∧ (timebaseAtCycleEnd how s).order = s.order
      ∧ (timebaseAtCycleEnd how s).supervision.phases = s.supervision.phases
      ∧ ∃ q pending, (timebaseAtCycleEnd how s).timebase
          = s.timebase.atCycleEnd how s.management.active.flywheelLimit q pending
        ∧ (s.timebase.referenceRun < 2 → q = s.timebase.reference) := by
  have hnotice : ∀ (x : Timebase), s.LeavesCounts (noticeTimebase s.lockState { s with timebase := x })
      ∧ (noticeTimebase s.lockState { s with timebase := x }).order = s.order
      ∧ (noticeTimebase s.lockState { s with timebase := x }).supervision.phases = s.supervision.phases
      ∧ (noticeTimebase s.lockState { s with timebase := x }).timebase = x := fun x => by
    have hset : s.LeavesCounts { s with timebase := x } := { State.LeavesCounts.refl s with }
    unfold noticeTimebase
    split
    · exact ⟨hset, rfl, rfl, rfl⟩
    · have hraise := raiseNotice_leaves .timebase [x.sync.code, phaseCode x.reference] { s with timebase := x }
      exact ⟨hset.trans hraise.toLeavesCounts, hraise.order, hraise.phases, hraise.timebase⟩
  have hblock : ∃ q pending, timebaseAtCycleEnd how s = noticeTimebase s.lockState { s with
        timebase := s.timebase.atCycleEnd how s.management.active.flywheelLimit q pending }
      ∧ (s.timebase.referenceRun < 2 → q = s.timebase.reference) := by
    unfold timebaseAtCycleEnd
    cases how with
    | accepted =>
      refine ⟨s.timebase.reference, false, congrArg _ ?_, fun _ => rfl⟩
      unfold syncAfterAccepted Timebase.atCycleEnd
      by_cases hrun : 4 ≤ s.timebase.acceptedRun
      · simp only [hrun, if_true]
      · simp only [hrun, if_false]
    | reanchor => exact ⟨s.timebase.reference, false, rfl, fun _ => rfl⟩
    | synthetic =>
      obtain ⟨pending, e⟩ := syncAfterSynthetic_eq s
      obtain ⟨q, pending', e', hq⟩ := failoverIfDue_eq (syncAfterSynthetic s)
      rw [e] at e' hq
      refine ⟨q, pending', ?_, hq⟩
      dsimp only
      rw [e, e']
      rfl
  obtain ⟨q, pending, e, hq⟩ := hblock
  obtain ⟨hleaves, horder, hphases, htimebase⟩ :=
    hnotice (s.timebase.atCycleEnd how s.management.active.flywheelLimit q pending)
  rw [← e] at hleaves horder hphases htimebase
  exact ⟨hleaves, horder, hphases, q, pending, htimebase, hq⟩

/-- What some of the blocks have done: the Timebase where `tb`, Phase Supervision where `ph`. -/
structure State.Acts (how : CycleEnd) (tb ph : Bool) (s u : State) : Prop extends State.LeavesCounts s u where
  order : u.order = s.order
  timebase : if tb then ∃ q pending,
      u.timebase = s.timebase.atCycleEnd how s.management.active.flywheelLimit q pending
        ∧ (s.timebase.referenceRun < 2 → q = s.timebase.reference)
    else u.timebase = s.timebase
  phases : ∀ p, u.watch p
    = if ph then (s.watch p).atCycleEnd how s.order s.management.active (s.supervision.sagLines.get p) else s.watch p

/-- Blocks act one after another, each once. -/
theorem State.Acts.trans {how : CycleEnd} {tb ph tb' ph' : Bool} {s t u : State} (h : s.Acts how tb ph t)
    (k : t.Acts how tb' ph' u) (htb : (tb && tb') = false) (hph : (ph && ph') = false) :
    s.Acts how (tb || tb') (ph || ph') u where
  toLeavesCounts := h.toLeavesCounts.trans k.toLeavesCounts
  order := k.order.trans h.order
  timebase := by
    have h₁ := h.timebase
    have h₂ := k.timebase
    cases tb with
    | false =>
      have e : t.timebase = s.timebase := h₁
      rw [e, h.management] at h₂
      exact h₂
    | true =>
      obtain rfl : tb' = false := htb
      have e : u.timebase = t.timebase := h₂
      rw [← e] at h₁
      exact h₁
  phases p := by
    have h₁ := h.phases p
    have h₂ := k.phases p
    cases ph with
    | false =>
      have e : t.watch p = s.watch p := h₁
      rw [e, h.management, h.sagLines, h.order] at h₂
      exact h₂
    | true =>
      obtain rfl : ph' = false := hph
      exact h₂.trans h₁

theorem timebaseAtCycleEnd_acts (how : CycleEnd) (s : State) : s.Acts how true false (timebaseAtCycleEnd how s) := by
  obtain ⟨hleaves, horder, hphases, htimebase⟩ := timebaseAtCycleEnd_spec how s
  refine ⟨hleaves, horder, htimebase, fun p => ?_⟩
  rw [State.watch, hphases]
  rfl

theorem supervisionBlock_acts (how : CycleEnd) (s : State) : s.Acts how false true (supervisionBlock how s) :=
  ⟨(supervisionBlock_leaves how s).toLeavesCounts, (supervisionBlock_leaves how s).order,
    (supervisionBlock_leaves how s).timebase, watch_supervisionBlock how s⟩

theorem schedulerAtCycleEnd_acts (how : CycleEnd) (s : State) : s.Acts how false false (schedulerAtCycleEnd s) := by
  have hleaves := schedulerAtCycleEnd_leaves s
  refine ⟨hleaves.toLeavesCounts, hleaves.order, hleaves.timebase, fun p => ?_⟩
  rw [State.watch, hleaves.phases]
  rfl

theorem blocksInOrder_acts (order : Config.BlockOrder) (how : CycleEnd) (s : State) :
    s.Acts how true true (blocksInOrder order how s) := by
  have ht := timebaseAtCycleEnd_acts how
  have hp := supervisionBlock_acts how
  have hc := schedulerAtCycleEnd_acts how
  cases order with
  | tps => exact ((ht _).trans (hp _) rfl rfl).trans (hc _) rfl rfl
  | tsp => exact ((ht _).trans (hc _) rfl rfl).trans (hp _) rfl rfl
  | pts => exact ((hp _).trans (ht _) rfl rfl).trans (hc _) rfl rfl
  | pst => exact ((hp _).trans (hc _) rfl rfl).trans (ht _) rfl rfl
  | stp => exact ((hc _).trans (ht _) rfl rfl).trans (hp _) rfl rfl
  | spt => exact ((hc _).trans (hp _) rfl rfl).trans (ht _) rfl rfl

end Sys2Proof.Machine

namespace Sys2Proof.Machine

/-! ### What a cycle end counts (R24, R32, R59) -/

/-- The budget period at a cycle end (R24). -/
theorem budgetAtCycleEnd_eq (s : State) :
    ∃ l, budgetAtCycleEnd s = { s with tables := { s.tables with
        budgetCounter := if s.management.active.budgetPeriod ≤ s.tables.budgetCounter + 1 then 0
          else s.tables.budgetCounter + 1
        consumers := l } }
      ∧ ∀ i, (budgetAtCycleEnd s).record i = (s.record i).map fun r =>
        { r with moveCount := if s.management.active.budgetPeriod ≤ s.tables.budgetCounter + 1 then 0 else r.moveCount } := by
  unfold budgetAtCycleEnd budgetIfDue
  by_cases hdue : s.management.active.budgetPeriod ≤ s.tables.budgetCounter + 1
  · simp only [hdue, if_true]
    exact ⟨_, rfl, fun i => record_mapConsumers (fun r => { r with moveCount := 0 }) s i⟩
  · simp only [hdue, if_false]
    exact ⟨_, rfl, fun i => Option.map_id'.symm⟩

/-- The window at a cycle end: closed, or counted (R32 to R34). -/
theorem intakeAtCycleEnd_eq (s : State) :
    ∃ x, intakeAtCycleEnd s = { s with intake := x }
      ∧ (s.intake.fold = .idle → s.management.active.window ≤ s.intake.windowCounter + 1 →
        x = ⟨!s.intake.secondOpen, 0, .folding 0 s.management.active.shift s.management.active.silenceLimit⟩)
      ∧ (s.intake.fold ≠ .idle ∨ s.intake.windowCounter + 1 < s.management.active.window →
        x = { s.intake with windowCounter :=
          if s.intake.windowCounter < s.management.active.window then s.intake.windowCounter + 1
          else s.intake.windowCounter }) := by
  have hraise : s.management.active.window ≤ raise s.management.active.window s.intake.windowCounter
      ↔ s.management.active.window ≤ s.intake.windowCounter + 1 := by
    unfold raise
    split <;> omega
  unfold intakeAtCycleEnd closeIfDue
  cases hf : s.intake.fold with
  | folding i shift limit =>
    exact ⟨_, rfl, nofun, fun _ => rfl⟩
  | idle =>
    by_cases hdue : s.management.active.window ≤ s.intake.windowCounter + 1
    · simp only [hraise, hdue, if_true]
      exact ⟨_, rfl, fun _ _ => rfl, fun h => absurd hdue (Nat.not_le.mpr (h.resolve_left (not_not_intro rfl)))⟩
    · simp only [hraise, hdue, if_false]
      exact ⟨_, rfl, fun _ h => absurd h id, fun _ => rfl⟩

/-- The cycle-mark counter at a cycle end (R59). -/
theorem marksAtCycleEnd_eq (s : State) :
    marksAtCycleEnd s = { s with timebase := { s.timebase with
      markCounter := if s.management.active.markInterval ≤ s.timebase.markCounter + 1 then 0
        else s.timebase.markCounter + 1
      markWaiting := decide (s.management.active.markInterval ≤ s.timebase.markCounter + 1)
        || s.timebase.markWaiting } } := by
  unfold marksAtCycleEnd markIfDue raise
  dsimp only
  by_cases hdue : s.management.active.markInterval ≤ s.timebase.markCounter + 1
  · rw [if_pos (by split <;> omega)]
    simp only [hdue, if_true, decide_true, Bool.true_or]
  · have hlt : s.timebase.markCounter < s.management.active.markInterval := by omega
    simp only [hlt, hdue, if_true, if_false, decide_false, Bool.false_or]

/-- The parts of a cycle end that no order choice shows in. -/
def countedCycle (s : State) : State :=
  marksAtCycleEnd (intakeAtCycleEnd (budgetAtCycleEnd { s with timebase.cycleCount := s.timebase.cycleCount + 1 }))

theorem cycleEnd_eq (how : CycleEnd) (s : State) :
    cycleEnd how s = blocksInOrder s.choice.blocks how (countedCycle s) := rfl

/-- The timebase once a cycle end has been counted (R49, R59). -/
def State.countedTimebase (s : State) : Timebase :=
  { s.timebase with
    cycleCount := s.timebase.cycleCount + 1
    markCounter := if s.management.active.markInterval ≤ s.timebase.markCounter + 1 then 0 else s.timebase.markCounter + 1
    markWaiting := decide (s.management.active.markInterval ≤ s.timebase.markCounter + 1) || s.timebase.markWaiting }

theorem countedCycle_spec (s : State) :
    s.CountsCycleEnd (countedCycle s)
      ∧ ∃ l n x, countedCycle s = { s with
        timebase := s.countedTimebase
        tables := { s.tables with consumers := l, budgetCounter := n }
        intake := x } := by
  obtain ⟨l, hbudget, hrecords⟩ := budgetAtCycleEnd_eq { s with timebase.cycleCount := s.timebase.cycleCount + 1 }
  obtain ⟨x, hintake, hclose, hnoClose⟩ :=
    intakeAtCycleEnd_eq (budgetAtCycleEnd { s with timebase.cycleCount := s.timebase.cycleCount + 1 })
  rw [hbudget] at hrecords hintake hclose hnoClose
  have e : countedCycle s = { s with
      timebase := s.countedTimebase
      tables := { s.tables with
        consumers := l
        budgetCounter := if s.management.active.budgetPeriod ≤ s.tables.budgetCounter + 1 then 0
          else s.tables.budgetCounter + 1 }
      intake := x } := by
    rw [countedCycle, hbudget, hintake, marksAtCycleEnd_eq]
    rfl
  have hmoves : ∀ i, State.record { s with tables := { s.tables with consumers := l } } i = (s.record i).map fun r =>
      { r with moveCount := if s.management.active.budgetPeriod ≤ s.tables.budgetCounter + 1 then 0 else r.moveCount } :=
    hrecords
  refine ⟨?_, l, _, x, e⟩
  rw [e]
  refine ⟨rfl, fun i => ?_, fun i => ?_, hclose, hnoClose, rfl, fun hdue => ?_, fun hdue hwaiting => ?_⟩
  · refine (congrArg (Option.map _) (hmoves i)).trans ?_
    rw [Option.map_map]
    rfl
  · refine (congrArg (Option.map _) (hmoves i)).trans ?_
    rw [Option.map_map]
    rfl
  · exact (Bool.or_eq_true _ _).mpr (.inl (decide_eq_true hdue))
  · exact (Bool.or_eq_false_iff).mpr ⟨decide_eq_false (Nat.not_le.mpr hdue), hwaiting⟩

/-- What is counted reads the policy, the budget counter, the records, the intake and the marks alone. -/
theorem State.CountsCycleEnd.congr {s s' t : State} (h : s'.CountsCycleEnd t)
    (hactive : s'.management = s.management) (hbudget : s'.tables.budgetCounter = s.tables.budgetCounter)
    (hmoves : ∀ i, (s'.record i).map Consumer.moves = (s.record i).map Consumer.moves) (hintake : s'.intake = s.intake)
    (hmark : s'.timebase.markCounter = s.timebase.markCounter)
    (hwaiting : s.timebase.markWaiting = false → s'.timebase.markWaiting = false) : s.CountsCycleEnd t := by
  have hmoveCount : ∀ i, (s'.record i).map Consumer.moveCount = (s.record i).map Consumer.moveCount := fun i => by
    have := congrArg (Option.map Prod.fst) (hmoves i)
    rwa [Option.map_map, Option.map_map] at this
  have hlastMove : ∀ i, (s'.record i).map Consumer.lastMove = (s.record i).map Consumer.lastMove := fun i => by
    have := congrArg (Option.map Prod.snd) (hmoves i)
    rwa [Option.map_map, Option.map_map] at this
  obtain ⟨budget, moves, lastMoves, close, noClose, markCounter, markDue, noMark⟩ := h
  rw [hactive, hbudget] at budget moves
  rw [hactive, hintake] at close noClose
  rw [hactive, hmark] at markCounter markDue noMark
  refine ⟨budget, fun i => (moves i).trans ?_, fun i => (lastMoves i).trans (hlastMove i), close, noClose, markCounter,
    markDue, fun hm hw => noMark hm (hwaiting hw)⟩
  have := congrArg (Option.map fun n =>
    if s.management.active.budgetPeriod ≤ s.tables.budgetCounter + 1 then 0 else n) (hmoveCount i)
  rwa [Option.map_map, Option.map_map] at this

/-- What is counted stands through the blocks and whatever leaves it. -/
theorem State.CountsCycleEnd.leaves {s t u : State} (h : s.CountsCycleEnd t) (k : t.LeavesCounts u)
    (hmark : u.timebase.markCounter = t.timebase.markCounter)
    (hwaiting : u.timebase.markWaiting = t.timebase.markWaiting) : s.CountsCycleEnd u := by
  obtain ⟨budget, moves, lastMoves, close, noClose, markCounter, markDue, noMark⟩ := h
  have hmoveCount : ∀ i, (u.record i).map Consumer.moveCount = (t.record i).map Consumer.moveCount := fun i => by
    have := congrArg (Option.map Prod.fst) (k.moves i)
    rwa [Option.map_map, Option.map_map] at this
  have hlastMove : ∀ i, (u.record i).map Consumer.lastMove = (t.record i).map Consumer.lastMove := fun i => by
    have := congrArg (Option.map Prod.snd) (k.moves i)
    rwa [Option.map_map, Option.map_map] at this
  exact ⟨k.budgetCounter.trans budget, fun i => (hmoveCount i).trans (moves i), fun i => (hlastMove i).trans (lastMoves i),
    fun hf hw => k.intake.trans (close hf hw), fun hf => k.intake.trans (noClose hf), hmark.trans markCounter,
    fun hm => hwaiting.trans (markDue hm), fun hm hw => hwaiting.trans (noMark hm hw)⟩

/-- What a cycle end does to a state whose maker has set the tick counter and the runs. -/
structure State.Ends (how : CycleEnd) (s u : State) : Prop where
  counts : s.CountsCycleEnd u
  timebase : ∃ q pending, u.timebase
      = s.countedTimebase.atCycleEnd how s.management.active.flywheelLimit q pending
    ∧ (s.timebase.referenceRun < 2 → q = s.timebase.reference)
  phases : ∀ p, u.watch p
    = (s.watch p).atCycleEnd how s.order s.management.active (s.supervision.sagLines.get p)
  management : u.management = s.management
  straps : u.straps = s.straps
  active : u.tables.active = s.tables.active
  shadow : u.tables.shadow = s.tables.shadow
  addressMap : u.tables.addressMap = s.tables.addressMap
  counters : u.ports.counters = s.ports.counters

theorem atCycleEnd_marks (how : CycleEnd) (limit : Nat) (q : Phase) (pending : Bool) (t : Timebase) :
    (t.atCycleEnd how limit q pending).markCounter = t.markCounter
      ∧ (t.atCycleEnd how limit q pending).markWaiting = t.markWaiting := by
  cases how with
  | accepted => exact ⟨rfl, rfl⟩
  | reanchor => exact ⟨rfl, rfl⟩
  | synthetic => exact ⟨rfl, rfl⟩

theorem cycleEnd_ends (how : CycleEnd) (s : State) : s.Ends how (cycleEnd how s) := by
  obtain ⟨hcounts, l, n, x, e⟩ := countedCycle_spec s
  have hacts := blocksInOrder_acts s.choice.blocks how (countedCycle s)
  rw [← cycleEnd_eq] at hacts
  have htimebase : ∃ q pending, (cycleEnd how s).timebase
        = (countedCycle s).timebase.atCycleEnd how (countedCycle s).management.active.flywheelLimit q pending
      ∧ ((countedCycle s).timebase.referenceRun < 2 → q = (countedCycle s).timebase.reference) := hacts.timebase
  obtain ⟨q, pending, ht, hq⟩ := htimebase
  obtain ⟨hmark, hwaiting⟩ := atCycleEnd_marks how (countedCycle s).management.active.flywheelLimit q pending
    (countedCycle s).timebase
  have hstands := hcounts.leaves hacts.toLeavesCounts (by rw [ht, hmark]) (by rw [ht, hwaiting])
  have hphases := hacts.phases
  have hleaves := hacts.toLeavesCounts
  rw [e] at ht hq hphases hleaves
  exact ⟨hstands, ⟨q, pending, ht, hq⟩, hphases, hleaves.management, hleaves.straps, hleaves.active, hleaves.shadow,
    hleaves.addressMap, hleaves.counters⟩

end Sys2Proof.Machine

namespace Sys2Proof.Machine

/-! ### Edges (R50 to R55, R68) -/

theorem exec_zeroCrossingEdge {s : State} (h : s.hold = none) (line : Phase) (sag : PhaseSet) :
    exec (.zeroCrossingEdge line 0 sag) s = .next (finish (edge line (setSagLines sag s))) :=
  next_whileRunning h fun s => edge line (setSagLines sag s)

section Edge
variable {line : Phase} {s : State}

/-- An edge on another line leaves its mark alone (R50). -/
theorem edge_other (h : line ≠ s.timebase.reference) : edge line s = dropChoice (markEdge line s) := by
  have hmarked : (markEdge line s).onReference line = false := beq_false_of_ne h
  have hbare : s.onReference line = false := beq_false_of_ne h
  unfold edge
  simp only [hmarked, hbare, Bool.false_eq_true, if_false, ite_self]

/-- An edge on the reference line is judged after it has left its mark, or before (log 3). -/
theorem edge_reference (h : line = s.timebase.reference) :
    edge line s = dropChoice (crossing (markEdge line s)) ∨ edge line s = dropChoice (markEdge line (crossing s)) := by
  have hmarked : (markEdge line s).onReference line = true := beq_iff_eq.mpr h
  have hbare : s.onReference line = true := beq_iff_eq.mpr h
  unfold edge
  dsimp only
  rw [if_pos hmarked, if_pos hbare]
  split
  · exact .inl rfl
  · exact .inr rfl

theorem crossing_glitch (hpending : s.timebase.reanchorPending = false) (hearly : s.timebase.tickCounter < s.earlyLimit) :
    crossing s = countGlitch s := by
  unfold crossing
  rw [if_neg (by rw [hpending]; exact Bool.false_ne_true), if_pos hearly]

/-- The timebase as an accepted crossing sets it (R51, R53). -/
def Timebase.accepted (t : Timebase) : Timebase :=
  { t with tickCounter := 0, activePeriod := t.tickCounter, acceptedRun := raise 4 t.acceptedRun, syntheticRun := 0,
           referenceRun := 0 }

/-- The timebase as a re-anchoring crossing sets it (R54). -/
def Timebase.reanchored (t : Timebase) : Timebase :=
  { t with tickCounter := 0, reanchorPending := false, acceptedRun := 0, syntheticRun := 0, referenceRun := 0 }

theorem crossing_accepted (hpending : s.timebase.reanchorPending = false)
    (hlate : s.earlyLimit ≤ s.timebase.tickCounter) :
    crossing s = cycleEnd .accepted { s with timebase := s.timebase.accepted } := by
  unfold crossing
  rw [if_neg (by rw [hpending]; exact Bool.false_ne_true), if_neg (Nat.not_lt.mpr hlate)]
  rfl

theorem crossing_reanchored (hpending : s.timebase.reanchorPending = true) :
    crossing s = if s.timebase.activePeriod / 2 ≤ s.timebase.tickCounter
      then cycleEnd .reanchor { s with timebase := s.timebase.reanchored }
      else sampleAll { s with timebase := s.timebase.reanchored } := if_pos hpending

end Edge

/-- The phases after the edge's own part, against the phases before it. -/
theorem watch_markEdge_same (line : Phase) (s : State) :
    (markEdge line s).watch line = { s.watch line with edgeSeen := true } := watch_setWatch_same ..

theorem watch_markEdge_other {line p : Phase} (h : p ≠ line) (s : State) : (markEdge line s).watch p = s.watch p :=
  watch_setWatch_other _ _ h

/-- A cycle end that an edge makes, the edge marked before it or after it (R68; log 3). -/
theorem edge_ends {how : CycleEnd} (hhow : how ≠ .synthetic) {line : Phase} {sag : PhaseSet} {t : Timebase} {s u : State}
    (hmark : t.markCounter = s.timebase.markCounter) (hwaiting : t.markWaiting = s.timebase.markWaiting)
    (hu : u = dropChoice (cycleEnd how { markEdge line (setSagLines sag s) with timebase := t })
      ∨ u = dropChoice (markEdge line (cycleEnd how { setSagLines sag s with timebase := t }))) :
    s.CountsCycleEnd u
      ∧ s.CountsPhases line
        (fun p w x => (s.watch p).CountedFrom (sag.get p) s.management.active.sagFilter w x) u
      ∧ (∃ q pending, u.timebase = (State.countedTimebase { s with timebase := t }).atCycleEnd how
            s.management.active.flywheelLimit q pending
          ∧ (t.referenceRun < 2 → q = t.reference))
      ∧ u.management = s.management ∧ u.straps = s.straps ∧ u.tables.active = s.tables.active
      ∧ u.tables.shadow = s.tables.shadow ∧ u.tables.addressMap = s.tables.addressMap
      ∧ u.ports.counters = s.ports.counters := by
  have hcounted := fun p (w : PhaseWatch) => countedFrom_atCycleEnd hhow s.order (sag.get p) s w
  rcases hu with rfl | rfl
  · obtain ⟨counts, timebase, phases, management, straps, active, shadow, addressMap, counters⟩ :=
      cycleEnd_ends how { markEdge line (setSagLines sag s) with timebase := t }
    have hstands := counts.congr (s := s) rfl rfl (fun _ => rfl) rfl hmark hwaiting.trans
    refine ⟨{ hstands with }, ⟨fun p hp => ?_, .inl ?_⟩, timebase, management, straps, active, shadow, addressMap,
      counters⟩
    · have e := phases p
      rw [show State.watch { markEdge line (setSagLines sag s) with timebase := t } p = s.watch p from
        watch_markEdge_other hp s] at e
      exact e ▸ hcounted p (s.watch p)
    · have e := phases line
      rw [show State.watch { markEdge line (setSagLines sag s) with timebase := t } line
        = { s.watch line with edgeSeen := true } from watch_markEdge_same line s] at e
      exact e ▸ hcounted line { s.watch line with edgeSeen := true }
  · obtain ⟨counts, timebase, phases, management, straps, active, shadow, addressMap, counters⟩ :=
      cycleEnd_ends how { setSagLines sag s with timebase := t }
    have hstands := counts.congr (s := s) rfl rfl (fun _ => rfl) rfl hmark hwaiting.trans
    refine ⟨{ hstands with }, ⟨fun p hp => ?_, .inr ?_⟩, timebase, management, straps, active, shadow, addressMap,
      counters⟩
    · have e := (watch_markEdge_other hp _).trans (phases p)
      exact e ▸ hcounted p (s.watch p)
    · have e := watch_markEdge_same line (cycleEnd how { setSagLines sag s with timebase := t })
      rw [phases line] at e
      exact e ▸ (hcounted line (s.watch line)).mark

/-- An early re-anchor: sample point 0 alone, the edge marked before it or after it (R54, R66). -/
theorem edge_samples {line : Phase} {sag : PhaseSet} {t : Timebase} {s u : State}
    (hu : u = dropChoice (sampleAll { markEdge line (setSagLines sag s) with timebase := t })
      ∨ u = dropChoice (markEdge line (sampleAll { setSagLines sag s with timebase := t }))) :
    u.timebase = t ∧ u.ports.counters = s.ports.counters
      ∧ (u.tables.budgetCounter = s.tables.budgetCounter ∧ u.intake = s.intake)
      ∧ (u.watch line).SameRuns { s.watch line with edgeSeen := true }
      ∧ (∀ p, p ≠ line → (u.watch p).SameRuns (s.watch p))
      ∧ u.management = s.management ∧ u.straps = s.straps ∧ u.tables.active = s.tables.active
      ∧ u.tables.shadow = s.tables.shadow ∧ u.tables.addressMap = s.tables.addressMap := by
  have hsampled : ∀ (x : State) p, ((sampleAll x).watch p).SameRuns (x.watch p) := fun x p => by
    rw [watch_sampleAll]
    exact PhaseWatch.sampled_sameRuns ..
  rcases hu with rfl | rfl
  · have h := sampleAll_leaves { markEdge line (setSagLines sag s) with timebase := t }
    have hruns := hsampled { markEdge line (setSagLines sag s) with timebase := t }
    refine ⟨h.timebase, h.counters, ⟨h.budgetCounter, h.intake⟩, ?_, fun p hp => ?_, h.management, h.straps, h.active,
      h.shadow, h.addressMap⟩
    · have e := hruns line
      rw [show State.watch { markEdge line (setSagLines sag s) with timebase := t } line
        = { s.watch line with edgeSeen := true } from watch_markEdge_same line s] at e
      exact e
    · have e := hruns p
      rw [show State.watch { markEdge line (setSagLines sag s) with timebase := t } p = s.watch p from
        watch_markEdge_other hp s] at e
      exact e
  · have h := sampleAll_leaves { setSagLines sag s with timebase := t }
    have hruns := hsampled { setSagLines sag s with timebase := t }
    refine ⟨h.timebase, h.counters, ⟨h.budgetCounter, h.intake⟩, ?_, fun p hp => ?_, h.management, h.straps, h.active,
      h.shadow, h.addressMap⟩
    · refine Eq.subst (motive := fun w => PhaseWatch.SameRuns w _) (watch_markEdge_same line _).symm ?_
      exact (hruns line).mark
    · refine Eq.subst (motive := fun w => PhaseWatch.SameRuns w _) (watch_markEdge_other hp _).symm ?_
      exact hruns p

theorem four_le_raise {n : Nat} : 4 ≤ raise 4 n ↔ 3 ≤ n := by
  unfold raise
  split <;> omega

/-- Settles O10: each crossing is a cycle end whose edge is marked before or after (`edge_ends`), or a sample alone. -/
theorem edgesAreJudged : Obligations.EdgesAreJudged := by
  intro line sag s hhold counted
  have hexec := exec_zeroCrossingEdge hhold line sag
  refine ⟨fun href hpending hearly => ?_, fun hother => ?_, fun href => ⟨fun hpending hlate => ?_, fun hpending => ?_⟩⟩
  · rw [hexec]
    rcases edge_reference (s := setSagLines sag s) href with e | e
    · rw [e, crossing_glitch (s := markEdge line (setSagLines sag s)) hpending hearly]
      rfl
    · rw [e, crossing_glitch (s := setSagLines sag s) hpending hearly]
      rfl
  · rw [hexec, edge_other (s := setSagLines sag s) hother]
    rfl
  · have hedge := edge_reference (s := setSagLines sag s) href
    rw [crossing_accepted (s := markEdge line (setSagLines sag s)) hpending hlate,
      crossing_accepted (s := setSagLines sag s) hpending hlate] at hedge
    obtain ⟨counts, phases, ⟨q, pending, timebase, -⟩, management, straps, active, shadow, addressMap, -⟩ :=
      edge_ends (t := s.timebase.accepted) (how := .accepted) nofun rfl rfl hedge
    refine ⟨_, hexec, ?_⟩
    rw [timebase]
    refine ⟨rfl, rfl, rfl, rfl, rfl, rfl, rfl, hpending, ?_, counts, phases, management, straps, active, shadow,
      addressMap⟩
    exact if_congr four_le_raise rfl rfl
  · have hedge := edge_reference (s := setSagLines sag s) href
    rw [crossing_reanchored (s := markEdge line (setSagLines sag s)) hpending,
      crossing_reanchored (s := setSagLines sag s) hpending] at hedge
    refine ⟨_, hexec, ?_⟩
    by_cases hlate : s.timebase.activePeriod / 2 ≤ s.timebase.tickCounter
    · rw [if_pos (show (markEdge line (setSagLines sag s)).timebase.activePeriod / 2
          ≤ (markEdge line (setSagLines sag s)).timebase.tickCounter from hlate),
        if_pos (show (setSagLines sag s).timebase.activePeriod / 2 ≤ (setSagLines sag s).timebase.tickCounter from
          hlate)] at hedge
      obtain ⟨counts, phases, ⟨q, pending, timebase, -⟩, management, straps, active, shadow, addressMap, counters⟩ :=
        edge_ends (t := s.timebase.reanchored) (how := .reanchor) nofun rfl rfl hedge
      rw [timebase, if_pos hlate]
      exact ⟨rfl, rfl, rfl, rfl, rfl, rfl, rfl, rfl, rfl, congrArg Counters.glitches counters,
        fun _ => ⟨counts, phases⟩, fun h => absurd hlate (Nat.not_le.mpr h), management, straps, active, shadow,
        addressMap⟩
    · rw [if_neg (show ¬ (markEdge line (setSagLines sag s)).timebase.activePeriod / 2
          ≤ (markEdge line (setSagLines sag s)).timebase.tickCounter from hlate),
        if_neg (show ¬ (setSagLines sag s).timebase.activePeriod / 2 ≤ (setSagLines sag s).timebase.tickCounter from
          hlate)] at hedge
      obtain ⟨timebase, counters, ⟨budget, intake⟩, own, others, management, straps, active, shadow, addressMap⟩ :=
        edge_samples (t := s.timebase.reanchored) hedge
      rw [timebase, if_neg hlate]
      exact ⟨rfl, rfl, rfl, rfl, rfl, rfl, rfl, rfl, rfl, congrArg Counters.glitches counters,
        fun h => absurd h hlate, fun _ => ⟨budget, intake, rfl, rfl, own, others⟩, management, straps, active, shadow,
        addressMap⟩

end Sys2Proof.Machine

namespace Sys2Proof.Machine

/-! ### The end of an event and the marks (R60) -/

/-- A mark that does not wait does not begin to. -/
def State.StaysUnmarked (s t : State) : Prop := s.timebase.markWaiting = false → t.timebase.markWaiting = false

theorem State.StaysUnmarked.of_eq {s t : State} (h : t.timebase = s.timebase) : s.StaysUnmarked t := fun hs => by
  rw [h]
  exact hs

theorem modifyRecord_timebase (i : Nat) (f : Consumer → Consumer) (s : State) :
    (s.modifyRecord i f).timebase = s.timebase := by
  obtain ⟨l, -, e⟩ := modifyRecord_eq i f s
  rw [e]

theorem makeEntry_timebase (o : Origin) (i : Nat) (q : Phase) (s : State) :
    (makeEntry o i q s).timebase = s.timebase := by
  unfold makeEntry
  split
  · rename_i r _
    obtain ⟨sums, e⟩ := recontribute_sums i
      (fun s' => (appendEntry (s.newEntry o i r.assigned q) s').modifyRecord i fun r => { r with state := .ordered }) s
    refine (delist_leaves i _).timebase.trans ?_
    rw [e]
    exact modifyRecord_timebase ..
  · rfl

theorem draw_timebase (i : Nat) (s : State) : (draw i s).timebase = s.timebase := by
  unfold draw
  split
  · rfl
  · split
    · exact (closeTest_leaves _).timebase
    · exact (makeEntry_timebase ..).trans (modifyRecord_timebase ..)

theorem draws_timebase (s : State) : (draws s).timebase = s.timebase := by
  have hdraws : ∀ n (t : State), (drawUpTo n t).timebase = t.timebase := fun n => by
    induction n with
    | zero => exact fun _ => rfl
    | succ n ih =>
      intro t
      unfold drawUpTo
      split
      · split
        · exact (ih _).trans (draw_timebase ..)
        · rfl
      · rfl
  exact hdraws _ s

theorem fill_timebase (s : State) : (fill s).timebase = s.timebase :=
  foldl_keeps (P := fun t => t.timebase = s.timebase) (f := enqueueQuery)
    (fun _ i h => (modifyRecord_timebase i (setQueryStage .queued) _).trans h) _ rfl

theorem grantForwardDown_timebase (s : State) : (grantForwardDown s).timebase = s.timebase := by
  unfold grantForwardDown
  split
  · rfl
  · rfl

theorem grantBelowOrder_timebase (s : State) : (grantBelowOrder s).timebase = s.timebase := by
  unfold grantBelowOrder
  split
  · rfl
  · exact grantForwardDown_timebase s

theorem grantOrder_timebase (s : State) : (grantOrder s).timebase = s.timebase := by
  have hwithdrawn : (withdrawTooNear s).timebase = s.timebase :=
    (State.LeavesPhases.foldl (fun t e => withdraw_leaves reasonWithdrawn e t) _ s).timebase
  unfold grantOrder
  dsimp only
  split
  · exact hwithdrawn
  · exact (grantBelowOrder_timebase _).trans hwithdrawn

theorem grantDown_unmarked (s : State) : s.StaysUnmarked (grantDown s) := by
  unfold grantDown
  split
  · unfold chooseDown
    split
    · exact fun _ => rfl
    · split
      · exact .of_eq (grantForwardDown_timebase s)
      · split
        · exact .of_eq (grantOrder_timebase s)
        · exact .of_eq (grantBelowOrder_timebase s)
  · exact id

theorem grantUp_timebase (s : State) : (grantUp s).timebase = s.timebase := by
  have hforward : ∀ t : State, (grantForwardUp t).timebase = t.timebase := fun t => by
    unfold grantForwardUp
    split
    · rfl
    · rfl
  have hnotice : (grantNotice s).timebase = s.timebase := by
    unfold grantNotice
    split
    · rfl
    · exact hforward s
  unfold grantUp
  split
  · unfold chooseUp
    split
    · exact hforward s
    · split
      · rfl
      · exact hnotice
  · rfl

/-- The end of an event makes no mark wait. -/
theorem finish_unmarked (s : State) : s.StaysUnmarked (finish s) := fun hs => by
  have hfilled : (fill (draws s)).timebase = s.timebase := (fill_timebase _).trans (draws_timebase s)
  have hfirst := grantDown_unmarked _ (State.StaysUnmarked.of_eq hfilled hs)
  have hagain := grantDown_unmarked _ (State.StaysUnmarked.of_eq (draws_timebase _) hfirst)
  exact State.StaysUnmarked.of_eq (grantUp_timebase _) hagain

/-! ### The samples on the way to the late limit (R66) -/

/-- What sample events leave: the counts, the runs of the phases, and the timebase but for the tick counter and a mark
that is sent. -/
structure State.Sampled (s t : State) : Prop extends State.LeavesCounts s t where
  timebase : { t.timebase with tickCounter := s.timebase.tickCounter, markWaiting := s.timebase.markWaiting } = s.timebase
  unmarked : s.StaysUnmarked t
  runs : ∀ p, (t.watch p).SameRuns (s.watch p)

theorem State.Sampled.refl (s : State) : s.Sampled s := ⟨.refl s, rfl, id, fun _ => .refl _⟩

theorem State.Sampled.trans {s t u : State} (h : s.Sampled t) (k : t.Sampled u) : s.Sampled u where
  toLeavesCounts := h.toLeavesCounts.trans k.toLeavesCounts
  timebase := by rw [← h.timebase, ← k.timebase]
  unmarked hs := k.unmarked (h.unmarked hs)
  runs p := (k.runs p).trans (h.runs p)

theorem setTick_sampled (n : Nat) (s : State) : s.Sampled (setTick n s) :=
  ⟨{ State.LeavesCounts.refl s with }, rfl, id, fun _ => .refl _⟩

theorem sampleAll_sampled (s : State) : s.Sampled (sampleAll s) := by
  have h := sampleAll_leaves s
  refine ⟨h.toLeavesCounts, ?_, .of_eq h.timebase, fun p => ?_⟩
  · rw [h.timebase]
  · rw [watch_sampleAll]
    exact PhaseWatch.sampled_sameRuns ..

theorem dropChoice_sampled (s : State) : s.Sampled (dropChoice s) :=
  ⟨{ State.LeavesCounts.refl s with }, rfl, id, fun _ => .refl _⟩

theorem finish_sampled (s : State) : s.Sampled (finish s) := by
  have h := finish_keeps s
  refine ⟨h.leavesCounts, ?_, finish_unmarked s, fun p => ?_⟩
  · have e := h.timebase
    have htick : (finish s).timebase.tickCounter = s.timebase.tickCounter := (congrArg Timebase.tickCounter e :)
    rw [← htick]
    exact e
  · rw [State.watch, h.supervision]
    exact .refl _

theorem samplesUpTo_sampled (fuel tick : Nat) (s : State) : s.Sampled (samplesUpTo fuel tick s) := by
  induction fuel generalizing s with
  | zero => exact .refl s
  | succ fuel ih =>
    unfold samplesUpTo
    split
    · split
      · exact ((((setTick_sampled _ s).trans (sampleAll_sampled _)).trans (dropChoice_sampled _)).trans
          (finish_sampled _)).trans (ih _)
      · exact .refl s
    · exact .refl s

theorem samplesUpTo_of_none {s : State} (h : s.timebase.nextSample = none) (fuel tick : Nat) :
    samplesUpTo fuel tick s = s := by
  cases fuel with
  | zero => rfl
  | succ fuel =>
    unfold samplesUpTo
    rw [h]

/-! ### Synthetic cycle ends (R52, R55, R57) -/

/-- The timebase as the late limit sets it, the tick counter standing there (R52). -/
def Timebase.synthetic (limit : Nat) (t : Timebase) : Timebase :=
  { t with tickCounter := limit - t.activePeriod, syntheticRun := raise 255 t.syntheticRun,
           referenceRun := t.referenceRun + 1, acceptedRun := 0 }

/-- The state that a synthetic cycle end starts from: the samples before it taken. -/
def State.atLateLimit (s : State) : State :=
  { samplesUpTo Config.samplePoints (s.lateLimit - 1) s with
    timebase := (samplesUpTo Config.samplePoints (s.lateLimit - 1) s).timebase.synthetic s.lateLimit }

theorem exec_syntheticCycleEnd {s : State} (h : s.hold = none) :
    exec .syntheticCycleEnd s = .next (finish (dropChoice (cycleEnd .synthetic s.atLateLimit))) :=
  congrArg Host.Outcome.next (whileRunning_running lateLimitEvent s h)

/-- The timebase after the samples: the tick counter has run, and a mark may have been sent. -/
theorem State.Sampled.timebase_eq {s t : State} (h : s.Sampled t) :
    ∃ n w, t.timebase = { s.timebase with tickCounter := n, markWaiting := w } :=
  ⟨t.timebase.tickCounter, t.timebase.markWaiting, by rw [← h.timebase]⟩

/-- What the late limit sets of the timebase, besides its runs. -/
theorem atLateLimit_timebase (s : State) :
    ∃ w, s.atLateLimit.timebase = { s.timebase.synthetic s.lateLimit with markWaiting := w } := by
  obtain ⟨n, w, e⟩ := (samplesUpTo_sampled Config.samplePoints (s.lateLimit - 1) s).timebase_eq
  refine ⟨w, ?_⟩
  unfold State.atLateLimit
  dsimp only
  rw [e]
  rfl

/-- The timebase after a synthetic cycle end (R52, R55, R57). -/
theorem syntheticEnd_timebase (s : State) :
    ∃ q pending m w, (cycleEnd .synthetic s.atLateLimit).timebase
        = Timebase.atCycleEnd .synthetic s.management.active.flywheelLimit q pending
          { s.timebase.synthetic s.lateLimit with
            cycleCount := s.timebase.cycleCount + 1, markCounter := m, markWaiting := w }
      ∧ (s.timebase.referenceRun = 0 → q = s.timebase.reference) := by
  obtain ⟨q, pending, timebase, reference⟩ := (cycleEnd_ends .synthetic s.atLateLimit).timebase
  obtain ⟨w, hstart⟩ := atLateLimit_timebase s
  have hpolicy : s.atLateLimit.management = s.management :=
    (samplesUpTo_sampled Config.samplePoints (s.lateLimit - 1) s).management
  unfold State.countedTimebase at timebase
  rw [hstart] at timebase reference
  rw [hpolicy] at timebase
  exact ⟨q, pending, _, _, timebase, fun hrun =>
    reference (show s.timebase.referenceRun + 1 < 2 by omega)⟩

/-- Settles O11: the samples before the late limit leave the counts (`samplesUpTo_sampled`), then the cycle ends. -/
theorem syntheticEndDatesTheCycle : Obligations.SyntheticEndDatesTheCycle := by
  intro s hhold
  have hsampled := samplesUpTo_sampled Config.samplePoints (s.lateLimit - 1) s
  obtain ⟨counts, -, phases, management, straps, active, shadow, addressMap, -⟩ :=
    cycleEnd_ends .synthetic s.atLateLimit
  obtain ⟨q, pending, m, w, timebase, reference⟩ := syntheticEnd_timebase s
  have hwatch : ∀ p, (cycleEnd .synthetic s.atLateLimit).watch p
      = s.atLateLimit.watchAtCycleEnd ((samplesUpTo Config.samplePoints (s.lateLimit - 1) s).watch p) := fun p =>
    (phases p).trans (atCycleEnd_synthetic ..)
  have hmark : s.atLateLimit.timebase.markCounter = s.timebase.markCounter := by
    obtain ⟨w, hstart⟩ := atLateLimit_timebase s
    rw [hstart]
    rfl
  have hcounts := counts.congr (s := s) hsampled.management hsampled.budgetCounter hsampled.moves hsampled.intake hmark
    hsampled.unmarked
  have hclock : (dropChoice (cycleEnd .synthetic s.atLateLimit)).timebase = _ := timebase
  refine ⟨_, exec_syntheticCycleEnd hhold, ?_⟩
  rw [hclock]
  refine ⟨rfl, rfl, rfl, rfl, rfl, ?_, reference, fun hsync => ?_, fun hsync => ?_, fun hsync => ?_,
    { hcounts with }, fun p => ?_, fun hnone p => ?_, management.trans hsampled.management,
    straps.trans hsampled.straps, active.trans hsampled.active, shadow.trans hsampled.shadow,
    addressMap.trans hsampled.addressMap⟩
  · change (if 2 ≤ s.timebase.referenceRun + 1 then 0 else s.timebase.referenceRun + 1) = _
    split <;> split <;> omega
  · simp only [Timebase.atCycleEnd, Timebase.synthetic, hsync]
  · simp only [Timebase.atCycleEnd, Timebase.synthetic, hsync]
  · simp only [Timebase.atCycleEnd, Timebase.synthetic, hsync]
  · refine Eq.subst (motive := fun w => PhaseWatch.SameRuns w _) (hwatch p).symm ?_
    exact (hsampled.runs p).counted
  · refine (hwatch p).trans ?_
    have hsame := samplesUpTo_of_none hnone Config.samplePoints (s.lateLimit - 1)
    have hpolicy : s.atLateLimit.management = s.management := hsampled.management
    rw [hsame]
    unfold State.watchAtCycleEnd
    rw [hpolicy]

end Sys2Proof.Machine

namespace Sys2Proof.Machine

/-! ## Frames from downstream that pass through the part (R166, R169) -/

/-- The two bytes of a 2-byte field hold its number (R161). -/
theorem ofNat_beNat_be2 (x : Word16) : BitVec.ofNat 16 (beNat (be2 x.toNat)) = x := by
  refine BitVec.eq_of_toNat_eq ?_
  have hx := x.isLt
  simp only [beNat, be2, byte, List.foldl_cons, List.foldl_nil, BitVec.toNat_ofNat]
  omega

/-- A sound LOAD READING as it comes in (R165). -/
def readingFrame (dest src tag : Byte) (reading : Word16) (supply : Bool) (interval : Byte) : Frame :=
  goodFrame dest src kindLoadReading tag (be2 reading.toNat ++ [flagByte supply, interval])

theorem readingFrame_fits (dest src tag : Byte) (reading : Word16) (supply : Bool) (interval : Byte) :
    (readingFrame dest src tag reading supply interval).payload.length ≤ 48 := show 4 ≤ 48 by decide

theorem readingOf_readingFrame (dest src tag : Byte) (reading : Word16) (supply : Bool) (interval : Byte) :
    readingOf (readingFrame dest src tag reading supply interval) = some (reading, supply) := by
  have hreading := ofNat_beNat_be2 reading
  have hsupply : boolOfCode (flagByte supply).toNat = some supply := by cases supply <;> rfl
  change (boolOfCode (flagByte supply).toNat).map (fun x => (BitVec.ofNat 16 (beNat (be2 reading.toNat)), x)) = _
  rw [hreading, hsupply, Option.map_some]

/-- A LOAD READING is malformed by its length or by its supply field (R166). -/
theorem readingOf_eq_none {f : Frame}
    (h : f.payload.length ≠ 4 ∨ ∃ supply, f.payload[2]? = some supply ∧ 1 < supply.toNat) : readingOf f = none := by
  unfold readingOf
  split
  · rename_i high low supply interval hpayload
    rw [hpayload] at h
    rcases h with hlength | ⟨b, hb, hundefined⟩
    · exact absurd rfl hlength
    · cases hb
      rw [(boolOfCode_spec supply).1 hundefined]
      rfl
  · rfl

/-- A whole frame from downstream is classified by the running part in one event (R169). -/
theorem exec_downstreamFrameArrival {s : State} (h : s.hold = none) (dest src kind tag : Byte) (payload : List Byte) :
    exec (.downstreamFrameArrival dest src kind tag payload) s
      = .next (finish (classifyDown (goodFrame dest src kind tag payload) s.heardDown)) :=
  congrArg Host.Outcome.next (whileRunning_running _ _ h)

theorem classifyDown_through {f : Frame} {s : State} (hlen : f.payload.length ≤ 48) (hdest : f.dest ≠ s.ownAddress) :
    classifyDown f s = passUp f s := (if_neg (Nat.not_lt.mpr hlen)).trans (if_neg hdest)

/-- A sound reading of a mapped source goes to Measurement Intake (R169). -/
theorem passUp_reading {f : Frame} {s : State} {i : Nat} {reading : Word16} {supply : Bool}
    (hkind : f.kind = kindLoadReading) (hm : s.mapped f.src = some i) (hreading : readingOf f = some (reading, supply)) :
    passUp f s = takeReading i f reading supply s := by
  unfold passUp
  rw [if_pos hkind]
  simp only [hm, hreading]

/-- Any other frame goes upstream (R169). -/
theorem passUp_other {f : Frame} {s : State}
    (h : f.kind ≠ kindLoadReading ∨ s.mapped f.src = none ∨ readingOf f = none) : passUp f s = forwardUp f s := by
  unfold passUp
  split
  · rename_i hkind
    split
    · rename_i i reading supply hm hreading
      rcases h with h | h | h
      · exact absurd hkind h
      · rw [hm] at h
        cases h
      · rw [hreading] at h
        cases h
    · rfl
  · rfl

section Own
variable {src tag : Byte} {payload : List Byte} {s : State}

/-- An answer, a report or a phase answer of another length is stale (R116, R166). -/
theorem takeTransferAnswer_length (h : payload.length ≠ 2) : takeTransferAnswer src tag payload s = countStaleFrame s := by
  unfold takeTransferAnswer
  split
  · exact absurd rfl h
  · rfl

theorem takeTransferReport_length (h : payload.length ≠ 3) : takeTransferReport src tag payload s = countStaleFrame s := by
  unfold takeTransferReport
  split
  · exact absurd rfl h
  · rfl

theorem takePhaseAnswer_length (h : payload.length ≠ 2) : takePhaseAnswer src tag payload s = countStaleFrame s := by
  unfold takePhaseAnswer
  split
  · exact absurd rfl h
  · rfl

theorem takeOwn_stale {f : Frame}
    (h : (f.kind = 0x31 ∨ f.kind = 0x35) ∧ f.payload.length ≠ 2 ∨ f.kind = 0x32 ∧ f.payload.length ≠ 3) :
    takeOwn f s = countStaleFrame s := by
  unfold takeOwn
  rcases h with ⟨hkind | hkind, hlength⟩ | ⟨hkind, hlength⟩
  · rw [hkind]
    exact takeTransferAnswer_length hlength
  · rw [hkind]
    exact takePhaseAnswer_length hlength
  · rw [hkind]
    exact takeTransferReport_length hlength

/-- A frame to the own address of a kind that is none of the three is misaddressed (R169). -/
theorem takeOwn_misaddressed {f : Frame} (hanswer : f.kind ≠ 0x31) (hreport : f.kind ≠ 0x32) (hphase : f.kind ≠ 0x35) :
    takeOwn f s = countMisaddressed s := (if_neg hanswer).trans ((if_neg hreport).trans (if_neg hphase))

end Own

/-- Settles O42: `classifyDown` on the own address, then on any other. -/
theorem framesFromDownstream : Obligations.FramesFromDownstream := by
  intro dest src kind tag payload s hhold hlen f h arrival
  have hown : dest = s.ownAddress → arrival = .next (finish (takeOwn f h)) := fun hdest => by
    rw [← classifyDown_own (f := f) (s := h) hlen hdest]
    exact exec_downstreamFrameArrival hhold ..
  refine ⟨fun hdest hanswer hreport hphase => ?_, ?_, ?_, ?_, fun hdest hstale => ?_, ?_, fun hdest hother => ?_⟩
  · rw [hown hdest, takeOwn_misaddressed (f := f) hanswer hreport hphase]
    rfl
  · rintro a b rfl rfl rfl
    rw [exec_transferAnswer hhold]
    exact hown rfl
  · rintro a b c rfl rfl rfl
    rw [exec_transferReport hhold]
    exact hown rfl
  · rintro a b rfl rfl rfl
    rw [exec_phaseAnswer hhold]
    exact hown rfl
  · rw [hown hdest, takeOwn_stale (f := f) hstale]
    rfl
  · rintro reading supply interval rfl rfl
    rfl
  · have hpass : passUp f h = forwardUp f h := passUp_other <| by
      rcases hother with hkind | hm | hbad
      · exact .inl hkind
      · exact .inr (.inl hm)
      · exact .inr (.inr (readingOf_eq_none hbad))
    have hclass : classifyDown f h = forwardUp f h := (classifyDown_through hlen hdest).trans hpass
    exact (exec_downstreamFrameArrival hhold ..).trans (congrArg (fun t => Host.Outcome.next (finish t)) hclass)

end Sys2Proof.Machine

namespace Sys2Proof.Machine

/-! ## A reading of a record in service (R28, R30, R31) -/

/-- The state after the sample of a reading on a record (R30, R31). -/
def sampleTaken (i : Nat) (r : Consumer) (x : Word16) (supply : Bool) (s : State) : State :=
  s.setRecord i (some (sampled s.management.active.divider s.intake.secondOpen supply (clampLoad x.toInt) r))

/-- A reading of a record that is not SILENT: its sample, then the frame forwarded as the divider decides. -/
theorem takeReading_inService {i : Nat} {s : State} {r : Consumer} (hr : s.record i = some r) (hst : r.state ≠ .silent)
    (f : Frame) (x : Word16) (supply : Bool) :
    takeReading i f x supply s
      = if forwarded s.management.active.divider r.forward then forwardUp f (sampleTaken i r x supply s)
        else sampleTaken i r x supply s := by
  have hservice : ¬ s.isSilent i = true := by
    unfold State.isSilent
    rw [hr]
    exact fun h => hst (eq_of_beq h)
  unfold takeReading
  rw [if_neg hservice]
  dsimp only
  rw [hr, modifyRecord_some hr]
  rfl

/-- A sound LOAD READING of a mapped source, with the frame and the reading that Measurement Intake takes (R169). -/
theorem exec_loadReading_taken {s : State} (h : s.hold = none) {dest src : Byte} (tag interval : Byte)
    (reading : Word16) (supply : Bool) (hdest : dest ≠ s.ownAddress) {i : Nat} (hm : s.mapped src = some i) :
    exec (.loadReading dest src tag reading (flagByte supply) interval) s
      = .next (finish (takeReading i (readingFrame dest src tag reading supply interval) reading supply s.heardDown)) := by
  have hpass : passUp (readingFrame dest src tag reading supply interval) s.heardDown
      = takeReading i (readingFrame dest src tag reading supply interval) reading supply s.heardDown :=
    passUp_reading rfl hm (readingOf_readingFrame ..)
  rw [← hpass, ← classifyDown_through (s := s.heardDown) (readingFrame_fits ..) hdest]
  exact exec_downstreamFrameArrival h ..

/-- Settles O18: the classification hands the reading over, and `sampled` is the record that the statement writes out. -/
theorem readingTaken : Obligations.ReadingTaken := by
  intro dest src tag interval reading supply i r s hhold hdest hm hr hst n x bank forward r' s' f
  have hbank : ∀ b, Bank.takeReading supply (clampLoad reading.toInt) b = bank b := fun b => by
    simp only [Bank.takeReading, Bool.and_eq_true, decide_eq_true_eq]
    rfl
  have hrecord : sampled n s.intake.secondOpen supply (clampLoad reading.toInt) r = r' := by
    cases hopen : s.intake.secondOpen <;> simp only [sampled, changeOpenBank, hbank, r', hopen] <;> rfl
  have hsample : sampleTaken i r reading supply s.heardDown = s' :=
    congrArg (fun c => s.heardDown.setRecord i (some c)) hrecord
  have htaken : takeReading i f reading supply s.heardDown = if forwarded n r.forward then forwardUp f s' else s' := by
    rw [← hsample]
    exact takeReading_inService (s := s.heardDown) hr hst ..
  have hforwarded : forwarded n r.forward = true ↔ ¬ (n = 0 ∨ r.forward ≠ 0) := by
    simp [forwarded, not_or]
  refine (exec_loadReading_taken hhold tag interval reading supply hdest hm).trans
    (congrArg (fun t => Host.Outcome.next (finish t)) (htaken.trans ?_))
  by_cases hstays : n = 0 ∨ r.forward ≠ 0
  · rw [if_pos hstays, if_neg fun h => hforwarded.mp h hstays]
  · rw [if_neg hstays, if_pos (hforwarded.mpr hstays)]
    rfl

end Sys2Proof.Machine

namespace Sys2Proof.Machine

/-! ## Pass triggers (R82) -/

theorem exec_passTrigger {s : State} (h : s.hold = none) : exec .passTrigger s = .next (finish (triggerIfDue s)) :=
  next_whileRunning h triggerIfDue

theorem triggerIfDue_due {s : State} (h : s.balancer.remaining = 0) : triggerIfDue s = passTrigger s := if_pos h

theorem triggerIfDue_early {s : State} (h : s.balancer.remaining ≠ 0) : triggerIfDue s = s := if_neg h

/-! ### The adoption before the pass (R81) -/

/-- An adoption of another tree leaves right sums (R84). -/
theorem adopt_sumsRight {s : State} (hne : s.tables.shadow ≠ s.tables.active) (htree : TreeRule s.tables.shadow) :
    (adopt s).SumsRight := by
  obtain ⟨sums, rescue, notices, lost, -, hnew, e⟩ := adopt_fields s
  rw [e]
  exact State.SumsRight.congr (s := rebuild (driveSelectLines (takeShadows s))) rfl (hnew hne) rfl (fun _ => rfl)
    (rebuild_sumsRight htree)

theorem rescueActive_congr {s t : State} (hlist : t.rescue.list = s.rescue.list) (hscheduler : t.scheduler = s.scheduler) :
    t.rescueActive = s.rescueActive := by
  rw [State.rescueActive, State.rescueEntries, hlist, hscheduler]
  rfl

theorem adopted_rescueActive (s : State) : (adopted s).rescueActive = s.rescueActive := by
  obtain ⟨sums, -, -, e⟩ := adopted_eq s
  rw [e]
  rfl

/-- An adoption that keeps rescue enabled keeps it active (R149). -/
theorem adopt_rescueActive_of_enabled {s : State} (h : s.management.shadow.rescueEnable = true) :
    (adopt s).rescueActive = s.rescueActive := by
  have hstays : (adopted s).rescueEnabled = true := by
    obtain ⟨sums, -, -, e⟩ := adopted_eq s
    rw [e]
    exact h
  rw [adopt_eq, hstays, Bool.not_true, Bool.and_false, if_neg Bool.false_ne_true, adopted_rescueActive]

theorem list_of_inactive {s : State} (h : s.rescueActive = false) : s.rescue.list = [] := by
  unfold State.rescueActive at h
  rw [Bool.or_eq_false_iff] at h
  simpa using h.1

/-- With no rescue active an adoption that disables it finds nothing to remove (R149). -/
theorem adopt_rescueActive_of_inactive {s : State} (h : s.rescueActive = false) : (adopt s).rescueActive = false := by
  have hinactive : (adopted s).rescueActive = false := (adopted_rescueActive s).trans h
  rw [adopt_eq]
  split
  · unfold rescueDisabled
    split
    · rw [list_of_inactive hinactive]
      exact (rescueActive_congr (closeTest_list _) (closeTest_scheduler _)).trans hinactive
    · exact hinactive
  · exact hinactive

/-! ### Triggers that start no pass -/

/-- What a trigger that starts no pass counts, by the balancer state (R82). -/
def triggerCounts : BalancerState → Counters → Counters
  | .idle => fun c => { c with suppressed := bump c.suppressed }
  | .evaluating _ => fun c => { c with overruns := bump c.overruns }
  | .held => id
  | .stopped => id

theorem adopt_balancerState (s : State) : (adopt s).balancer.state = s.balancer.state := by
  obtain ⟨sums, rescue, notices, lost, -, -, e⟩ := adopt_fields s
  rw [e]
  rfl

theorem adopt_synced (s : State) : (adopt s).synced = s.synced := by
  obtain ⟨sums, rescue, notices, lost, -, -, e⟩ := adopt_fields s
  rw [e]
  rfl

/-- A trigger in another state than IDLE, or suppressed in it, is counted after its adoption (R82). -/
theorem passTriggered_counts {s : State}
    (h : s.balancer.state = .idle → s.timebase.sync ≠ .synced ∨ (adopt s).rescueActive = true) :
    passTriggered s = (adopt s).count (triggerCounts s.balancer.state) := by
  have hsuppressed : s.balancer.state = .idle → ¬ (!(adopt s).rescueActive && (adopt s).synced) = true := fun hidle => by
    rw [adopt_synced]
    rcases h hidle with hsync | hactive
    · simp [State.synced, hsync]
    · simp [hactive]
  unfold passTriggered
  simp only [adopt_balancerState]
  cases hstate : s.balancer.state with
  | idle => exact if_neg (hsuppressed hstate)
  | evaluating pass => rfl
  | held => rfl
  | stopped => rfl

/-- Settles O23: the adoption by `adopt_fields`, the count by `triggerCounts`. -/
theorem passTriggerCounts : Obligations.PassTriggerCounts := by
  intro s hhold
  refine ⟨fun hearly => ?_, fun hdue hnone => ?_⟩
  · rw [exec_passTrigger hhold, triggerIfDue_early hearly]
  · have hcounted := passTriggered_counts (s := s) fun hidle => (hnone hidle).imp_right fun ⟨hactive, henabled⟩ =>
      (adopt_rescueActive_of_enabled henabled).trans hactive
    refine ⟨passTrigger s, by rw [exec_passTrigger hhold, triggerIfDue_due hdue], ?_⟩
    have hsums := adopt_sumsRight (s := s)
    obtain ⟨sums, rescue, notices, lost, hsame, -, e⟩ := adopt_fields s
    unfold passTrigger
    rw [hcounted]
    rw [e] at hsums ⊢
    refine ⟨rfl, rfl, rfl, rfl, rfl, rfl, hsame, hsums, rfl, rfl, rfl, ?_⟩
    cases s.balancer.state <;> rfl

/-! ### The candidates of a pass (R87, R89, R90) -/

theorem candidateTargets_iff (s : State) (r : Consumer) (q : Phase) :
    (s.candidateTargets r).get q = true ↔ q ≠ r.assigned ∧ r.allowed.get q = true ∧ s.healthy q = true := by
  cases q <;> simp [State.candidateTargets, PerPhase.get, and_assoc]

theorem dwellSatisfied_iff (lastMove : Option Word32) (now : Word32) (dwell : Nat) :
    dwellSatisfied lastMove now dwell = true ↔ ∀ x, lastMove = some x → dwell * 64 ≤ (now - x).toNat := by
  cases lastMove <;> simp [dwellSatisfied]

theorem isCandidate_iff (s : State) (p : LatchedPolicy) (r : Consumer) :
    s.isCandidate p r = true ↔ r.state = .settled ∧ r.lock = false ∧ (segmentAt s.tables.active r.segment).valid = true
      ∧ p.minimumLoad ≤ r.stable.natAbs ∧ r.moveCount < p.budget
      ∧ ∀ x, r.lastMove = some x → p.dwell * 64 ≤ (s.timebase.cycleCount - x).toNat := by
  simp [State.isCandidate, dwellSatisfied_iff, and_assoc]

/-- The candidate that a record gives (R87). -/
def State.candidateOf (s : State) (p : LatchedPolicy) (i : Nat) (r : Consumer) : Option Candidate :=
  if s.isCandidate p r then some ⟨i, r.segment, r.assigned, r.stable, s.candidateTargets r⟩ else none

theorem zipIdx_consumers (s : State) :
    s.tables.consumers.zipIdx = (List.range s.tables.consumers.length).map fun i => (s.record i, i) := by
  refine List.ext_getElem (by simp) fun i h₁ h₂ => ?_
  have hi : i < s.tables.consumers.length := by simpa using h₁
  simp [State.record, List.getElem?_eq_getElem hi]

theorem candidates_eq (s : State) (p : LatchedPolicy) :
    s.candidates p = (List.range s.tables.consumers.length).filterMap fun i => (s.record i).bind (s.candidateOf p i) := by
  rw [State.candidates, zipIdx_consumers, List.filterMap_map]
  refine List.filterMap_congr fun i _ => ?_
  change (match s.record i with | some r => s.candidateOf p i r | none => none) = _
  cases s.record i <;> rfl

theorem mem_candidates_iff (s : State) (p : LatchedPolicy) (c : Candidate) :
    c ∈ s.candidates p ↔ ∃ r, s.record c.consumer = some r ∧ c.segment = r.segment
      ∧ c.fromPhase = r.assigned ∧ c.load = r.stable
      ∧ (∀ q, c.targets.get q = true ↔ q ≠ r.assigned ∧ r.allowed.get q = true ∧ s.healthy q = true)
      ∧ r.state = .settled ∧ r.lock = false ∧ (segmentAt s.tables.active r.segment).valid = true
      ∧ p.minimumLoad ≤ r.stable.natAbs ∧ r.moveCount < p.budget
      ∧ ∀ x, r.lastMove = some x → p.dwell * 64 ≤ (s.timebase.cycleCount - x).toNat := by
  simp only [candidates_eq, List.mem_filterMap, List.mem_range, Option.bind_eq_some_iff, State.candidateOf,
    Option.ite_none_right_eq_some, Option.some.injEq]
  constructor
  · rintro ⟨i, -, r, hr, hcandidate, rfl⟩
    exact ⟨r, hr, rfl, rfl, rfl, candidateTargets_iff s r, (isCandidate_iff s p r).mp hcandidate⟩
  · rintro ⟨r, hr, hsegment, hfrom, hload, htargets, hcandidate⟩
    refine ⟨c.consumer, State.lt_of_record hr, r, hr, (isCandidate_iff s p r).mpr hcandidate, ?_⟩
    have htargets' : c.targets = s.candidateTargets r := PerPhase.ext_get fun q =>
      Bool.eq_iff_iff.mpr ((htargets q).trans (candidateTargets_iff s r q).symm)
    rw [← hsegment, ← hfrom, ← hload, ← htargets']

theorem candidateOf_consumer {s : State} {p : LatchedPolicy} {i : Nat} {c : Candidate}
    (h : (s.record i).bind (s.candidateOf p i) = some c) : c.consumer = i := by
  obtain ⟨r, -, hcandidate⟩ := Option.bind_eq_some_iff.mp h
  unfold State.candidateOf at hcandidate
  split at hcandidate
  · cases hcandidate
    rfl
  · cases hcandidate

/-- The candidates stand by ascending index (R87). -/
theorem candidates_ascending (s : State) (p : LatchedPolicy) :
    ((s.candidates p).map Candidate.consumer).Pairwise (· < ·) := by
  rw [candidates_eq, List.pairwise_map, List.pairwise_filterMap]
  refine List.pairwise_lt_range.imp fun hlt c hc d hd => ?_
  rw [candidateOf_consumer hc, candidateOf_consumer hd]
  exact hlt

/-! ### The pass start (R86 to R90) -/

/-- The live state as a pass begins: adopted, the Fresh loads copied, the Sum Table rebuilt (R81, R86). -/
def passBase (s : State) : State := rebuild (copyFresh (adopt s))

/-- A trigger in IDLE, SYNCED and with no rescue active starts a pass after its adoption (R82). -/
theorem passTriggered_starts {s : State} (hidle : s.balancer.state = .idle) (hinactive : s.rescueActive = false)
    (hsync : s.timebase.sync = .synced) :
    passTriggered s = { passBase s with balancer.state := .evaluating (passBase s).newPass } := by
  have hstarts : (!(adopt s).rescueActive && (adopt s).synced) = true := by
    rw [adopt_rescueActive_of_inactive hinactive, adopt_synced, State.synced, hsync]
    rfl
  unfold passTriggered
  simp only [adopt_balancerState, hidle]
  exact if_pos hstarts

/-- Settles O22: the live state by `adopt_fields`, the working copy by `mem_candidates_iff`. -/
theorem passTriggerStartsAPass : Obligations.PassTriggerStartsAPass := by
  intro s hhold hdue hidle hinactive hsync
  refine ⟨passTrigger s, (passBase s).newPass, by rw [exec_passTrigger hhold, triggerIfDue_due hdue], ?_⟩
  unfold passTrigger
  rw [passTriggered_starts hidle hinactive hsync]
  have hmem := mem_candidates_iff (passBase s) (latch (passBase s).management.active)
  have hascending := candidates_ascending (passBase s) (latch (passBase s).management.active)
  obtain ⟨sums, rescue, notices, lost, -, -, e⟩ := adopt_fields s
  unfold passBase at *
  rw [e] at hmem hascending ⊢
  exact ⟨rfl, rfl, rfl, rfl, rfl, rfl, rfl, rfl, record_mapRecords _ _, fun htree => rebuild_sumsRight htree, rfl, rfl, rfl,
    rfl, rfl, rfl, rfl, rfl, rfl, rfl, rfl, hascending, hmem⟩

end Sys2Proof.Machine

namespace Sys2Proof.Machine

/-! ## Window closes and fold completions (R33, R34, R40) -/

section Commands
variable {s : State} (h : s.hold = none)
include h

theorem exec_windowClose : exec .windowClose s = .next (finish (closeIfDue s)) := next_whileRunning h closeIfDue

theorem exec_foldCompletion : exec .foldCompletion s = .next (finish (completeIfPast s)) :=
  next_whileRunning h completeIfPast

theorem exec_foldOfRecord : exec .foldOfRecord s = .next (finish (foldStep s)) := next_whileRunning h foldStep

end Commands

section Close
variable {s : State}

theorem closeIfDue_due (h : s.intake.fold = .idle) (hw : s.management.active.window ≤ s.intake.windowCounter) :
    closeIfDue s = closeWindow s := by
  unfold closeIfDue
  rw [h]
  exact if_pos hw

theorem closeIfDue_early (h : s.intake.fold = .idle) (hw : s.intake.windowCounter < s.management.active.window) :
    closeIfDue s = s := by
  unfold closeIfDue
  rw [h]
  exact if_neg (Nat.not_le.mpr hw)

theorem closeIfDue_folding (h : s.intake.fold ≠ .idle) : closeIfDue s = s := by
  unfold closeIfDue
  split
  · contradiction
  · rfl

theorem completeIfPast_idle (h : s.intake.fold = .idle) : completeIfPast s = s := by
  unfold completeIfPast
  rw [h]

theorem completeIfPast_folding {i k l : Nat} (h : s.intake.fold = .folding i k l) :
    completeIfPast s = if 240 ≤ i then completeFold s else s := by
  unfold completeIfPast
  rw [h]
  rfl

end Close

/-- A fold that has ended, one fold fewer remaining to the next trigger (R40). -/
def foldEnded (s : State) : State := { s with intake.fold := .idle, balancer.remaining := s.balancer.remaining - 1 }

theorem completeFold_eq (s : State) : completeFold s = closeIfDue (triggerIfDue (foldEnded s)) := rfl

/-- What a pass trigger takes for the close that follows it: the window of the policy then active (R34, R81). -/
theorem passTrigger_policy (s : State) : (passTrigger s).intake = s.intake
    ∧ (passTrigger s).management.active = s.management.shadow
    ∧ (passTrigger s).balancer.remaining = s.management.shadow.passDivider := by
  have hsame : (passTriggered s).intake = (adopt s).intake ∧ (passTriggered s).management = (adopt s).management := by
    unfold passTriggered
    dsimp only
    split
    · split
      · exact ⟨rfl, rfl⟩
      · exact ⟨rfl, rfl⟩
    · exact ⟨rfl, rfl⟩
    · exact ⟨rfl, rfl⟩
    · exact ⟨rfl, rfl⟩
  have hpolicy : (passTriggered s).management.active = s.management.shadow ∧ (passTriggered s).intake = s.intake := by
    rw [hsame.1, hsame.2]
    obtain ⟨sums, rescue, notices, lost, -, -, e⟩ := adopt_fields s
    rw [e]
    exact ⟨rfl, rfl⟩
  exact ⟨hpolicy.2, hpolicy.1, congrArg Policy.passDivider hpolicy.1⟩

/-- Settles O20: the fold's end by `completeFold_eq`, the policy of the close by `passTrigger_policy`. -/
theorem windowCloseAndFoldCompletion : Obligations.WindowCloseAndFoldCompletion := by
  intro s hhold
  have hpast : ∀ {i k l : Nat}, s.intake.fold = .folding i k l → 240 ≤ i →
      exec .foldCompletion s = .next (finish (closeIfDue (triggerIfDue (foldEnded s)))) := fun hfold hi => by
    rw [exec_foldCompletion hhold, completeIfPast_folding hfold, if_pos hi, completeFold_eq]
  have hlast : s.balancer.remaining = 1 →
      foldEnded s = { s with intake.fold := .idle, balancer.remaining := 0 } := fun hone => by
    rw [foldEnded, hone]
  refine ⟨fun hidle hdue => ?_, fun hidle hearly => ?_, fun hfolding => ?_, fun i k l hfold hi => ?_, fun hidle => ?_,
    fun k l hfold hvacant => ?_, fun i k l hfold hi hone hearly => ?_, fun i k l hfold hi hone hdue => ?_,
    fun i k l hfold hi htwo => ?_⟩
  · rw [exec_windowClose hhold, closeIfDue_due hidle hdue]
    rfl
  · rw [exec_windowClose hhold, closeIfDue_early hidle hearly]
  · rw [exec_windowClose hhold, closeIfDue_folding hfolding]
  · rw [exec_foldCompletion hhold, completeIfPast_folding hfold, if_neg (Nat.not_le.mpr hi)]
  · rw [exec_foldCompletion hhold, completeIfPast_idle hidle]
  · rw [exec_foldOfRecord hhold, exec_foldCompletion (s := { s with intake.fold := .folding 240 k l }) hhold]
    have hstep : foldStep s = completeFold s := by
      unfold foldStep foldAt
      simp only [hfold, hvacant]
      rfl
    rw [hstep]
    rfl
  · obtain ⟨hintake, hactive, -⟩ := passTrigger_policy (foldEnded s)
    have hstays : closeIfDue (passTrigger (foldEnded s)) = passTrigger (foldEnded s) :=
      closeIfDue_early (by rw [hintake]; rfl) (by rw [hintake, hactive]; exact hearly)
    rw [hpast hfold hi, ← hlast hone, exec_passTrigger (s := foldEnded s) hhold,
      triggerIfDue_due (s := foldEnded s) (by rw [hlast hone]), hstays]
  · obtain ⟨hintake, hactive, hremaining⟩ := passTrigger_policy (foldEnded s)
    have hcloses : closeIfDue (passTrigger (foldEnded s)) = closeWindow (passTrigger (foldEnded s)) :=
      closeIfDue_due (by rw [hintake]; rfl) (by rw [hintake, hactive]; exact hdue)
    have hdue' : triggerIfDue (foldEnded s) = passTrigger (foldEnded s) := triggerIfDue_due (by rw [hlast hone])
    rw [hpast hfold hi, ← hlast hone]
    refine ⟨passTrigger (foldEnded s), by rw [exec_passTrigger (s := foldEnded s) hhold, hdue'], hintake, hactive,
      hremaining, ?_⟩
    rw [hdue', hcloses, closeWindow, hintake, hactive]
    rfl
  · have hmore : triggerIfDue (foldEnded s) = foldEnded s :=
      triggerIfDue_early (show s.balancer.remaining - 1 ≠ 0 by omega)
    rw [hpast hfold hi, hmore]
    refine ⟨fun hearly => ?_, fun hdue => ?_⟩
    · rw [closeIfDue_early (s := foldEnded s) rfl hearly]
      rfl
    · rw [closeIfDue_due (s := foldEnded s) rfl hdue]
      rfl

end Sys2Proof.Machine

namespace Sys2Proof.Machine

/-! ## The fold of one record (R35 to R39) -/

section Banks
variable {second : Bool} {k : Nat} {r : Consumer}

/-- The first samples of a record seed its Fresh load (R36). -/
theorem foldRecord_seeds (hc : 0 < (closedBank second r).count) (hs : r.seeded = false) :
    foldRecord second k r
      = { zeroClosed second r with
          silence := 0, seeded := true
          fresh := (closedBank second r).sum.tdiv (closedBank second r).count } := by
  have hseeded : (zeroClosed second r).seeded = false := by cases second <;> exact hs
  simp only [foldRecord, hc, hseeded, if_true, Bool.false_eq_true, if_false]

/-- Later ones pull it toward their mean (R36). -/
theorem foldRecord_smooths (hc : 0 < (closedBank second r).count) (hs : r.seeded = true) :
    foldRecord second k r
      = { zeroClosed second r with
          silence := 0
          fresh := r.fresh + ((closedBank second r).sum.tdiv (closedBank second r).count - r.fresh).tdiv (2 ^ k) } := by
  have hzero : (zeroClosed second r).seeded = true ∧ (zeroClosed second r).fresh = r.fresh := by
    cases second <;> exact ⟨hs, rfl⟩
  simp only [foldRecord, hc, hzero, smooth, if_true]

/-- A bank that was heard without a sample ends the silence (R37). -/
theorem foldRecord_heard (hc : (closedBank second r).count = 0) (hh : (closedBank second r).heard = true) :
    foldRecord second k r = { zeroClosed second r with silence := 0 } := by
  simp only [foldRecord, hc, hh, Nat.lt_irrefl, if_true, if_false]

/-- An unheard bank raises the silence count (R38). -/
theorem foldRecord_unheard (hc : (closedBank second r).count = 0) (hh : (closedBank second r).heard = false) :
    foldRecord second k r = { zeroClosed second r with silence := raise 255 r.silence } := by
  have hsilence : (zeroClosed second r).silence = r.silence := by cases second <;> rfl
  simp only [foldRecord, hc, hh, hsilence, Nat.lt_irrefl, if_false, Bool.false_eq_true]

theorem foldSilences_iff {l : Nat} : foldSilences second l r = true ↔ (closedBank second r).count = 0
    ∧ (closedBank second r).heard = false ∧ l ≤ raise 255 r.silence
    ∧ (r.state = .settled ∨ ∃ q, r.state = .unverified q) := by
  cases hst : r.state <;> simp [foldSilences, hst, and_assoc]

end Banks

section FoldAt
variable {k l i : Nat} {s : State}

theorem foldAt_vacant (hr : s.record i = none) : foldAt k l i s = s := by
  unfold foldAt
  rw [hr]

theorem foldAt_quiet {r : Consumer} (hr : s.record i = some r) (hq : ¬ foldSilences s.intake.secondOpen l r = true) :
    foldAt k l i s = s.setRecord i (some (foldRecord s.intake.secondOpen k r)) := by
  unfold foldAt
  simp only [hr, if_neg hq]
  exact modifyRecord_some hr _

theorem foldAt_silent {r : Consumer} (hr : s.record i = some r) (hq : foldSilences s.intake.secondOpen l r = true) :
    foldAt k l i s = silentAtFold i (s.modifyRecord i (foldRecord s.intake.secondOpen k)) := by
  unfold foldAt
  simp only [hr, if_pos hq]

/-- One index of a fold, its record's part done (R35, R40). -/
theorem foldStep_eq (h : s.intake.fold = .folding i k l) :
    foldStep s = if i + 1 < 240 then { foldAt k l i s with intake.fold := .folding (i + 1) k l }
      else completeFold (foldAt k l i s) := by
  unfold foldStep
  rw [h]
  rfl

/-- The command of one index, by what the fold makes of the record there; past index 239 the completion is in it
(R35, R40; log 15). -/
theorem exec_foldOfRecord_at {t : State} (hs : s.hold = none) (h : s.intake.fold = .folding i k l)
    (ht : (foldAt k l i s).hold = none) (e : t = { foldAt k l i s with intake.fold := .folding (i + 1) k l }) :
    (i < 239 → exec .foldOfRecord s = .next (finish t)) ∧ (i = 239 → exec .foldOfRecord s = exec .foldCompletion t) := by
  subst e
  rw [exec_foldOfRecord hs, foldStep_eq h]
  refine ⟨fun hi => ?_, fun hi => ?_⟩
  · rw [if_pos (by omega)]
  · rw [if_neg (by omega), exec_foldCompletion (by exact ht), completeIfPast_folding (by rfl), if_pos (by omega)]
    rfl

end FoldAt

/-! ### A record made SILENT at its fold (R39) -/

theorem noteOutOfService_unlisted {i : Nat} {s : State} (h : i ∉ s.rescue.list) : noteOutOfService i s = s := by
  have hnot : ¬ s.listed i = true := fun hl => h (List.contains_iff_mem.mp hl)
  exact if_neg hnot

/-- A listed record that leaves the service is counted unrescuable (R154). -/
theorem noteOutOfService_unrescuable {i : Nat} {s : State} (h : i ∈ s.rescue.list) :
    (noteOutOfService i s).rescue.unrescuable = raise 255 s.rescue.unrescuable := by
  have hlisted : s.listed i = true := List.contains_iff_mem.mpr h
  unfold noteOutOfService
  rw [if_pos hlisted]
  rcases closeTest_eq (countUnrescuable (unlist i s)) with e | ⟨notices, lost, -, -, e⟩
  · rw [e]
    rfl
  · rw [e]
    rfl

theorem noteOutOfService_hold (i : Nat) (s : State) : (noteOutOfService i s).hold = s.hold := by
  unfold noteOutOfService
  split
  · exact (closeTest_keeps _).hold
  · rfl

/-- What going SILENT leaves, but for the record and its contribution. -/
theorem goSilent_eq (i : Nat) (s : State) : ∃ l sums, goSilent i s =
    { s with
      tables.consumers := l, balancer.sums := sums
      scheduler.queries := s.scheduler.queries.filter fun e => e.consumer != i } := by
  obtain ⟨l, sums, -, e⟩ := changeRecord_eq i (fun r => { r with state := .silent }) s
  exact ⟨l, sums, by rw [goSilent, e]; rfl⟩

/-- What the notice and the Rescue Unit make of a record gone SILENT, in either order. -/
structure State.Silences (i : Nat) (s t : State) : Prop where
  around : s.Around i t
  own : ∀ r, s.record i = some r → r.state.drawable = false → t.record i = some r
  scheduler : t.scheduler = s.scheduler
  list : ∀ j, j ∈ t.rescue.list ↔ j ∈ s.rescue.list ∧ j ≠ i
  unrescuable : i ∈ s.rescue.list → t.rescue.unrescuable = raise 255 s.rescue.unrescuable
  ports : i ∉ s.rescue.list → t.ports = (noticeSilent i causeWindows s).ports
  hold : t.hold = s.hold

theorem silences_noticeFirst (i : Nat) (s : State) :
    s.Silences i (noteOutOfService i (noticeSilent i causeWindows s)) := by
  have htold := noteOutOfService_tells i (noticeSilent i causeWindows s)
  have hrescue : (noticeSilent i causeWindows s).rescue = s.rescue := raiseNotice_event ..
  refine ⟨(raiseNotice_around ..).trans htold.around, fun r hr hd => ?_,
    htold.scheduler.trans (raiseNotice_scheduler ..), fun j => ?_, fun hl => ?_, fun hl => ?_,
    (noteOutOfService_hold i _).trans (raiseNotice_keeps ..).hold⟩
  · exact htold.undrawable r ((record_raiseNotice ..).trans hr) hd
  · rw [mem_noteOutOfService, hrescue]
  · rw [noteOutOfService_unrescuable (by rw [hrescue]; exact hl), hrescue]
  · rw [noteOutOfService_unlisted (by rw [hrescue]; exact hl)]

theorem silences_rescueFirst (i : Nat) (s : State) :
    s.Silences i (noticeSilent i causeWindows (noteOutOfService i s)) := by
  have htold := noteOutOfService_tells i s
  have hrescue : (noticeSilent i causeWindows (noteOutOfService i s)).rescue = (noteOutOfService i s).rescue :=
    raiseNotice_event ..
  refine ⟨htold.around.trans (raiseNotice_around ..), fun r hr hd => ?_,
    (raiseNotice_scheduler ..).trans htold.scheduler, fun j => ?_, fun hl => ?_, fun hl => ?_,
    (raiseNotice_keeps ..).hold.trans (noteOutOfService_hold i s)⟩
  · exact (record_raiseNotice ..).trans (htold.undrawable r hr hd)
  · rw [hrescue, mem_noteOutOfService]
  · rw [hrescue, noteOutOfService_unrescuable hl]
  · rw [noteOutOfService_unlisted hl]

/-- A record SILENT at its fold: gone from its places, then noticed and told in the order chosen (R39, R154; log 3). -/
theorem silentAtFold_eq (i : Nat) (s : State) : ∃ t, (goSilent i s).Silences i t ∧ silentAtFold i s = dropChoice t := by
  unfold silentAtFold
  dsimp only
  split
  · exact ⟨_, silences_noticeFirst i _, rfl⟩
  · exact ⟨_, silences_rescueFirst i _, rfl⟩

theorem noticeSilent_queued {i : Nat} {s : State} {r : Consumer} (hr : s.record i = some r) (cause : Byte)
    (hmask : s.management.active.mask.getLsbD 5 = true) (hroom : s.ports.notices.length < 16) :
    (noticeSilent i cause s).ports.notices
      = s.ports.notices ++ [⟨6, s.ports.lostNotices, s.now, [byte i, r.address, cause]⟩] := by
  unfold noticeSilent
  rw [addressOf_some hr]
  exact (raiseNotice_queued (k := .consumerSilent) _ hmask hroom).1

theorem foldRecord_around (second : Bool) (k i : Nat) (s : State) : s.Around i (s.modifyRecord i (foldRecord second k)) :=
  modifyRecord_around fun r _ => Gist.share_eq (foldRecord_gist second k r)

/-- The state that the fold of a record made SILENT leaves (R39). -/
structure State.FoldsSilent (i : Nat) (r' : Consumer) (s t : State) : Prop where
  around : s.Around i t
  own : t.record i = some { r' with state := .silent }
  queries : ∀ e, e ∈ t.scheduler.queries ↔ e ∈ s.scheduler.queries ∧ e.consumer ≠ i
  schedule : t.scheduler.schedule = s.scheduler.schedule
  list : ∀ j, j ∈ t.rescue.list ↔ j ∈ s.rescue.list ∧ j ≠ i
  unrescuable : i ∈ s.rescue.list → t.rescue.unrescuable = raise 255 s.rescue.unrescuable
  notices : s.management.active.mask.getLsbD 5 = true → s.ports.notices.length < 16 → i ∉ s.rescue.list →
    t.ports.notices = s.ports.notices ++ [⟨6, s.ports.lostNotices, s.now, [byte i, r'.address, 1]⟩]
  hold : t.hold = s.hold

theorem silentAtFold_foldsSilent {i : Nat} {s : State} {r : Consumer} (hr : s.record i = some r) :
    s.FoldsSilent i r (silentAtFold i s) := by
  obtain ⟨t, ⟨around, own, scheduler, list, unrescuable, ports, hold⟩, e⟩ := silentAtFold_eq i s
  have hrecord : (goSilent i s).record i = some { r with state := .silent } := by
    rw [record_goSilent, hr]
    rfl
  have haround := (goSilent_around i s).trans around
  have hdropped : s.Around i (dropChoice t) := ⟨haround.others, haround.active, haround.timebase, haround.management,
    haround.intake, haround.counters, fun h => (haround.summed h).gentle (dropChoice_gentle t)⟩
  have hqueued := noticeSilent_queued hrecord causeWindows
  obtain ⟨l, sums, e'⟩ := goSilent_eq i s
  rw [e'] at scheduler list unrescuable ports hold hqueued
  rw [e]
  refine ⟨hdropped, own _ hrecord rfl, fun x => ?_, ?_, list, unrescuable,
    fun hmask hroom hl => (congrArg PortEngine.notices (ports hl)).trans (hqueued hmask hroom), hold⟩
  · change x ∈ t.scheduler.queries ↔ _
    rw [scheduler]
    simp
  · change t.scheduler.schedule = _
    rw [scheduler]

/-- The fold of a record that its silence ends (R38, R39). -/
theorem foldAt_foldsSilent {k l i : Nat} {s : State} {r : Consumer} (hr : s.record i = some r)
    (hq : foldSilences s.intake.secondOpen l r = true) :
    s.FoldsSilent i (foldRecord s.intake.secondOpen k r) (foldAt k l i s) := by
  have hfolded : (s.modifyRecord i (foldRecord s.intake.secondOpen k)).record i
      = some (foldRecord s.intake.secondOpen k r) := by
    rw [record_modifyRecord, if_pos rfl, hr]
    rfl
  obtain ⟨around, own, queries, schedule, list, unrescuable, notices, hold⟩ := silentAtFold_foldsSilent hfolded
  have haround := foldRecord_around s.intake.secondOpen k i s
  obtain ⟨c, -, e⟩ := modifyRecord_eq i (foldRecord s.intake.secondOpen k) s
  rw [foldAt_silent hr hq]
  rw [e] at around own queries schedule list unrescuable notices hold haround ⊢
  exact ⟨haround.trans around, own, queries, schedule, list, unrescuable, notices, hold⟩

/-- Settles O21: `exec_foldOfRecord_at` for the position, `foldRecord` by its cases, and `State.FoldsSilent` for a record
made SILENT. -/
theorem foldOfOneRecord : Obligations.FoldOfOneRecord := by
  intro i k l s hhold hfold _ folds
  have hvacant : s.record i = none → folds { s with intake.fold := .folding (i + 1) k l } := fun hr =>
    exec_foldOfRecord_at hhold hfold (by rw [foldAt_vacant hr, hhold]) (by rw [foldAt_vacant hr])
  refine ⟨hvacant, ?_⟩
  intro r hr b z after
  have hquiet : ∀ {t}, ¬ foldSilences s.intake.secondOpen l r = true → foldRecord s.intake.secondOpen k r = t →
      folds (after t) := fun {t} hq ht =>
    exec_foldOfRecord_at hhold hfold (by rw [foldAt_quiet hr hq]; exact hhold) (by rw [foldAt_quiet hr hq, ht]; rfl)
  have hheard : ∀ {t}, (0 < b.count ∨ b.heard = true) → foldRecord s.intake.secondOpen k r = t → folds (after t) :=
    fun hb ht => hquiet (fun hq => by
      obtain ⟨hcount, hunheard, -⟩ := foldSilences_iff.mp hq
      rcases hb with hb | hb
      · exact absurd hcount (Nat.ne_of_gt hb)
      · exact Bool.false_ne_true (hunheard.symm.trans hb)) ht
  refine ⟨fun hcount hseeded => hheard (.inl hcount) (foldRecord_seeds hcount hseeded),
    fun hcount hseeded => hheard (.inl hcount) (foldRecord_smooths hcount hseeded),
    fun hcount hb => hheard (.inr hb) (foldRecord_heard hcount hb), fun hcount hunheard hshort => ?_,
    fun hcount hunheard hlimit hst => ?_⟩
  · refine hquiet (fun hq => ?_) (foldRecord_unheard hcount hunheard)
    obtain ⟨-, -, hlimit, hst⟩ := foldSilences_iff.mp hq
    rcases hshort with hshort | ⟨hsettled, hunverified⟩
    · exact absurd hlimit (Nat.not_le.mpr hshort)
    · rcases hst with hst | ⟨q, hst⟩
      · exact hsettled hst
      · exact hunverified q hst
  · obtain ⟨around, own, queries, schedule, list, unrescuable, notices, hold⟩ :=
      foldAt_foldsSilent (k := k) hr (foldSilences_iff.mpr ⟨hcount, hunheard, hlimit, hst⟩)
    rw [foldRecord_unheard hcount hunheard] at own notices
    have haddress : z.address = r.address := by
      change (zeroClosed s.intake.secondOpen r).address = _
      cases s.intake.secondOpen <;> rfl
    refine ⟨{ foldAt k l i s with intake.fold := .folding (i + 1) k l },
      exec_foldOfRecord_at hhold hfold (hold.trans hhold) rfl, ?_, own, around.others, around.active, queries, schedule,
      list, unrescuable, around.timebase, around.management, fun hsums htree hlength => ?_, fun hmask hroom hl => ?_⟩
    · change { (foldAt k l i s).intake with fold := Fold.folding (i + 1) k l } = _
      rw [around.intake]
    · exact (around.sumsRight hsums htree hlength).congr rfl rfl rfl fun _ => rfl
    · rw [← haddress]
      exact notices hmask hroom hl

end Sys2Proof.Machine

namespace Sys2Proof.Machine

/-! ## The event of a start (R201, R202) -/

/-- A state with other records, and the queries of some of them appended to the query queue (R132). -/
def queried (l : List (Option Consumer)) (ids : List Nat) (s : State) : State :=
  { s with
    tables.consumers := l
    scheduler.queries := s.scheduler.queries ++ ids.map fun i => QueryEntry.mk i false }

theorem foldl_enqueueQuery_eq (ids : List Nat) (s : State) : ∃ l, ids.foldl enqueueQuery s = queried l ids s := by
  induction ids generalizing s with
  | nil => exact ⟨s.tables.consumers, by simp only [queried, List.foldl_nil, List.map_nil, List.append_nil]⟩
  | cons i ids ih =>
    obtain ⟨l, -, hone⟩ := modifyRecord_eq i (setQueryStage .queued)
      { s with scheduler.queries := s.scheduler.queries ++ [QueryEntry.mk i false] }
    obtain ⟨l', hrest⟩ := ih (enqueueQuery s i)
    refine ⟨l', ?_⟩
    rw [List.foldl_cons, hrest, show enqueueQuery s i = _ from hone]
    simp only [queried, List.append_assoc, List.singleton_append, List.map_cons]

/-- The fill writes the records whose queries it queues, and the query queue (R132). -/
theorem fill_eq (s : State) : ∃ l ids, fill s = queried l ids s := by
  obtain ⟨l, e⟩ := foldl_enqueueQuery_eq
    ((s.indicesWhere fun _ r => r.state.waiting).take (Config.queryRoom - s.scheduler.queries.length)) s
  exact ⟨l, _, e⟩

section Grants
variable {s : State}

/-- With nothing above it waiting, the query source has the grant (R173, R174). -/
theorem grantDown_belowOrder (hdown : s.ports.down = PortState.start) (hmark : s.timebase.markWaiting = false)
    (hschedule : s.scheduler.schedule = []) : grantDown s = grantBelowOrder s := by
  have hburst : s.burstFull s.ports.down = false := by
    rw [State.burstFull, hdown]
    exact Bool.and_false _
  unfold grantDown
  rw [show s.ports.down.transmitter = .idle by rw [hdown]; rfl]
  unfold chooseDown
  simp only [hmark, hburst, orderWaiting_of_nil hschedule, Bool.false_eq_true, if_false]

theorem grantBelowOrder_nothing (hqueries : s.scheduler.queries = []) (hforward : s.ports.down.forward = []) :
    grantBelowOrder s = s := by
  unfold grantBelowOrder State.queryHead grantForwardDown
  simp only [hqueries, hforward]

theorem grantBelowOrder_query {i : Nat} {rest : List QueryEntry} (hqueries : s.scheduler.queries = ⟨i, false⟩ :: rest) :
    grantBelowOrder s = grantQuery ⟨i, false⟩ s := by
  unfold grantBelowOrder State.queryHead
  simp only [hqueries, Bool.false_eq_true, if_false]

theorem grantDown_busy {source : Source} {f : Frame} (h : s.ports.down.transmitter = .busy source f) :
    grantDown s = s := by
  unfold grantDown
  rw [h]

/-- An event with no draw to make ends in its fill and one grant on each port. -/
theorem finish_of_grant {t : State} (hlist : s.rescue.list = []) (hgrant : grantDown (fill s) = t)
    (hlist' : t.rescue.list = []) (hagain : grantDown t = t) : finish s = grantUp t := by
  unfold finish
  rw [draws_of_nil hlist, hgrant, draws_of_nil hlist', hagain]

/-- A notice alone is granted upstream (R173, R179). -/
theorem grantUp_notice {n : Notice} (hup : s.ports.up = PortState.start) (hresponses : s.ports.responses = [])
    (hnotices : s.ports.notices = [n]) :
    grantUp s = { s with
      ports.up := ⟨.hunting, .busy .notice (noticeFrame s.ownAddress n), 0, []⟩, ports.notices := [] } := by
  have hburst : s.burstFull s.ports.up = false := by
    rw [State.burstFull, hup]
    exact Bool.and_false _
  unfold grantUp
  rw [show s.ports.up.transmitter = .idle by rw [hup]; rfl]
  unfold chooseUp grantNotice
  simp only [hburst, hresponses, hnotices, Bool.false_eq_true, if_false, startUp]
  rw [hup]
  rfl

end Grants

/-- A part with idle transmitters and nothing to send or to move but one notice. -/
structure State.Rests (n : Notice) (s : State) : Prop where
  schedule : s.scheduler.schedule = []
  list : s.rescue.list = []
  queries : s.scheduler.queries = []
  unmarked : s.timebase.markWaiting = false
  down : s.ports.down = PortState.start
  up : s.ports.up = PortState.start
  responses : s.ports.responses = []
  notices : s.ports.notices = [n]

/-- What the downstream port and the queries are after an event that sends the first query, if one was queued (R134). -/
structure State.SendsQuery (s : State) (queries : List QueryEntry) (tag : Byte) (port : PortState) : Prop where
  receiver : port.receiver = .hunting
  forward : port.forward = []
  burst : port.burst = 0
  idle : queries = [] → tag = s.scheduler.tagCounter ∧ port.transmitter = .idle
  sends : ∀ e rest, queries = e :: rest → e.inTransmission = true ∧ (∀ x ∈ rest, x.inTransmission = false)
    ∧ tag = nextTag s.scheduler.tagCounter
    ∧ port.transmitter = .busy .query (s.phaseQuery e.consumer s.scheduler.tagCounter)

/-- What the end of the event sends from a part at rest: its notice upstream, and downstream the query of the first
record that waits for one (R134, R179). -/
theorem finish_rests {n : Notice} {s : State} (h : s.Rests n) : ∃ l queries tag port,
    State.SendsQuery { s with tables.consumers := l } queries tag port
      ∧ finish s =
        { s with
          tables.consumers := l
          scheduler := { s.scheduler with queries := queries, tagCounter := tag }
          ports :=
            { s.ports with
              down := port
              up := ⟨.hunting, .busy .notice (noticeFrame s.ownAddress n), 0, []⟩
              notices := [] } } := by
  obtain ⟨schedule, list, queries, unmarked, down, up, responses, notices⟩ := h
  obtain ⟨l, ids, e⟩ := fill_eq s
  have hqueue : (queried l ids s).scheduler.queries = ids.map fun i => QueryEntry.mk i false := by
    rw [queried, queries, List.nil_append]
  have hgrant := grantDown_belowOrder (s := queried l ids s) down unmarked schedule
  cases ids with
  | nil =>
    have hnone : grantDown (queried l [] s) = queried l [] s := by
      rw [hgrant, grantBelowOrder_nothing hqueue (congrArg PortState.forward down)]
    have hfinish : finish s = grantUp (queried l [] s) := finish_of_grant list (by rw [e, hnone]) list hnone
    refine ⟨l, _, s.scheduler.tagCounter, s.ports.down, ⟨by rw [down]; rfl, by rw [down]; rfl, by rw [down]; rfl,
      fun _ => ⟨rfl, by rw [down]; rfl⟩, fun x rest hx => ?_⟩,
      hfinish.trans (grantUp_notice (s := queried l [] s) up responses notices)⟩
    cases hqueue.symm.trans hx
  | cons i ids =>
    have hasked : grantDown (queried l (i :: ids) s) = grantQuery ⟨i, false⟩ (queried l (i :: ids) s) := by
      rw [hgrant, grantBelowOrder_query hqueue]
    have hfinish : finish s = grantUp (grantQuery ⟨i, false⟩ (queried l (i :: ids) s)) :=
      finish_of_grant list (by rw [e, hasked]) list (grantDown_busy rfl)
    refine ⟨l, ⟨i, true⟩ :: (queried l (i :: ids) s).scheduler.queries.tail, nextTag s.scheduler.tagCounter,
      { s.ports.down with
        transmitter := .busy .query (State.phaseQuery { s with tables.consumers := l } i s.scheduler.tagCounter)
        burst := burstAfter s.ports.down.burst s.ports.down.forward },
      ⟨congrArg PortState.receiver down, congrArg PortState.forward down, by rw [down]; rfl, nofun, fun x rest hx => ?_⟩,
      hfinish.trans (grantUp_notice (s := grantQuery ⟨i, false⟩ (queried l (i :: ids) s)) up responses notices)⟩
    obtain ⟨rfl, rfl⟩ := List.cons.inj hx
    refine ⟨rfl, ?_, rfl, rfl⟩
    rw [hqueue]
    simp

theorem startWith_rests (sources : ResetSources) (straps : Straps) (s : State) :
    (startWith sources straps s).Rests ⟨1, 0, 0, [startRecordByte ⟨sources, sources.cold⟩]⟩ :=
  ⟨rfl, rfl, rfl, rfl, rfl, rfl, rfl, rfl⟩

theorem noticeFrame_start (own x : Byte) :
    noticeFrame own ⟨1, 0, 0, [x]⟩ = goodFrame 255 own 0x58 0 [1, 0, 0, 0, x] :=
  congrArg (goodFrame 255 own 0x58 0) (show _ :: byte 0 :: be2 0 ++ [x] = _ from rfl)

/-- The shadow copy and its marks at a start (R8, R24). -/
theorem startValues_shadow (sources : ResetSources) (straps : Straps) (s : State) :
    (startValues sources straps s).tables.shadow = (startValues sources straps s).tables.active
      ∧ (startValues sources straps s).tables.marks = List.replicate 16 false
      ∧ (startValues sources straps s).tables.budgetCounter = 0 := by
  rw [startValues_tables]
  split
  · exact ⟨rfl, rfl, rfl⟩
  · exact ⟨rfl, rfl, rfl⟩

/-- Settles O5: the values by `startWith_eq`, what the event sends by `finish_rests`. -/
theorem startTakesItsValues : Obligations.StartTakesItsValues := by
  intro straps sources s hhold
  obtain ⟨l, queries, tag, port, hsends, e⟩ := finish_rests (startWith_rests sources straps s)
  obtain ⟨hshadow, hmarks, hbudget⟩ := startValues_shadow sources straps s
  refine ⟨_, exec_start hhold straps, ?_⟩
  rw [noticeFrame_start] at e
  rw [e]
  exact ⟨rfl, rfl, rfl, rfl, fun p => by cases p <;> rfl, by simp [startWith_eq, driveSelectLines],
    by simp [startWith_eq, driveSelectLines], rfl, rfl,
    rfl, rfl, rfl, hsends.receiver, rfl, hsends.forward, rfl, hsends.burst, hsends.idle, hsends.sends, rfl, rfl, rfl, rfl,
    rfl, rfl, rfl, rfl, rfl, rfl, hshadow, hmarks, hbudget⟩

end Sys2Proof.Machine

namespace Sys2Proof.Machine

/-! ## What leaves the mains alone

All commands but those of the Mains Timebase, of Phase Supervision and the starts leave the straps, the phases and the
timebase as they are, a waiting mark excepted, which a grant may send. -/

/-- The straps, the phases and the timebase are the same, but for the waiting mark. -/
structure State.KeepsMains (s t : State) : Prop where
  timebase : { t.timebase with markWaiting := s.timebase.markWaiting } = s.timebase
  phases : t.supervision.phases = s.supervision.phases
  straps : t.straps = s.straps

namespace State.KeepsMains
variable {s t u : State}

theorem of_eq (htimebase : t.timebase = s.timebase := by rfl)
    (hphases : t.supervision.phases = s.supervision.phases := by rfl) (hstraps : t.straps = s.straps := by rfl) :
    s.KeepsMains t := ⟨by rw [htimebase], hphases, hstraps⟩

theorem refl (s : State) : s.KeepsMains s := .of_eq

theorem trans (h : s.KeepsMains t) (k : t.KeepsMains u) : s.KeepsMains u where
  timebase := by rw [← h.timebase, ← k.timebase]
  phases := k.phases.trans h.phases
  straps := k.straps.trans h.straps

theorem foldl {α : Type} {f : State → α → State} (hf : ∀ (s : State) (a : α), s.KeepsMains (f s a)) (l : List α)
    (s : State) : s.KeepsMains (l.foldl f s) :=
  foldl_keeps (P := fun t => s.KeepsMains t) (fun t a h => h.trans (hf t a)) l (.refl s)

end State.KeepsMains

theorem State.KeepsRest.keepsMains {s t : State} (h : s.KeepsRest t) : s.KeepsMains t :=
  ⟨h.timebase, congrArg Supervision.phases h.supervision, h.straps⟩

theorem State.LeavesPhases.keepsMains {s t : State} (h : s.LeavesPhases t) : s.KeepsMains t :=
  .of_eq h.timebase h.phases h.straps

theorem finish_keepsMains (s : State) : s.KeepsMains (finish s) := (finish_keeps s).keepsMains

/-- A body that keeps the mains is an event that does. -/
theorem event_keepsMains {s t : State} (h : s.KeepsMains t) : s.KeepsMains (finish t) := h.trans (finish_keepsMains t)

/-! ### Records, entries and counters -/

theorem modifyRecord_keepsMains (i : Nat) (f : Consumer → Consumer) (s : State) : s.KeepsMains (s.modifyRecord i f) := by
  obtain ⟨l, -, e⟩ := modifyRecord_eq i f s
  rw [e]
  exact .of_eq

theorem closeEntry_keepsMains (i : Nat) (f : Consumer → Consumer) (s : State) : s.KeepsMains (closeEntry i f s) := by
  obtain ⟨l, sums, -, e⟩ := closeEntry_eq i f s
  rw [e]
  exact .of_eq

theorem changeRecord_keepsMains (i : Nat) (f : Consumer → Consumer) (s : State) : s.KeepsMains (changeRecord i f s) := by
  obtain ⟨l, sums, -, e⟩ := changeRecord_eq i f s
  rw [e]
  exact .of_eq

theorem raiseNotice_keepsMains (k : NoticeKind) (x : List Byte) (s : State) : s.KeepsMains (raiseNotice k x s) :=
  (raiseNotice_keeps k x s).keepsMains

theorem handOverEnd_keepsMains (e : MoveEntry) (s : State) : s.KeepsMains (handOverEnd e s) :=
  (handOverEnd_keeps e s).keepsMains

theorem staleFrame_keepsMains (s : State) : s.KeepsMains (staleFrame s) := .of_eq

theorem countBad_keepsMains (port : Port) (s : State) : s.KeepsMains (countBad port s) := by
  cases port with
  | upstream => exact .of_eq
  | downstream => exact .of_eq

theorem setReceiver_keepsMains (port : Port) (r : Receiver) (s : State) : s.KeepsMains (setReceiver port r s) := by
  cases port with
  | upstream => exact .of_eq
  | downstream => exact .of_eq

theorem forwardDown_keepsMains (f : Frame) (s : State) : s.KeepsMains (forwardDown f s) := by
  unfold forwardDown
  split
  · exact .of_eq
  · exact .of_eq

theorem forwardUp_keepsMains (f : Frame) (s : State) : s.KeepsMains (forwardUp f s) := by
  obtain ⟨ports, e, -⟩ := forwardUp_eq f s
  rw [e]
  exact .of_eq

/-! ### The Order Scheduler -/

theorem learnWiring_keepsMains (e : MoveEntry) (s : State) : s.KeepsMains (learnWiring e s) :=
  (modifyRecord_keepsMains e.consumer (unwire e.target) s).trans (raiseNotice_keepsMains _ _ _)

theorem closeRefused_keepsMains (reason : Byte) (e : MoveEntry) (s : State) : s.KeepsMains (closeRefused reason e s) :=
  (closeEntry_keepsMains _ _ s).trans (raiseNotice_keepsMains _ _ _)

theorem refuseEntry_keepsMains (reason : Byte) (e : MoveEntry) (s : State) : s.KeepsMains (refuseEntry reason e s) := by
  rw [refuseEntry_eq]
  refine State.KeepsMains.trans ?_ (handOverEnd_keepsMains e _)
  split
  · exact (closeRefused_keepsMains reason e s).trans (learnWiring_keepsMains e _)
  · exact closeRefused_keepsMains reason e s

theorem acceptEntry_keepsMains (i : Nat) (s : State) : s.KeepsMains (acceptEntry i s) :=
  State.KeepsMains.trans (t := setStage i .accepted s) .of_eq (modifyRecord_keepsMains ..)

theorem reportFaulted_keepsMains (e : MoveEntry) (s : State) : s.KeepsMains (reportFaulted e s) :=
  ((closeEntry_keepsMains _ _ s).trans (raiseNotice_keepsMains _ _ _)).trans (handOverEnd_keepsMains e _)

theorem reportSettled_keepsMains (e : MoveEntry) (p : Phase) (outcome reason : Byte) (s : State) :
    s.KeepsMains (reportSettled e p outcome reason s) := by
  unfold reportSettled
  dsimp only
  refine State.KeepsMains.trans ?_ (handOverEnd_keepsMains e _)
  split
  · exact (closeEntry_keepsMains _ _ s).trans (raiseNotice_keepsMains _ _ _)
  · exact (closeEntry_keepsMains _ _ s).trans (raiseNotice_keepsMains _ _ _)

theorem faultByFrame_keepsMains (i : Nat) (reason : FaultReason) (tag : Byte) (s : State) :
    s.KeepsMains (faultByFrame i reason tag s) := by
  have hfaulted : s.KeepsMains (faulted i reason tag s) :=
    ((changeRecord_keepsMains i _ s).trans .of_eq).trans (raiseNotice_keepsMains _ _ _)
  rw [faultByFrame_eq]
  exact hfaulted.trans (noteOutOfService_leaves i _).keepsMains

theorem noteSettlement_keepsMains (i : Nat) (s : State) : s.KeepsMains (noteSettlement i s) := by
  unfold noteSettlement
  split
  · split
    · split
      · exact .refl s
      · exact (insertByHandOver_keeps i s).keepsMains
    · exact (delist_keeps i s).keepsMains
  · exact .refl s

/-- A record settled on a phase has left the query queue (R124, R139). -/
theorem settleOn_keepsMains (i : Nat) (p : Phase) (s : State) :
    s.KeepsMains (leaveQueue i (changeRecord i (settleOn p) s)) := (changeRecord_keepsMains i _ s).trans .of_eq

theorem settleByLateReport_keepsMains (i : Nat) (p : Phase) (s : State) : s.KeepsMains (settleByLateReport i p s) :=
  (settleOn_keepsMains i p s).trans (noteSettlement_keepsMains i _)

theorem settleByAnswer_keepsMains (i : Nat) (p : Phase) (s : State) : s.KeepsMains (settleByAnswer i p s) :=
  ((settleOn_keepsMains i p s).trans (modifyRecord_keepsMains i _ _)).trans (noteSettlement_keepsMains i _)

theorem takeTransferAnswer_keepsMains (src tag : Byte) (payload : List Byte) (s : State) :
    s.KeepsMains (takeTransferAnswer src tag payload s) := by
  unfold takeTransferAnswer
  split
  · split
    · split
      · exact staleFrame_keepsMains s
      · split
        · exact acceptEntry_keepsMains _ s
        · split
          · exact refuseEntry_keepsMains _ _ s
          · exact staleFrame_keepsMains s
    · exact staleFrame_keepsMains s
  · exact staleFrame_keepsMains s

theorem takeLateReport_keepsMains (i : Nat) (tag phaseNow : Byte) (s : State) :
    s.KeepsMains (takeLateReport i tag phaseNow s) := by
  unfold takeLateReport
  split
  · split
    · split
      · split
        · exact settleByLateReport_keepsMains i _ s
        · exact faultByFrame_keepsMains i _ tag s
      · exact staleFrame_keepsMains s
    · exact staleFrame_keepsMains s
  · exact staleFrame_keepsMains s

theorem takeTransferReport_keepsMains (src tag : Byte) (payload : List Byte) (s : State) :
    s.KeepsMains (takeTransferReport src tag payload s) := by
  unfold takeTransferReport
  split
  · split
    · exact staleFrame_keepsMains s
    · split
      · split
        · exact staleFrame_keepsMains s
        · split
          · exact reportSettled_keepsMains _ _ _ _ s
          · exact reportFaulted_keepsMains _ s
      · exact takeLateReport_keepsMains _ tag _ s
  · exact staleFrame_keepsMains s

theorem takePhaseAnswer_keepsMains (src tag : Byte) (payload : List Byte) (s : State) :
    s.KeepsMains (takePhaseAnswer src tag payload s) := by
  unfold takePhaseAnswer
  split
  · split
    · exact staleFrame_keepsMains s
    · split
      · split
        · split
          · exact settleByAnswer_keepsMains _ _ s
          · exact faultByFrame_keepsMains _ _ tag s
        · exact staleFrame_keepsMains s
      · exact staleFrame_keepsMains s
  · exact staleFrame_keepsMains s

theorem orderSent_keepsMains (s : State) : s.KeepsMains (orderSent s) := by
  unfold orderSent
  split
  · exact State.KeepsMains.trans (t := setStage _ _ s) .of_eq (modifyRecord_keepsMains ..)
  · exact .refl s

theorem querySent_keepsMains (tag : Byte) (s : State) : s.KeepsMains (querySent tag s) := by
  unfold querySent
  split
  · split
    · exact State.KeepsMains.trans .of_eq (modifyRecord_keepsMains ..)
    · exact .refl s
  · exact .refl s

/-! ### Readings, the fold and the Balancer -/

theorem takeReading_keepsMains (i : Nat) (f : Frame) (reading : Word16) (supply : Bool) (s : State) :
    s.KeepsMains (takeReading i f reading supply s) := by
  have hback : s.KeepsMains (if s.isSilent i then returnToService i s else s) := by
    split
    · exact ((changeRecord_keepsMains i _ s).trans (raiseNotice_keepsMains _ _ _)).trans
        (insertByHandOver_keeps i _).keepsMains
    · exact .refl s
  unfold takeReading
  dsimp only
  generalize (if s.isSilent i then returnToService i s else s) = t at hback
  have htaken (g : Consumer → Consumer) : s.KeepsMains (t.modifyRecord i g) :=
    hback.trans (modifyRecord_keepsMains i g t)
  split
  · exact (htaken _).trans (forwardUp_keepsMains f _)
  · exact htaken _

theorem adopt_keepsMains (s : State) : s.KeepsMains (adopt s) := by
  obtain ⟨sums, rescue, notices, lost, -, -, e⟩ := adopt_fields s
  rw [e]
  exact .of_eq

theorem passTrigger_keepsMains (s : State) : s.KeepsMains (passTrigger s) := by
  have htriggered : (adopt s).KeepsMains (passTriggered s) := by
    unfold passTriggered
    dsimp only
    split
    · split
      · exact .of_eq
      · exact .of_eq
    · exact .of_eq
    · exact .refl _
    · exact .refl _
  exact ((adopt_keepsMains s).trans htriggered).trans .of_eq

theorem triggerIfDue_keepsMains (s : State) : s.KeepsMains (triggerIfDue s) := by
  unfold triggerIfDue
  split
  · exact passTrigger_keepsMains s
  · exact .refl s

theorem closeIfDue_keepsMains (s : State) : s.KeepsMains (closeIfDue s) := by
  unfold closeIfDue
  split
  · split
    · exact .of_eq
    · exact .refl s
  · exact .refl s

theorem completeFold_keepsMains (s : State) : s.KeepsMains (completeFold s) :=
  (State.KeepsMains.trans (t := foldEnded s) .of_eq (triggerIfDue_keepsMains _)).trans (closeIfDue_keepsMains _)

theorem completeIfPast_keepsMains (s : State) : s.KeepsMains (completeIfPast s) := by
  unfold completeIfPast
  split
  · split
    · exact completeFold_keepsMains s
    · exact .refl s
  · exact .refl s

theorem silentAtFold_keepsMains (i : Nat) (s : State) : s.KeepsMains (silentAtFold i s) := by
  have hsilent : s.KeepsMains (goSilent i s) := (changeRecord_keepsMains i _ s).trans .of_eq
  have hservice (t : State) : t.KeepsMains (noteOutOfService i t) := (noteOutOfService_leaves i t).keepsMains
  have hdrop (t : State) : t.KeepsMains (dropChoice t) := .of_eq
  unfold silentAtFold
  dsimp only
  refine State.KeepsMains.trans ?_ (hdrop _)
  split
  · exact (hsilent.trans (raiseNotice_keepsMains _ _ _)).trans (hservice _)
  · exact (hsilent.trans (hservice _)).trans (raiseNotice_keepsMains _ _ _)

theorem foldAt_keepsMains (shift limit i : Nat) (s : State) : s.KeepsMains (foldAt shift limit i s) := by
  unfold foldAt
  split
  · dsimp only
    split
    · exact (modifyRecord_keepsMains i _ s).trans (silentAtFold_keepsMains i _)
    · exact modifyRecord_keepsMains i _ s
  · exact .refl s

theorem foldStep_keepsMains (s : State) : s.KeepsMains (foldStep s) := by
  unfold foldStep
  split
  · dsimp only
    split
    · exact (foldAt_keepsMains _ _ _ s).trans .of_eq
    · exact (foldAt_keepsMains _ _ _ s).trans (completeFold_keepsMains _)
  · exact .refl s

theorem searchStep_keepsMains (s : State) : s.KeepsMains (searchStep s) := by
  unfold searchStep
  split
  · split
    · exact .refl s
    · exact .of_eq
  · exact .refl s
  · exact .refl s
  · exact .refl s

theorem completePass_keepsMains (pass : Pass) (s : State) : s.KeepsMains (completePass pass s) := by
  have hmoves : s.KeepsMains (pass.results.foldl revalidate (s, 0)).1 :=
    foldl_revalidate (P := fun t => s.KeepsMains t) (fun sn m _ h => by
      unfold revalidate
      split
      · exact h.trans (makeEntry_keeps ..).keepsMains
      · exact h.trans .of_eq) (.refl s)
  exact (hmoves.trans (raiseNotice_keepsMains _ _ _)).trans .of_eq

theorem completionStep_keepsMains (s : State) : s.KeepsMains (completionStep s) := by
  unfold completionStep
  split
  · split
    · exact completePass_keepsMains _ s
    · exact .refl s
  · exact .refl s
  · exact .refl s
  · exact .refl s

theorem budgetIfDue_keepsMains (s : State) : s.KeepsMains (budgetIfDue s) := by
  unfold budgetIfDue
  split
  · exact .of_eq
  · exact .refl s

end Sys2Proof.Machine

namespace Sys2Proof.Machine

/-! ## What a step makes of the mains

Every command but a start is a run of the changes below, each a change of the timebase, of the phases, or of neither.
What each of them keeps and every start makes true, every step keeps. -/

/-- One change that the mains see. -/
inductive State.MainsChange : State → State → Prop
  /-- The straps, the phases and the timebase stay, a waiting mark excepted. -/
  | rest {s t : State} (h : s.KeepsMains t) : State.MainsChange s t
  /-- The tick counter runs to a sample point of the active period or to another tick below the late limit (R50, R66). -/
  | tick {s : State} {n : Nat} (hn : n ≤ s.timebase.activePeriod ∨ n < s.lateLimit) : State.MainsChange s (setTick n s)
  /-- A sample of the three sag lines (R66). -/
  | sample {s : State} : State.MainsChange s (sampleAll s)
  /-- An edge is seen (R68). -/
  | mark {s : State} (line : Phase) : State.MainsChange s (markEdge line s)
  /-- A crossing is accepted (R51). -/
  | accepted {s : State} (hpending : s.timebase.reanchorPending = false)
      (hlate : s.earlyLimit ≤ s.timebase.tickCounter) :
      State.MainsChange s (cycleEnd .accepted { s with timebase := s.timebase.accepted })
  /-- A crossing re-anchors (R54). -/
  | reanchored {s : State} (hpending : s.timebase.reanchorPending = true) :
      State.MainsChange s { s with timebase := s.timebase.reanchored }
  /-- The cycle ends at a re-anchor (R54). -/
  | reanchorEnd {s : State} : State.MainsChange s (cycleEnd .reanchor s)
  /-- The cycle ends at the late limit (R52). -/
  | syntheticEnd {s : State} :
      State.MainsChange s (cycleEnd .synthetic { s with timebase := s.timebase.synthetic s.lateLimit })
  /-- FLYWHEEL gives up (R55). -/
  | unsync {s : State} : State.MainsChange s (unsyncAtLimit s)
  /-- A failover that is due (R57). -/
  | failover {s : State} : State.MainsChange s (failoverIfDue s)
  /-- A cycle mark that is due (R59). -/
  | markDue {s : State} : State.MainsChange s (markIfDue s)
  /-- A filtered sag level changes (R67). -/
  | level {s : State} (p : Phase) : State.MainsChange s (filteredLevelChange p s)
  /-- A crossing presence changes (R68). -/
  | presence {s : State} (p : Phase) : State.MainsChange s (presenceChange p s)
  /-- A sag lasts to the sag-to-lost delay (R71). -/
  | delay {s : State} (p : Phase) : State.MainsChange s (sagDelayReached p s)
  /-- A recovery lasts to the recovery hold (R71). -/
  | hold {s : State} (p : Phase) : State.MainsChange s (holdReached p s)

/-- A run of such changes. -/
abbrev State.MainsPath (s t : State) : Prop := Relation.ReflTransGen State.MainsChange s t

theorem State.MainsPath.keeps {P : State → Prop} (hP : ∀ s t : State, s.MainsChange t → P s → P t) {s t : State}
    (h : s.MainsPath t) (hs : P s) : P t := by
  induction h with
  | refl => exact hs
  | tail _ hc ih => exact hP _ _ hc ih

theorem State.KeepsMains.path {s t : State} (h : s.KeepsMains t) : s.MainsPath t := .single (.rest h)

/-- A run goes on with a change that keeps the mains. -/
theorem State.MainsPath.rest {s t u : State} (h : s.MainsPath t) (k : t.KeepsMains u) : s.MainsPath u := h.tail (.rest k)

/-- The event of a body that is a run. -/
theorem State.MainsPath.event {s t : State} (h : s.MainsPath t) : s.MainsPath (finish t) := h.rest (finish_keepsMains t)

end Sys2Proof.Machine

namespace Sys2Proof.Machine

/-! ### Management requests -/

section Requests
variable (r : Request) (args : List Byte) (s : State)

/-- A response to what keeps the mains. -/
theorem respond_keepsMains {r : Request} {s t : State} (h : s.KeepsMains t) (kind : Byte) (result : Result)
    (data : List Byte) : s.KeepsMains (respond r kind result data t) := h.trans .of_eq

theorem answer_keepsMains {r : Request} {s : State} (kind : Byte) (result : Result) (data : List Byte) :
    s.KeepsMains (respond r kind result data s) := .of_eq

theorem refuse_keepsMains {r : Request} {s : State} (kind : Byte) (result : Result) :
    s.KeepsMains (refuse r kind result s) := .of_eq

theorem performReadStatus_keepsMains : s.KeepsMains (performReadStatus r args s) := by
  unfold performReadStatus
  split
  · split
    · exact answer_keepsMains _ _ _
    · exact refuse_keepsMains _ _
  · exact refuse_keepsMains _ _

theorem performReadPolicy_keepsMains : s.KeepsMains (performReadPolicy r args s) := by
  unfold performReadPolicy
  split
  · dsimp only
    split
    · exact answer_keepsMains _ _ _
    · split
      · exact answer_keepsMains _ _ _
      · exact refuse_keepsMains _ _
  · exact refuse_keepsMains _ _

theorem performReadSegment_keepsMains : s.KeepsMains (performReadSegment r args s) := by
  unfold performReadSegment
  split
  · split
    · exact answer_keepsMains _ _ _
    · exact refuse_keepsMains _ _
  · exact refuse_keepsMains _ _

theorem performReadConsumer_keepsMains : s.KeepsMains (performReadConsumer r args s) := by
  unfold performReadConsumer
  split
  · split
    · exact answer_keepsMains _ _ _
    · exact refuse_keepsMains _ _
  · exact refuse_keepsMains _ _

theorem performReadSums_keepsMains : s.KeepsMains (performReadSums r args s) := by
  unfold performReadSums
  split
  · split
    · exact refuse_keepsMains _ _
    · split
      · exact refuse_keepsMains _ _
      · exact answer_keepsMains _ _ _
  · exact refuse_keepsMains _ _

theorem performReadSchedule_keepsMains : s.KeepsMains (performReadSchedule r args s) := by
  unfold performReadSchedule
  split
  · split
    · exact answer_keepsMains _ _ _
    · exact refuse_keepsMains _ _
  · exact refuse_keepsMains _ _

theorem afterTableWrite_keepsMains : s.KeepsMains (afterTableWrite s) := by
  unfold afterTableWrite
  split
  · exact (adopt_keepsMains s).trans .of_eq
  · exact .refl s

theorem performWritePolicy_keepsMains : s.KeepsMains (performWritePolicy r args s) := by
  have hstored (p : Policy) : s.KeepsMains (storePolicy p s) :=
    State.KeepsMains.trans .of_eq (afterTableWrite_keepsMains _)
  unfold performWritePolicy
  split
  · split
    · exact respond_keepsMains (hstored _) _ _ _
    · exact refuse_keepsMains _ _
  · exact refuse_keepsMains _ _

theorem performWriteSegment_keepsMains : s.KeepsMains (performWriteSegment r args s) := by
  unfold performWriteSegment
  split
  · dsimp only
    split
    · exact refuse_keepsMains _ _
    · exact respond_keepsMains (State.KeepsMains.trans .of_eq (afterTableWrite_keepsMains _)) _ _ _
  · exact refuse_keepsMains _ _

theorem storeConsumer_keepsMains (i : Nat) (w : ConsumerWrite) : s.KeepsMains (storeConsumer i w s) := by
  obtain ⟨map, sums, event, notices, lost, e⟩ := storeConsumer_fields i w s
  rw [e]
  exact .of_eq

theorem vacate_keepsMains (i : Nat) (c : Consumer) : s.KeepsMains (vacate i c s) := by
  obtain ⟨map, sums, event, notices, lost, e⟩ := vacate_fields i c s
  rw [e]
  exact .of_eq

theorem performWriteConsumer_keepsMains : s.KeepsMains (performWriteConsumer r args s) := by
  unfold performWriteConsumer
  split
  · split
    · exact refuse_keepsMains _ _
    · split
      · exact refuse_keepsMains _ _
      · split
        · exact refuse_keepsMains _ _
        · split
          · exact refuse_keepsMains _ _
          · exact respond_keepsMains (storeConsumer_keepsMains s _ _) _ _ _
  · exact refuse_keepsMains _ _

theorem performClearConsumer_keepsMains : s.KeepsMains (performClearConsumer r args s) := by
  unfold performClearConsumer
  split
  · split
    · exact refuse_keepsMains _ _
    · split
      · exact refuse_keepsMains _ _
      · split
        · exact respond_keepsMains (vacate_keepsMains s _ _) _ _ _
        · exact answer_keepsMains _ _ _
  · exact refuse_keepsMains _ _

theorem storeLock_keepsMains (i : Nat) (lock : Bool) : s.KeepsMains (storeLock i lock s) := by
  unfold storeLock
  dsimp only
  split
  · exact ((modifyRecord_keepsMains i _ s).trans (dropRescueMark_keeps i _).keepsMains).trans
      (delist_keeps i _).keepsMains
  · exact modifyRecord_keepsMains i _ s

theorem performSetLock_keepsMains : s.KeepsMains (performSetLock r args s) := by
  unfold performSetLock
  split
  · split
    · exact refuse_keepsMains _ _
    · split
      · exact refuse_keepsMains _ _
      · exact refuse_keepsMains _ _
      · exact respond_keepsMains (storeLock_keepsMains s _ _) _ _ _
  · exact refuse_keepsMains _ _

theorem performClearFault_keepsMains : s.KeepsMains (performClearFault r args s) := by
  have hcleared (i : Nat) : s.KeepsMains (unfault i s) :=
    (changeRecord_keepsMains i _ s).trans (insertByHandOver_keeps i _).keepsMains
  unfold performClearFault
  split
  · split
    · exact refuse_keepsMains _ _
    · split
      · exact respond_keepsMains (hcleared _) _ _ _
      · exact refuse_keepsMains _ _
  · exact refuse_keepsMains _ _

theorem performManualMove_keepsMains : s.KeepsMains (performManualMove r args s) := by
  unfold performManualMove
  split
  · split
    · exact refuse_keepsMains _ _
    · split
      · exact refuse_keepsMains _ _
      · split
        · exact refuse_keepsMains _ _
        · split
          · exact refuse_keepsMains _ _
          · split
            · exact refuse_keepsMains _ _
            · split
              · exact refuse_keepsMains _ _
              · exact respond_keepsMains (makeEntry_keeps ..).keepsMains _ _ _
  · exact refuse_keepsMains _ _

theorem performCancelMoves_keepsMains : s.KeepsMains (performCancelMoves r args s) := by
  unfold performCancelMoves
  split
  · exact respond_keepsMains (.foldl (fun t e => (withdraw_keeps _ e t).keepsMains) _ s) _ _ _
  · exact refuse_keepsMains _ _

theorem performBalancerControl_keepsMains : s.KeepsMains (performBalancerControl r args s) := by
  have hstarted : s.KeepsMains (controlStart s) := by
    unfold controlStart
    split
    · exact .of_eq
    · exact .of_eq
    · exact .refl s
    · exact .refl s
  have hset (b : BalancerState) : s.KeepsMains (setBalancer b s) := .of_eq
  unfold performBalancerControl
  split
  · split
    · exact respond_keepsMains hstarted _ _ _
    · split
      · split
        · exact refuse_keepsMains _ _
        · exact respond_keepsMains (hset _) _ _ _
      · split
        · exact respond_keepsMains (hset _) _ _ _
        · exact refuse_keepsMains _ _
  · exact refuse_keepsMains _ _

theorem performRestart_keepsMains : s.KeepsMains (performRestart r args s) := by
  unfold performRestart
  split
  · exact .of_eq
  · exact refuse_keepsMains _ _

theorem perform_keepsMains : s.KeepsMains (perform r s) := by
  unfold perform
  split
  · exact .refl s
  · split
    · exact performReadStatus_keepsMains r _ s
    · exact performReadPolicy_keepsMains r _ s
    · exact performWritePolicy_keepsMains r _ s
    · exact performReadSegment_keepsMains r _ s
    · exact performWriteSegment_keepsMains r _ s
    · exact performReadConsumer_keepsMains r _ s
    · exact performWriteConsumer_keepsMains r _ s
    · exact performClearConsumer_keepsMains r _ s
    · exact performReadSums_keepsMains r _ s
    · exact performSetLock_keepsMains r _ s
    · exact performClearFault_keepsMains r _ s
    · exact performManualMove_keepsMains r _ s
    · exact performCancelMoves_keepsMains r _ s
    · exact performBalancerControl_keepsMains r _ s
    · exact performReadSchedule_keepsMains r _ s
    · exact performRestart_keepsMains r _ s
    · exact refuse_keepsMains _ _

theorem executeFirst_keepsMains : s.KeepsMains (executeFirst r s) :=
  State.KeepsMains.trans .of_eq (perform_keepsMains r _)

end Requests

theorem serve_keepsMains (fuel : Nat) (s : State) : s.KeepsMains (serve fuel s) := by
  induction fuel generalizing s with
  | zero => exact .refl s
  | succ fuel ih =>
    unfold serve
    split
    · exact (event_keepsMains (executeFirst_keepsMains _ s)).trans (ih _)
    · exact .refl s

theorem finishServing_keepsMains (s : State) : s.KeepsMains (finishServing s) :=
  (finish_keepsMains s).trans (serve_keepsMains _ _)

theorem serveArrival_keepsMains (s : State) : s.KeepsMains (serveArrival s) := by
  unfold serveArrival
  split
  · exact (event_keepsMains (executeFirst_keepsMains _ s)).trans (serve_keepsMains _ _)
  · exact finish_keepsMains s

/-! ### Arrivals and ends of transmissions -/

theorem arriveUpstream_keepsMains (f : Frame) (s : State) : s.KeepsMains (arriveUpstream f s) := by
  have hentered : s.KeepsMains (enterRequests f s) := by
    unfold enterRequests
    split
    · exact .of_eq
    · exact .of_eq
  have hblocked (i : Nat) : s.KeepsMains (blockForeign i f s) :=
    State.KeepsMains.trans (t := countForeign s) .of_eq (raiseNotice_keepsMains _ _ _)
  have hpassed : s.KeepsMains (passDown f s) := by
    unfold passDown
    split
    · split
      · exact hblocked _
      · exact forwardDown_keepsMains f s
    · exact forwardDown_keepsMains f s
  unfold arriveUpstream
  split
  · exact event_keepsMains (countBad_keepsMains .upstream s)
  · split
    · split
      · exact hentered.trans (serveArrival_keepsMains _)
      · exact event_keepsMains .of_eq
    · exact event_keepsMains hpassed

theorem classifyDown_keepsMains (f : Frame) (s : State) : s.KeepsMains (classifyDown f s) := by
  have htaken : s.KeepsMains (takeOwn f s) := by
    unfold takeOwn
    split
    · exact takeTransferAnswer_keepsMains _ _ _ s
    · split
      · exact takeTransferReport_keepsMains _ _ _ s
      · split
        · exact takePhaseAnswer_keepsMains _ _ _ s
        · exact .of_eq
  have hpassed : s.KeepsMains (passUp f s) := by
    unfold passUp
    split
    · split
      · exact takeReading_keepsMains _ f _ _ s
      · exact forwardUp_keepsMains f s
    · exact forwardUp_keepsMains f s
  unfold classifyDown
  split
  · exact countBad_keepsMains .downstream s
  · split
    · exact htaken
    · exact hpassed

theorem arrive_keepsMains (port : Port) (f : Frame) (s : State) : s.KeepsMains (arrive port f s) := by
  cases port with
  | upstream => exact arriveUpstream_keepsMains f s
  | downstream => exact event_keepsMains (classifyDown_keepsMains f s)

theorem frameComes_keepsMains (port : Port) (f : Frame) (s : State) : s.KeepsMains (frameComes port f s) :=
  (setReceiver_keepsMains port .hunting s).trans (arrive_keepsMains port f _)

theorem loseFrame_keepsMains (port : Port) (s : State) : s.KeepsMains (loseFrame port s) :=
  event_keepsMains ((setReceiver_keepsMains port .hunting s).trans (countBad_keepsMains port _))

theorem abandon_keepsMains (port : Port) (s : State) : s.KeepsMains (abandon port s) := by
  unfold abandon
  split
  · exact loseFrame_keepsMains port s
  · exact .refl s

theorem takeCharacter_keepsMains (port : Port) (char : Byte) (framingError : Bool) (s : State) :
    s.KeepsMains (takeCharacter port char framingError s) := by
  have hreceived (r : Receiver) : s.KeepsMains (setReceiver port r s) := setReceiver_keepsMains port r s
  unfold takeCharacter
  dsimp only
  split
  · exact event_keepsMains (hreceived _)
  · exact event_keepsMains ((hreceived _).trans (countBad_keepsMains port _))
  · exact (hreceived _).trans (arrive_keepsMains port _ _)

theorem orderEnds_keepsMains (s : State) : s.KeepsMains (orderEnds s) := by
  unfold orderEnds
  split
  · exact event_keepsMains (State.KeepsMains.trans (t := endDown s) .of_eq (orderSent_keepsMains _))
  · exact .refl s

theorem queryEnds_keepsMains (s : State) : s.KeepsMains (queryEnds s) := by
  unfold queryEnds
  split
  · exact event_keepsMains (State.KeepsMains.trans (t := endDown s) .of_eq (querySent_keepsMains _ _))
  · exact .refl s

theorem transmissionEnds_keepsMains (port : Port) (s : State) : s.KeepsMains (transmissionEnds port s) := by
  unfold transmissionEnds
  split
  · split
    · split
      · exact event_keepsMains .of_eq
      · exact .refl s
    · exact .refl s
  · split
    · split
      · exact State.KeepsMains.trans (t := endUp s) .of_eq (finishServing_keepsMains _)
      · exact .refl s
    · exact .refl s

/-! ### The commands -/

theorem whileRunning_keepsMains {event : State → State} (h : ∀ s : State, s.KeepsMains (event s)) (s : State) :
    s.KeepsMains (whileRunning event s) := by
  unfold whileRunning
  split
  · exact h s
  · exact .refl s

/-- The events of the Mains Timebase and of Phase Supervision, the starts, and the end of a response, which can be a
start: the commands that reach the straps, the phases or the timebase. -/
def Instr.reachesMains : Instr → Bool
  | .start _ | .zeroCrossingEdge _ _ _ | .syntheticCycleEnd | .flywheelLimitReached | .failover | .cycleMarkDue
  | .sagSample _ | .filteredSagLevelChange _ | .crossingPresenceChange _ | .sagDelay _ | .holdComplete _
  | .responseTransmissionEnd _ => true
  | _ => false

/-- Every other command leaves them alone. -/
theorem exec_keepsMains (c : Instr) (s : State) (h : Instr.reachesMains c = false) : s.KeepsMains (execState c s) := by
  have event {body : State → State} (h : ∀ s : State, s.KeepsMains (body s)) :
      s.KeepsMains (whileRunning (fun s => finish (body s)) s) :=
    whileRunning_keepsMains (fun s => event_keepsMains (h s)) s
  have frame (port : Port) (f : Frame) : s.KeepsMains (whileRunning (frameComes port f) s) :=
    whileRunning_keepsMains (frameComes_keepsMains port f) s
  have request (src tag : Byte) (payload : List Byte) : s.KeepsMains (whileRunning (requestArrives src tag payload) s) :=
    whileRunning_keepsMains (fun s => frameComes_keepsMains _ _ s) s
  cases c with
  | start | zeroCrossingEdge | syntheticCycleEnd | flywheelLimitReached | failover | cycleMarkDue | sagSample
  | filteredSagLevelChange | crossingPresenceChange | sagDelay | holdComplete | responseTransmissionEnd => cases h
  | resetLineLow => exact .of_eq
  | supplyBelowThreshold => exact .of_eq
  | windowClose => exact event closeIfDue_keepsMains
  | foldOfRecord => exact event foldStep_keepsMains
  | foldCompletion => exact event completeIfPast_keepsMains
  | budgetPeriodEnd => exact event budgetIfDue_keepsMains
  | passTrigger => exact event triggerIfDue_keepsMains
  | search => exact event searchStep_keepsMains
  | passCompletion => exact event completionStep_keepsMains
  | orderTransmissionEnd => exact whileRunning_keepsMains orderEnds_keepsMains s
  | withdrawal => exact event fun s => (withdrawTooNear_keeps s).keepsMains
  | replyDeadline => exact event fun s => .foldl (fun _ _ => .of_eq) _ s
  | reportDeadline => exact event fun s => .foldl (fun t e => (endUnreported_leaves e t).keepsMains) _ s
  | latestExecuteCycleExpiry => exact event fun s => (expireLatest_leaves s).keepsMains
  | queryTransmissionEnd => exact whileRunning_keepsMains queryEnds_keepsMains s
  | queryDeadline => exact event fun s => .foldl (fun t i => (spendTry_leaves t i).keepsMains) _ s
  | loadReading | transferAnswer | transferReport | phaseAnswer | foreignOrder | upstreamFrameArrival
  | downstreamFrameArrival => exact frame _ _
  | frameDropped port => exact whileRunning_keepsMains (loseFrame_keepsMains port) s
  | receptionAbandoned port => exact whileRunning_keepsMains (abandon_keepsMains port) s
  | transmissionEnd port => exact whileRunning_keepsMains (transmissionEnds_keepsMains port) s
  | characterReceived port char framingError =>
    exact whileRunning_keepsMains (takeCharacter_keepsMains port char framingError) s
  | managementRequest | readStatus | readPolicy | writePolicy | readSegment | writeSegment | readConsumer | writeConsumer
  | clearConsumer | readSums | setLock | clearFault | manualMove | cancelMoves | balancerControlStart
  | balancerControlHold | balancerControlStop | readSchedule | restart | unknownKind | balancerControlOtherAction =>
    exact request _ _ _

end Sys2Proof.Machine

namespace Sys2Proof.Machine

/-! ## The runs of the commands -/

theorem dropChoice_keepsMains (s : State) : s.KeepsMains (dropChoice s) := .of_eq

theorem noticeTimebase_keepsMains (before : SyncState × Phase) (s : State) : s.KeepsMains (noticeTimebase before s) := by
  unfold noticeTimebase
  split
  · exact .refl s
  · exact raiseNotice_keepsMains _ _ _

theorem filteredLevelChange_leaves (p : Phase) (s : State) : s.LeavesClock (filteredLevelChange p s) := by
  unfold filteredLevelChange
  dsimp only
  split
  · exact (setWatch_leaves p { s.watch p with sagActive := !(s.watch p).sagActive, filterRun := 0 } s).trans
      (onFilteredLevel_leaves p _)
  · exact .refl s

theorem presenceChange_leaves (p : Phase) (s : State) : s.LeavesClock (presenceChange p s) := by
  unfold presenceChange
  dsimp only
  split
  · exact .refl s
  · exact (setWatch_leaves p (s.watch p).withPresence s).trans (onPresence_leaves p _)

/-! ### The running of the tick counter -/

theorem State.MainsChange.straps {s t : State} (h : s.MainsChange t) : t.straps = s.straps := by
  cases h with
  | rest h => exact h.straps
  | tick | mark | reanchored => rfl
  | sample => exact (sampleAll_leaves s).straps
  | accepted => exact (cycleEnd_ends _ _).straps
  | reanchorEnd => exact (cycleEnd_ends _ _).straps
  | syntheticEnd => exact (cycleEnd_ends _ _).straps
  | unsync => unfold unsyncAtLimit; split <;> rfl
  | failover =>
    obtain ⟨q, pending, e, -⟩ := failoverIfDue_eq s
    rw [e]
  | markDue => unfold markIfDue; split <;> rfl
  | level p => exact (filteredLevelChange_leaves p s).straps
  | presence p => exact (presenceChange_leaves p s).straps
  | delay p => exact (sagDelayReached_leaves p s).straps
  | hold p => exact (holdReached_leaves p s).straps

/-- No run changes the straps. -/
theorem State.MainsPath.straps {s t : State} (h : s.MainsPath t) : t.straps = s.straps :=
  h.keeps (P := fun u => u.straps = s.straps) (fun _ _ hc hs => hc.straps.trans hs) rfl

/-- The limits stay while the straps do. -/
theorem limits_of_straps {s t : State} (h : t.straps = s.straps) :
    t.earlyLimit = s.earlyLimit ∧ t.lateLimit = s.lateLimit := by
  unfold State.earlyLimit State.lateLimit
  rw [h]
  exact ⟨rfl, rfl⟩

/-- A sample point lies within the active period (R66). -/
theorem nextSample_le {t : Timebase} {point : Nat} (h : t.nextSample = some point) : point ≤ t.activePeriod := by
  unfold Timebase.nextSample at h
  dsimp only at h
  split at h
  · rename_i hj
    cases h
    have hinterval : t.sampleInterval * Config.samplePoints ≤ t.activePeriod := Nat.div_mul_le_self ..
    rw [Nat.mul_comm]
    exact (Nat.mul_le_mul_left _ hj.le).trans hinterval
  · cases h

theorem sampleEvent_mainsPath {point : Nat} {s : State} (h : s.timebase.nextSample = some point) :
    s.MainsPath (sampleEvent point s) :=
  State.MainsPath.event (State.MainsPath.rest (.tail (.single (.tick (.inl (nextSample_le h)))) .sample)
    (dropChoice_keepsMains _))

theorem samplesUpTo_mainsPath (fuel tick : Nat) (s : State) : s.MainsPath (samplesUpTo fuel tick s) := by
  induction fuel generalizing s with
  | zero => exact .refl
  | succ fuel ih =>
    unfold samplesUpTo
    split
    · rename_i point hpoint
      split
      · exact (sampleEvent_mainsPath hpoint).trans (ih _)
      · exact .refl
    · exact .refl

theorem runTo_mainsPath {tick : Nat} {s : State} (h : tick < s.lateLimit) : s.MainsPath (runTo tick s) := by
  have hsampled := samplesUpTo_mainsPath Config.samplePoints tick s
  exact hsampled.tail (.tick (.inr ((limits_of_straps hsampled.straps).2 ▸ h)))

theorem lateLimitEvent_mainsPath (s : State) : s.MainsPath (lateLimitEvent s) := by
  have hsampled := samplesUpTo_mainsPath Config.samplePoints (s.lateLimit - 1) s
  have hend := hsampled.tail .syntheticEnd
  rw [(limits_of_straps hsampled.straps).2] at hend
  exact State.MainsPath.event (State.MainsPath.rest hend (dropChoice_keepsMains _))

theorem advance_mainsPath (n : Nat) (s : State) : s.MainsPath (advance n s) := by
  have hticks (fuel n : Nat) (s : State) : s.MainsPath (runTicks fuel n s) := by
    induction fuel generalizing n s with
    | zero => exact .refl
    | succ fuel ih =>
      unfold runTicks
      split
      · rename_i hbelow
        exact runTo_mainsPath hbelow
      · exact (lateLimitEvent_mainsPath s).trans (ih _ _)
  unfold advance
  split
  · exact .refl
  · exact hticks n n s

/-! ### Edges and the other commands -/

theorem crossing_mainsPath (s : State) : s.MainsPath (crossing s) := by
  cases hpending : s.timebase.reanchorPending with
  | true =>
    rw [crossing_reanchored hpending]
    split
    · exact .tail (.single (.reanchored hpending)) .reanchorEnd
    · exact .tail (.single (.reanchored hpending)) .sample
  | false =>
    by_cases hlate : s.earlyLimit ≤ s.timebase.tickCounter
    · rw [crossing_accepted hpending hlate]
      exact .single (.accepted hpending hlate)
    · rw [crossing_glitch hpending (Nat.not_le.mp hlate)]
      exact State.KeepsMains.path .of_eq

theorem edge_mainsPath (line : Phase) (s : State) : s.MainsPath (edge line s) := by
  by_cases h : line = s.timebase.reference
  · rcases edge_reference h with e | e
    · rw [e]
      exact State.MainsPath.rest (.trans (.single (.mark line)) (crossing_mainsPath _)) (dropChoice_keepsMains _)
    · rw [e]
      exact State.MainsPath.rest (.tail (crossing_mainsPath s) (.mark line)) (dropChoice_keepsMains _)
  · rw [edge_other h]
    exact State.MainsPath.rest (.single (.mark line)) (dropChoice_keepsMains _)

theorem sampleStep_mainsPath (s : State) : s.MainsPath (sampleStep s) := by
  unfold sampleStep
  split
  · rename_i point hpoint
    exact sampleEvent_mainsPath hpoint
  · exact .refl

theorem setSagLines_keepsMains (sag : PhaseSet) (s : State) : s.KeepsMains (setSagLines sag s) := .of_eq

theorem whileRunning_mainsPath {event : State → State} (h : ∀ s : State, s.MainsPath (event s)) (s : State) :
    s.MainsPath (whileRunning event s) := by
  unfold whileRunning
  split
  · exact h s
  · exact .refl

/-- Every command but START and the end of a response, which can be a start, is a run of such changes. -/
theorem exec_mainsPath (c : Instr) (s : State) (hstart : ∀ x, c ≠ .start x) (hend : ∀ x, c ≠ .responseTransmissionEnd x) :
    s.MainsPath (execState c s) := by
  have event {body : State → State} (h : ∀ s : State, s.MainsPath (body s)) :
      s.MainsPath (whileRunning (fun s => finish (body s)) s) := whileRunning_mainsPath (fun s => (h s).event) s
  have chosen {body : State → State} (h : ∀ s : State, s.MainsChange (body s)) :
      s.MainsPath (whileRunning (fun s => finish (dropChoice (body s))) s) :=
    event fun s => State.MainsPath.rest (.single (h s)) (dropChoice_keepsMains _)
  have noticed {body : State → State} (h : ∀ s : State, s.MainsChange (body s)) :
      s.MainsPath (whileRunning (fun s => finish (noticeTimebase s.lockState (body s))) s) :=
    event fun s => State.MainsPath.rest (.single (h s)) (noticeTimebase_keepsMains _ _)
  cases c
  case start x => exact absurd rfl (hstart x)
  case responseTransmissionEnd x => exact absurd rfl (hend x)
  case zeroCrossingEdge line elapsed sag =>
    exact event (body := fun s => edge line (setSagLines sag (advance elapsed s))) fun s =>
      ((advance_mainsPath elapsed s).rest (setSagLines_keepsMains sag _)).trans (edge_mainsPath line _)
  case syntheticCycleEnd => exact whileRunning_mainsPath lateLimitEvent_mainsPath s
  case flywheelLimitReached => exact noticed (body := unsyncAtLimit) fun _ => .unsync
  case failover => exact noticed (body := failoverIfDue) fun _ => .failover
  case cycleMarkDue => exact event fun _ => .single .markDue
  case sagSample sag =>
    exact whileRunning_mainsPath (fun s => (setSagLines_keepsMains sag s).path.trans (sampleStep_mainsPath _)) s
  case filteredSagLevelChange p => exact chosen (body := filteredLevelChange p) fun _ => .level p
  case crossingPresenceChange p => exact chosen (body := presenceChange p) fun _ => .presence p
  case sagDelay p => exact chosen (body := sagDelayReached p) fun _ => .delay p
  case holdComplete p => exact chosen (body := holdReached p) fun _ => .hold p
  all_goals exact (exec_keepsMains _ s rfl).path

/-- A step keeps what every change keeps and every start makes true. -/
theorem step_keeps_mains {P : State → Prop} (hchange : ∀ s t : State, s.MainsChange t → P s → P t)
    (hstart : ∀ sources straps s, P (startWith sources straps s)) {s t : State} (hs : P s) (h : step s = .next t) : P t := by
  have hkeeps {u v : State} (huv : u.KeepsMains v) (hu : P u) : P v := hchange u v (.rest huv) hu
  have hfinish (u : State) (hu : P u) : P (finish u) := hkeeps (finish_keepsMains u) hu
  unfold step at h
  split at h
  · rename_i c rest _
    rw [exec_eq_next] at h
    cases h
    have htaken : P { s with pending := rest } := hkeeps .of_eq hs
    generalize { s with pending := rest } = u at htaken
    by_cases hc : ∃ x, c = .start x
    · obtain ⟨straps, rfl⟩ := hc
      change P (match u.hold with
        | some sources => finish (startWith sources straps u)
        | none => u)
      split
      · exact hfinish _ (hstart _ _ _)
      · exact htaken
    · by_cases hr : ∃ x, c = .responseTransmissionEnd x
      · obtain ⟨straps, rfl⟩ := hr
        change P (whileRunning (responseEnds straps) u)
        unfold whileRunning responseEnds
        split
        · split
          · split
            · exact hfinish _ (hstart _ _ _)
            · exact hkeeps (State.KeepsMains.trans (t := endUp u) .of_eq (finishServing_keepsMains _)) htaken
          · exact htaken
        · exact htaken
      · exact (exec_mainsPath c u (not_exists.mp hc) (not_exists.mp hr)).keeps hchange htaken
  · cases h
    exact (whileRunning_mainsPath (advance_mainsPath 1) s).keeps hchange hs

end Sys2Proof.Machine

namespace Sys2Proof.Machine

/-! ## Phases stay graded (R64, R68, R69)

A cycle end updates the crossing presence before the conditions, so that in between a phase is graded by its filtered sag
level alone; the condition machine makes it graded again. -/

/-- What a condition says of the filtered sag level alone. -/
def PhaseWatch.SagGraded (w : PhaseWatch) : Prop :=
  match w.condition with
  | .healthy | .recovering _ => w.sagActive = false
  | .sag _ => w.sagActive = true
  | .lost => True

/-- A phase graded as its crossings and its filtered level say, with its runs in range. -/
def PhaseWatch.InOrder (w : PhaseWatch) : Prop := w.Graded ∧ w.absenceRun ≤ 3 ∧ w.presenceRun ≤ 3

section Grades
variable {w : PhaseWatch}

theorem PhaseWatch.graded_iff : w.Graded ↔ w.SagGraded ∧ (w.condition ≠ .lost → w.present = true) := by
  unfold PhaseWatch.Graded PhaseWatch.SagGraded
  cases w.condition with
  | healthy => simp [and_comm]
  | sag n => simp [and_comm]
  | lost => simp
  | recovering n => simp [and_comm]

/-- A filtered level that changes takes the condition with it (R70). -/
theorem PhaseWatch.SagGraded.onLevel {level : Bool} (h : w.SagGraded) (hlevel : level ≠ w.sagActive) (n : Nat) :
    PhaseWatch.SagGraded { w with sagActive := level, filterRun := n, condition := w.conditionOnLevel level } := by
  obtain ⟨c, a, f, e, pr, x, y⟩ := w
  have hnot : level = !a := Bool.eq_not_of_ne hlevel
  subst hnot
  unfold PhaseWatch.conditionOnLevel
  cases c with
  | healthy => cases (show a = false from h); rfl
  | sag n => cases (show a = true from h); rfl
  | recovering n => cases (show a = false from h); exact trivial
  | lost =>
    cases a with
    | false => exact trivial
    | true =>
      cases pr with
      | false => exact trivial
      | true => rfl

theorem PhaseWatch.Graded.onLevel {level : Bool} (h : w.Graded) (hlevel : level ≠ w.sagActive) (n : Nat) :
    PhaseWatch.Graded { w with sagActive := level, filterRun := n, condition := w.conditionOnLevel level } := by
  obtain ⟨hsag, hpresent⟩ := graded_iff.mp h
  refine graded_iff.mpr ⟨hsag.onLevel hlevel n, fun hleft => ?_⟩
  by_contra hp
  have hlost : w.condition = .lost := by
    by_contra hc
    exact hp (hpresent hc)
  refine hleft ?_
  unfold PhaseWatch.conditionOnLevel
  rw [hlost]
  cases level with
  | false => exact if_neg hp
  | true => rfl

/-- A sample counts towards a change of the filtered level, or makes it (R67). -/
theorem PhaseWatch.sampled_cases (level : Bool) (filter : Nat) (w : PhaseWatch) :
    (∃ n, w.sampled level filter = { w with filterRun := n })
      ∨ level ≠ w.sagActive ∧ w.sampled level filter
        = { w with sagActive := level, filterRun := 0, condition := w.conditionOnLevel level } := by
  by_cases hlevel : level = w.sagActive
  · exact .inl ⟨0, sampled_same hlevel⟩
  · by_cases hrun : filter ≤ w.filterRun + 1
    · exact .inr ⟨hlevel, sampled_turned hlevel hrun⟩
    · exact .inl ⟨_, sampled_running hlevel (Nat.not_le.mp hrun)⟩

theorem PhaseWatch.SagGraded.sampled (h : w.SagGraded) (level : Bool) (filter : Nat) :
    (w.sampled level filter).SagGraded := by
  rcases sampled_cases level filter w with ⟨n, e⟩ | ⟨hlevel, e⟩
  · rw [e]
    exact h
  · rw [e]
    exact h.onLevel hlevel 0

theorem PhaseWatch.InOrder.sampled (h : w.InOrder) (level : Bool) (filter : Nat) : (w.sampled level filter).InOrder := by
  obtain ⟨hgraded, hruns⟩ := h
  rcases sampled_cases level filter w with ⟨n, e⟩ | ⟨hlevel, e⟩
  · rw [e]
    exact ⟨hgraded, hruns⟩
  · rw [e]
    exact ⟨hgraded.onLevel hlevel 0, hruns⟩

/-- The presence update keeps the runs in range (R68). -/
theorem PhaseWatch.counted_runs (habsence : w.absenceRun ≤ 3) (hpresence : w.presenceRun ≤ 3) :
    w.counted.absenceRun ≤ 3 ∧ w.counted.presenceRun ≤ 3 := by
  unfold PhaseWatch.counted
  dsimp only
  constructor
  · split
    · omega
    · split <;> omega
  · split
    · split <;> omega
    · omega

/-- The condition machine of a cycle end grades the phase by its crossings as well (R69, R70, R71). -/
theorem PhaseWatch.SagGraded.conditionAtCycleEnd (h : w.SagGraded) (delay hold : Nat) :
    PhaseWatch.Graded { w with condition := w.conditionAtCycleEnd delay hold } := by
  obtain ⟨c, a, f, e, pr, x, y⟩ := w
  unfold PhaseWatch.conditionAtCycleEnd
  cases pr with
  | false => exact trivial
  | true =>
    cases c with
    | healthy => exact ⟨rfl, h⟩
    | sag n =>
      by_cases hn : delay ≤ n + 1
      · simp only [hn, if_true]
        exact trivial
      · simp only [hn, if_true, if_false]
        exact ⟨rfl, h⟩
    | lost =>
      cases a with
      | false => exact ⟨rfl, rfl⟩
      | true => exact trivial
    | recovering n =>
      cases (show a = false from h)
      by_cases hn : hold ≤ n + 1
      · simp only [hn, if_true, if_false, Bool.false_eq_true]
        exact ⟨rfl, rfl⟩
      · simp only [hn, if_true, if_false, Bool.false_eq_true]
        exact ⟨rfl, rfl⟩

theorem PhaseWatch.SagGraded.conditioned (h : w.SagGraded) (delay hold : Nat) (began : Bool) :
    (w.conditioned delay hold began).Graded := by
  unfold PhaseWatch.conditioned
  split
  · rename_i hstays
    obtain ⟨-, hpresent, -⟩ := hstays
    exact graded_iff.mpr ⟨h, fun _ => hpresent⟩
  · exact h.conditionAtCycleEnd delay hold

/-- Phase Supervision at a cycle end keeps a phase in order, whichever order its parts take (log 3, log 22). -/
theorem PhaseWatch.InOrder.atCycleEnd (h : w.InOrder) (how : CycleEnd) (c : Config.OrderChoice) (policy : Policy)
    (level : Bool) : (w.atCycleEnd how c policy level).InOrder := by
  have hcondition {x : PhaseWatch} (hx : x.SagGraded) (hruns : x.absenceRun ≤ 3 ∧ x.presenceRun ≤ 3) :
      (x.conditioned policy.sagDelay policy.recoveryHold w.recovers).InOrder := by
    obtain ⟨-, habsence, hpresence, -⟩ := conditioned_sameRuns policy.sagDelay policy.recoveryHold w.recovers x
    exact ⟨hx.conditioned _ _ _, habsence ▸ hruns.1, hpresence ▸ hruns.2⟩
  have hcounted {x : PhaseWatch} (hx : x.InOrder) :
      x.counted.SagGraded ∧ x.counted.absenceRun ≤ 3 ∧ x.counted.presenceRun ≤ 3 := by
    obtain ⟨hgraded, habsence, hpresence⟩ := hx
    exact ⟨(graded_iff.mp hgraded).1, counted_runs habsence hpresence⟩
  obtain ⟨hsag, hruns⟩ := hcounted h
  have hboth : (if c.sampleFirst then
      (w.counted.sampled level policy.sagFilter).conditioned policy.sagDelay policy.recoveryHold w.recovers
      else (w.counted.conditioned policy.sagDelay policy.recoveryHold w.recovers).sampled level policy.sagFilter).InOrder := by
    split
    · obtain ⟨-, habsence, hpresence, -⟩ := sampled_sameRuns level policy.sagFilter w.counted
      exact hcondition (hsag.sampled level _) ⟨habsence ▸ hruns.1, hpresence ▸ hruns.2⟩
    · exact (hcondition hsag hruns).sampled level _
  unfold PhaseWatch.atCycleEnd
  cases how with
  | synthetic => exact hcondition hsag hruns
  | accepted => exact hboth
  | reanchor =>
    dsimp only
    split
    · obtain ⟨hsag, hruns⟩ := hcounted (h.sampled level policy.sagFilter)
      exact hcondition hsag hruns
    · exact hboth

end Grades

/-! ### The commands of Phase Supervision -/

section Phases
variable {s t : State} {p : Phase}

/-- Phases in order stay so where one of them takes another watch in order. -/
theorem State.PhasesRight.set (h : s.PhasesRight) {w : PhaseWatch} (hw : w.InOrder)
    (ht : t.supervision.phases = s.supervision.phases.set p w) : t.PhasesRight := fun q => by
  change (t.supervision.phases.get q).InOrder
  rw [ht]
  by_cases hq : q = p
  · rw [hq, PerPhase.get_set_same]
    exact hw
  · rw [PerPhase.get_set_other _ _ hq]
    exact h q

theorem State.PhasesRight.congr (h : s.PhasesRight) (ht : t.supervision.phases = s.supervision.phases) :
    t.PhasesRight := fun q => by
  change (t.supervision.phases.get q).InOrder
  rw [ht]
  exact h q

/-- A phase takes another condition, its runs untouched. -/
theorem PhaseWatch.InOrder.condition {w : PhaseWatch} {c : Condition} (h : w.InOrder)
    (hc : PhaseWatch.Graded { w with condition := c }) : PhaseWatch.InOrder { w with condition := c } := ⟨hc, h.2⟩

theorem filteredLevelChange_phasesRight (h : s.PhasesRight) : (filteredLevelChange p s).PhasesRight := by
  have hw : (s.watch p).InOrder := h p
  unfold filteredLevelChange
  dsimp only
  split
  · refine h.set (p := p) ⟨hw.1.onLevel (Bool.not_ne_self _) 0, hw.2⟩ ?_
    rw [onFilteredLevel_phases, watch_setWatch_same]
    exact PerPhase.set_set _ _ _ _
  · exact h

theorem sagDelayReached_phasesRight (h : s.PhasesRight) : (sagDelayReached p s).PhasesRight := by
  unfold sagDelayReached
  split
  · split
    · exact h.set (PhaseWatch.InOrder.condition (c := .lost) (h p) trivial) (changeCondition_phases ..)
    · exact h
  · exact h
  · exact h
  · exact h

theorem holdReached_phasesRight (h : s.PhasesRight) : (holdReached p s).PhasesRight := by
  unfold holdReached
  dsimp only
  split
  · split
    · rename_i hreached
      simp only [Bool.and_eq_true, Bool.not_eq_true'] at hreached
      exact h.set (PhaseWatch.InOrder.condition (c := .healthy) (h p) ⟨hreached.1.2, hreached.2⟩) (changeCondition_phases ..)
    · exact h
  · exact h
  · exact h
  · exact h

/-- The condition machine on a crossing presence: a phase graded by its sag level is graded by both (R70). -/
theorem onPresence_phasesRight {w : PhaseWatch} (h : s.PhasesRight) (hsag : w.SagGraded)
    (hruns : w.absenceRun ≤ 3 ∧ w.presenceRun ≤ 3) : (onPresence p (s.setWatch p w)).PhasesRight := by
  have hset {c : Condition} (hc : PhaseWatch.Graded { w with condition := c }) (cause : ConditionCause) :
      (changeCondition p c cause (s.setWatch p w)).PhasesRight := by
    refine h.set (p := p) (w := { w with condition := c }) ⟨hc, hruns⟩ ?_
    rw [changeCondition_phases, watch_setWatch_same]
    exact PerPhase.set_set _ _ _ _
  have hstays (hpresent : w.condition ≠ .lost → w.present = true) : (s.setWatch p w).PhasesRight :=
    h.set ⟨PhaseWatch.graded_iff.mpr ⟨hsag, hpresent⟩, hruns⟩ rfl
  unfold onPresence
  dsimp only
  rw [watch_setWatch_same]
  split
  · rename_i hlost
    split
    · rename_i hboth
      simp only [Bool.and_eq_true, Bool.not_eq_true'] at hboth
      exact hset (c := .recovering 0) hboth _
    · exact hstays fun hc => absurd hlost hc
  all_goals
    split
    · rename_i hpresent
      exact hstays fun _ => hpresent
    · exact hset (c := .lost) trivial _

theorem presenceChange_phasesRight (h : s.PhasesRight) : (presenceChange p s).PhasesRight := by
  have hpresence : (s.watch p).withPresence.SagGraded
      ∧ (s.watch p).withPresence.absenceRun ≤ 3 ∧ (s.watch p).withPresence.presenceRun ≤ 3 := by
    obtain ⟨hgraded, hruns⟩ := h p
    have hsag := (PhaseWatch.graded_iff.mp hgraded).1
    unfold PhaseWatch.withPresence
    split
    · exact ⟨hsag, hruns⟩
    · split
      · exact ⟨hsag, hruns⟩
      · exact ⟨hsag, hruns⟩
  unfold presenceChange
  dsimp only
  split
  · exact h
  · exact onPresence_phasesRight h hpresence.1 hpresence.2

end Phases

/-- Phases are in order after every cycle end. -/
theorem State.Ends.phasesRight {how : CycleEnd} {s t u : State} (h : t.Ends how u) (hs : s.PhasesRight)
    (ht : t.supervision.phases = s.supervision.phases) : u.PhasesRight := fun p => by
  change (u.watch p).InOrder
  rw [h.phases]
  exact PhaseWatch.InOrder.atCycleEnd (hs.congr ht p) ..

theorem State.MainsChange.phasesRight {s t : State} (h : s.MainsChange t) (hs : s.PhasesRight) : t.PhasesRight := by
  cases h with
  | rest h => exact hs.congr h.phases
  | tick | reanchored => exact hs
  | sample =>
    intro p
    change ((sampleAll s).watch p).InOrder
    rw [watch_sampleAll]
    exact PhaseWatch.InOrder.sampled (hs p) _ _
  | mark line => exact hs.set (w := { s.watch line with edgeSeen := true }) (hs line) rfl
  | accepted => exact (cycleEnd_ends _ _).phasesRight hs rfl
  | reanchorEnd => exact (cycleEnd_ends _ _).phasesRight hs rfl
  | syntheticEnd => exact (cycleEnd_ends _ _).phasesRight hs rfl
  | unsync => exact hs.congr (by unfold unsyncAtLimit; split <;> rfl)
  | failover => exact hs.congr (by unfold failoverIfDue; split <;> rfl)
  | markDue => exact hs.congr (by unfold markIfDue; split <;> rfl)
  | level p => exact filteredLevelChange_phasesRight hs
  | presence p => exact presenceChange_phasesRight hs
  | delay p => exact sagDelayReached_phasesRight hs
  | hold p => exact holdReached_phasesRight hs

theorem startWith_phasesRight (sources : ResetSources) (straps : Straps) (s : State) :
    (startWith sources straps s).PhasesRight := fun p => by
  rw [startWith_eq]
  change ((PerPhase.const PhaseWatch.start).get p).InOrder
  rw [PerPhase.get_const]
  exact ⟨⟨rfl, rfl⟩, Nat.zero_le _, Nat.zero_le _⟩

end Sys2Proof.Machine

namespace Sys2Proof.Machine

/-! ## Every step keeps the timebase in order (O60) -/

/-- The timebase in order between the two limits (R46, R50, R51, R55). -/
def Timebase.InOrder (early late : Nat) (t : Timebase) : Prop :=
  early ≤ t.activePeriod ∧ t.activePeriod < late ∧ t.tickCounter < late
    ∧ t.acceptedRun ≤ 4 ∧ t.syntheticRun ≤ 255 ∧ t.referenceRun ≤ 1
    ∧ (t.sync = .synced →
        t.acceptedRun = 4 ∧ t.syntheticRun = 0 ∧ t.referenceRun = 0 ∧ t.reanchorPending = false)

theorem State.timebaseRight_iff {s : State} :
    s.TimebaseRight ↔ s.timebase.InOrder s.earlyLimit s.lateLimit := Iff.rfl

/-- The timebase but for the counts that its order says nothing of (R48, R59). -/
def Timebase.unmarked (t : Timebase) : Timebase := { t with cycleCount := 0, markCounter := 0, markWaiting := false }

section Order
variable {early late : Nat} {t u : Timebase}

theorem Timebase.InOrder.congr (h : t.InOrder early late) (hu : u.unmarked = t.unmarked) : u.InOrder early late := by
  have hunmarked : t.unmarked.InOrder early late := h
  rw [← hu] at hunmarked
  exact hunmarked

theorem Timebase.InOrder.tick (h : t.InOrder early late) {n : Nat} (hn : n < late) :
    Timebase.InOrder early late { t with tickCounter := n } := by
  obtain ⟨hlow, hhigh, -, hrest⟩ := h
  exact ⟨hlow, hhigh, hn, hrest⟩

/-- An accepted crossing ends the cycle: its tick count is the next active period (R51, R55). -/
theorem Timebase.InOrder.accepted (h : t.InOrder early late) (hpending : t.reanchorPending = false)
    (hearly : early ≤ t.tickCounter) (limit : Nat) (q : Phase) (pending : Bool) :
    (t.accepted.atCycleEnd .accepted limit q pending).InOrder early late := by
  obtain ⟨-, hhigh, htick, haccepted, -, -, hsynced⟩ := h
  refine ⟨hearly, htick, Nat.zero_lt_of_lt htick, raise_le haccepted, Nat.zero_le _, Nat.zero_le _, fun hs => ?_⟩
  refine ⟨?_, rfl, rfl, hpending⟩
  change (if 4 ≤ raise 4 t.acceptedRun then SyncState.synced else t.sync) = .synced at hs
  have hfour : 4 ≤ raise 4 t.acceptedRun := by
    split at hs
    · assumption
    · exact (hsynced hs).1 ▸ le_raise 4 t.acceptedRun
  exact Nat.le_antisymm (raise_le haccepted) hfour

/-- A crossing re-anchors only where the state is not SYNCED (R54, R55). -/
theorem Timebase.InOrder.reanchored (h : t.InOrder early late) (hpending : t.reanchorPending = true) :
    t.reanchored.InOrder early late := by
  obtain ⟨hlow, hhigh, htick, -, -, -, hsynced⟩ := h
  refine ⟨hlow, hhigh, Nat.zero_lt_of_lt htick, Nat.zero_le _, Nat.zero_le _, Nat.zero_le _, fun hs => ?_⟩
  have hnone := (hsynced hs).2.2.2
  rw [hpending] at hnone
  cases hnone

/-- The late limit ends the cycle: no state is SYNCED after it, and a second missed end of the reference fails over (R52,
R55, R57). -/
theorem Timebase.InOrder.synthetic (h : t.InOrder early late) (hearly : 0 < early) (limit : Nat) (q : Phase)
    (pending : Bool) : ((t.synthetic late).atCycleEnd .synthetic limit q pending).InOrder early late := by
  obtain ⟨hlow, hhigh, htick, -, hsynthetic, hreference, -⟩ := h
  refine ⟨hlow, hhigh, ?_, Nat.zero_le _, raise_le hsynthetic, ?_, fun hs => ?_⟩
  · change late - t.activePeriod < late
    omega
  · change (if 2 ≤ t.referenceRun + 1 then 0 else t.referenceRun + 1) ≤ 1
    split <;> omega
  · change (match t.sync with
      | .synced => SyncState.flywheel
      | .flywheel => if limit ≤ raise 255 t.syntheticRun then .unsynced else .flywheel
      | .unsynced => .unsynced) = .synced at hs
    split at hs
    · cases hs
    · split at hs <;> cases hs
    · cases hs

theorem Timebase.start_inOrder (mains60 : Bool) :
    (Timebase.start mains60).InOrder (Config.earlyLimit mains60) (Config.lateLimit mains60) := by
  refine ⟨?_, ?_, ?_, Nat.zero_le _, Nat.zero_le _, Nat.zero_le _, fun hs => nomatch hs⟩ <;> cases mains60 <;> decide

end Order

/-! ### The changes of the mains -/

/-- The straps stay, and the timebase is brought to order by the limits before. -/
theorem State.TimebaseRight.of_straps {s u : State} (hstraps : u.straps = s.straps)
    (h : u.timebase.InOrder s.earlyLimit s.lateLimit) : u.TimebaseRight := by
  obtain ⟨hearly, hlate⟩ := limits_of_straps hstraps
  rw [State.timebaseRight_iff, hearly, hlate]
  exact h

/-- A timebase unchanged but for its counts. -/
theorem State.TimebaseRight.congr {s u : State} (hs : s.TimebaseRight) (hstraps : u.straps = s.straps)
    (h : u.timebase.unmarked = s.timebase.unmarked) : u.TimebaseRight :=
  .of_straps hstraps (Timebase.InOrder.congr (State.timebaseRight_iff.mp hs) h)

theorem earlyLimit_pos (s : State) : 0 < s.earlyLimit := by
  unfold State.earlyLimit
  cases s.straps.mains60 <;> decide

/-- The timebase of a cycle end, but for its counts. -/
theorem State.Ends.unmarked {how : CycleEnd} {s u : State} (h : s.Ends how u) :
    ∃ q pending, u.timebase.unmarked
      = (s.timebase.atCycleEnd how s.management.active.flywheelLimit q pending).unmarked := by
  obtain ⟨q, pending, e, -⟩ := h.timebase
  refine ⟨q, pending, ?_⟩
  rw [e]
  cases how <;> rfl

/-- The limit of a flywheel is not reached by a state that is SYNCED (R55). -/
theorem unsyncAtLimit_timebaseRight {s : State} (hs : s.TimebaseRight) : (unsyncAtLimit s).TimebaseRight := by
  unfold unsyncAtLimit
  split
  · obtain ⟨hlow, hhigh, htick, haccepted, hsynthetic, hreference, -⟩ := hs
    exact ⟨hlow, hhigh, htick, haccepted, hsynthetic, hreference, fun h => nomatch h⟩
  · exact hs

/-- Between steps no failover is due: the cycle end that missed the reference twice has made it (R57). -/
theorem failoverIfDue_of_timebaseRight {s : State} (hs : s.TimebaseRight) : failoverIfDue s = s := by
  obtain ⟨-, -, -, -, -, hreference, -⟩ := hs
  unfold failoverIfDue
  rw [if_neg (Nat.not_le.mpr (Nat.lt_succ_of_le hreference))]

theorem State.MainsChange.timebaseRight {s t : State} (h : s.MainsChange t) (hs : s.TimebaseRight) :
    t.TimebaseRight := by
  have hstraps := h.straps
  have horder : s.timebase.InOrder s.earlyLimit s.lateLimit := hs
  cases h with
  | rest h => exact hs.congr hstraps (congrArg Timebase.unmarked h.timebase :)
  | tick hn => exact horder.tick (hn.elim (fun hn => hn.trans_lt horder.2.1) id)
  | sample => exact hs.congr hstraps (congrArg Timebase.unmarked (sampleAll_leaves s).timebase)
  | mark => exact hs
  | accepted hpending hlate =>
    obtain ⟨q, pending, e⟩ := (cycleEnd_ends .accepted { s with timebase := s.timebase.accepted }).unmarked
    exact .of_straps hstraps ((horder.accepted hpending hlate _ q pending).congr e)
  | reanchored hpending => exact horder.reanchored hpending
  | reanchorEnd =>
    obtain ⟨q, pending, e⟩ := (cycleEnd_ends .reanchor s).unmarked
    exact hs.congr hstraps e
  | syntheticEnd =>
    obtain ⟨q, pending, e⟩ := (cycleEnd_ends .synthetic { s with timebase := s.timebase.synthetic s.lateLimit }).unmarked
    exact .of_straps hstraps ((horder.synthetic (earlyLimit_pos s) _ q pending).congr e)
  | unsync => exact unsyncAtLimit_timebaseRight hs
  | failover => rwa [failoverIfDue_of_timebaseRight hs]
  | markDue => exact hs.congr hstraps (by unfold markIfDue; split <;> rfl)
  | level p => exact hs.congr hstraps (congrArg Timebase.unmarked (filteredLevelChange_leaves p s).timebase)
  | presence p => exact hs.congr hstraps (congrArg Timebase.unmarked (presenceChange_leaves p s).timebase)
  | delay p => exact hs.congr hstraps (congrArg Timebase.unmarked (sagDelayReached_leaves p s).timebase)
  | hold p => exact hs.congr hstraps (congrArg Timebase.unmarked (holdReached_leaves p s).timebase)

/-- Every start takes its limits and its timebase from the same straps (R47, R63). -/
theorem startWith_timebaseRight (sources : ResetSources) (straps : Straps) (s : State) :
    (startWith sources straps s).TimebaseRight := by
  rw [startWith_eq]
  exact Timebase.start_inOrder straps.mains60

/-- Settles O60: what a step does to the mains is a run of changes (`step_keeps_mains`), each of which keeps the phases
graded and the timebase in order, or a start, which sets both in order. -/
theorem phasesAndTimebaseAreKept : Obligations.PhasesAndTimebaseAreKept :=
  ⟨fun _ _ hs h => step_keeps_mains (fun _ _ hc hu => hc.phasesRight hu) startWith_phasesRight hs h,
    fun _ _ hs h => step_keeps_mains (fun _ _ hc hu => hc.timebaseRight hu) startWith_timebaseRight hs h⟩

end Sys2Proof.Machine

namespace Sys2Proof.Machine

/-! ## The limits and the cycle count (O9, O13) -/

theorem finish_straps (s : State) : (finish s).straps = s.straps := (finish_keepsMains s).straps

theorem startWith_straps (sources : ResetSources) (straps : Straps) (s : State) :
    (startWith sources straps s).straps = straps := by
  rw [startWith_eq]
  rfl

/-- Settles O9: the six values compute, a START reads the straps that the limits are computed from, and no run of changes
of the mains touches the straps. -/
theorem mainsStrapSetsTheLimits : Obligations.MainsStrapSetsTheLimits := by
  refine ⟨rfl, rfl, rfl, rfl, rfl, rfl, fun straps s t hheld h => ?_, fun c s t hstart hend h => ?_⟩
  · obtain ⟨sources, hsources⟩ := Option.ne_none_iff_exists'.mp hheld
    rw [exec_start hsources] at h
    cases h
    unfold State.earlyLimit State.lateLimit
    rw [finish_straps, startWith_straps]
    exact ⟨rfl, rfl⟩
  · rw [exec_eq_next] at h
    cases h
    exact limits_of_straps (exec_mainsPath c s hstart hend).straps

/-! ### The cycle count -/

/-- The cycle count stays. -/
def State.KeepsCount (s t : State) : Prop := t.timebase.cycleCount = s.timebase.cycleCount

namespace State.KeepsCount
variable {s t u : State}

theorem trans (h : s.KeepsCount t) (k : t.KeepsCount u) : s.KeepsCount u := Eq.trans k h

theorem of_keepsMains (h : s.KeepsMains t) : s.KeepsCount t := (congrArg Timebase.cycleCount h.timebase :)

theorem of_leavesClock (h : s.LeavesClock t) : s.KeepsCount t := congrArg Timebase.cycleCount h.timebase

theorem whileRunning {event : State → State} (h : ∀ s : State, s.KeepsCount (event s)) (s : State) :
    s.KeepsCount (Machine.whileRunning event s) := by
  unfold Machine.whileRunning
  split
  · exact h s
  · exact rfl

end State.KeepsCount

theorem sampleStep_keepsCount (s : State) : s.KeepsCount (sampleStep s) := by
  unfold sampleStep
  split
  · rename_i point _
    have hsample : (setTick point s).KeepsCount (sampleAll (setTick point s)) := .of_leavesClock (sampleAll_leaves _)
    exact State.KeepsCount.trans (s := setTick point s) hsample (.of_keepsMains (event_keepsMains (dropChoice_keepsMains _)))
  · exact rfl

/-- Settles O13: of the commands that reach the mains, the timebase's own change its state, its reference or its marks,
and those of Phase Supervision leave it. -/
theorem cycleCountChangesAtCycleEndsOnly : Obligations.CycleCountChangesAtCycleEndsOnly := by
  intro c s t hedge hsynthetic hstart hend h
  rw [exec_eq_next] at h
  cases h
  have event {body : State → State} (h : ∀ s : State, s.KeepsCount (body s)) :
      s.KeepsCount (whileRunning (fun s => finish (body s)) s) :=
    .whileRunning (fun s => (h s).trans (.of_keepsMains (finish_keepsMains _))) s
  have noticed {body : State → State} (h : ∀ s : State, s.KeepsCount (body s)) :
      s.KeepsCount (whileRunning (fun s => finish (noticeTimebase s.lockState (body s))) s) :=
    event fun s => (h s).trans (.of_keepsMains (noticeTimebase_keepsMains _ _))
  have chosen {body : State → State} (h : ∀ s : State, s.LeavesClock (body s)) :
      s.KeepsCount (whileRunning (fun s => finish (dropChoice (body s))) s) :=
    event fun s => (State.KeepsCount.of_leavesClock (h s)).trans (.of_keepsMains (dropChoice_keepsMains _))
  change s.KeepsCount (execState c s)
  cases c
  case zeroCrossingEdge line elapsed sag => exact absurd rfl (hedge line elapsed sag)
  case syntheticCycleEnd => exact absurd rfl hsynthetic
  case start straps => exact absurd rfl (hstart straps)
  case responseTransmissionEnd straps => exact absurd rfl (hend straps)
  case flywheelLimitReached =>
    exact noticed (body := unsyncAtLimit) fun s => by
      unfold unsyncAtLimit
      split <;> exact rfl
  case failover =>
    exact noticed (body := failoverIfDue) fun s => by
      unfold failoverIfDue
      split <;> exact rfl
  case cycleMarkDue =>
    exact event (body := markIfDue) fun s => by
      unfold markIfDue
      split <;> exact rfl
  case sagSample sag =>
    exact .whileRunning (fun s => State.KeepsCount.trans (t := setSagLines sag s) rfl (sampleStep_keepsCount _)) s
  case filteredSagLevelChange p => exact chosen (filteredLevelChange_leaves p)
  case crossingPresenceChange p => exact chosen (presenceChange_leaves p)
  case sagDelay p => exact chosen (sagDelayReached_leaves p)
  case holdComplete p => exact chosen (holdReached_leaves p)
  all_goals exact .of_keepsMains (exec_keepsMains _ s rfl)

end Sys2Proof.Machine

namespace Sys2Proof.Machine

/-! ## What stands aside from the exchanges

Outside the Order Scheduler a cycle end touches the Move Schedule, the queries and the states of the records nowhere: the
other blocks leave all of them as they find them. -/

/-- A record without its rescue attempts and its move count. -/
def Consumer.dealings (r : Consumer) : Consumer := { r with rescue := none, moveCount := 0 }

/-- A change that stands aside from the exchanges, which see the scheduler, the records, the cycle number and the policy;
the tree and the hold stay too. -/
structure State.StandsAside (s t : State) : Prop where
  records : ∀ i, (t.record i).map Consumer.dealings = (s.record i).map Consumer.dealings
  scheduler : t.scheduler = s.scheduler
  cycleCount : t.timebase.cycleCount = s.timebase.cycleCount
  management : t.management = s.management
  active : t.tables.active = s.tables.active
  hold : t.hold = s.hold

namespace State.StandsAside
variable {s t u : State}

/-- The records and all else that the exchanges see are the same. -/
theorem of_eq (hconsumers : t.tables.consumers = s.tables.consumers := by rfl)
    (hscheduler : t.scheduler = s.scheduler := by rfl)
    (hcount : t.timebase.cycleCount = s.timebase.cycleCount := by rfl)
    (hmanagement : t.management = s.management := by rfl) (hactive : t.tables.active = s.tables.active := by rfl)
    (hhold : t.hold = s.hold := by rfl) : s.StandsAside t :=
  ⟨fun i => by rw [State.record, hconsumers, State.record], hscheduler, hcount, hmanagement, hactive, hhold⟩

theorem refl (s : State) : s.StandsAside s := .of_eq

theorem trans (h : s.StandsAside t) (k : t.StandsAside u) : s.StandsAside u where
  records i := (k.records i).trans (h.records i)
  scheduler := k.scheduler.trans h.scheduler
  cycleCount := k.cycleCount.trans h.cycleCount
  management := k.management.trans h.management
  active := k.active.trans h.active
  hold := k.hold.trans h.hold

theorem foldl {α : Type} {f : State → α → State} (hf : ∀ (s : State) (a : α), s.StandsAside (f s a)) (l : List α)
    (s : State) : s.StandsAside (l.foldl f s) :=
  foldl_keeps (P := s.StandsAside) (fun t a h => h.trans (hf t a)) l (.refl s)

/-- The Rescue Unit told of a record stands aside. -/
theorem of_tells {i : Nat} (h : s.TellsRescue i t) (k : s.KeepsRest t) : s.StandsAside t where
  records j := by
    by_cases hj : j = i
    · subst hj
      have hown := congrArg (Option.map Consumer.dealings) h.own
      rw [Option.map_map, Option.map_map] at hown
      exact hown
    · rw [h.around.others j hj]
  scheduler := h.scheduler
  cycleCount := congrArg Timebase.cycleCount h.around.timebase
  management := k.management
  active := k.active
  hold := k.hold

/-- A record keeps its dealings. -/
theorem record (h : s.StandsAside t) {i : Nat} {r : Consumer} (hr : s.record i = some r) :
    ∃ r', t.record i = some r' ∧ r'.dealings = r.dealings := by
  have hrecord := h.records i
  rw [hr, Option.map_some, Option.map_eq_some_iff] at hrecord
  exact hrecord

theorem now (h : s.StandsAside t) : t.now = s.now := by
  unfold State.now
  rw [h.cycleCount]

end State.StandsAside

/-! ### Records, notices and the Rescue Unit -/

theorem modifyRecord_aside (i : Nat) {f : Consumer → Consumer} (hf : ∀ r, (f r).dealings = r.dealings) (s : State) :
    s.StandsAside (s.modifyRecord i f) := by
  have hrecord : ∀ j, ((s.modifyRecord i f).record j).map Consumer.dealings = (s.record j).map Consumer.dealings :=
    fun j => by
      rw [record_modifyRecord]
      split
      · rw [Option.map_map]
        exact congrArg (Option.map · (s.record j)) (funext hf)
      · rfl
  obtain ⟨l, -, e⟩ := modifyRecord_eq i f s
  rw [e] at hrecord ⊢
  exact ⟨hrecord, rfl, rfl, rfl, rfl, rfl⟩

theorem queueNotice_aside (k : NoticeKind) (x : List Byte) (s : State) : s.StandsAside (queueNotice k x s) := by
  obtain ⟨n, l, e⟩ := queueNotice_eq k x s
  rw [e]
  exact .of_eq

theorem raiseNotice_aside (k : NoticeKind) (x : List Byte) (s : State) : s.StandsAside (raiseNotice k x s) := by
  obtain ⟨n, l, e⟩ := raiseNotice_eq k x s
  rw [e]
  exact .of_eq

theorem closeTest_aside (s : State) : s.StandsAside (closeTest s) :=
  .of_tells (closeTest_tells 0 s) (closeTest_keeps s)

theorem enlist_aside (i n : Nat) (p : Phase) (s : State) : s.StandsAside (enlist i n p s) :=
  State.StandsAside.trans (t := { s with rescue.list := insertInOrder s.listedBefore i s.rescue.list }) .of_eq
    (modifyRecord_aside i (f := fun r => { r with rescue := some ⟨n, p⟩ }) (fun _ => rfl) _)

theorem noteOutOfService_aside (i : Nat) (s : State) : s.StandsAside (noteOutOfService i s) := by
  unfold noteOutOfService
  split
  · exact State.StandsAside.trans (t := countUnrescuable (unlist i s)) .of_eq (closeTest_aside _)
  · exact .refl s

theorem rescueTrigger_aside (p : Phase) (s : State) : s.StandsAside (rescueTrigger p s) := by
  have hopen : s.StandsAside (openOrExtend p s) := by
    unfold openOrExtend
    split <;> exact .of_eq
  unfold rescueTrigger
  split
  · exact (hopen.trans (.foldl (fun t i => enlist_aside i 0 p t) _ _)).trans (closeTest_aside _)
  · exact .refl s

theorem rescueRecovery_aside (p : Phase) (s : State) : s.StandsAside (rescueRecovery p s) := by
  have hrestored (t : State) (i : Nat) : t.StandsAside (countRestored (unlist i t)) := .of_eq
  have hdrop (t : State) (i : Nat) : t.StandsAside (dropRescueMark i t) :=
    modifyRecord_aside i (f := fun r => { r with rescue := none }) (fun _ => rfl) t
  unfold rescueRecovery
  dsimp only
  refine State.StandsAside.trans ?_ (closeTest_aside _)
  split
  · exact ((State.StandsAside.foldl hrestored _ s).trans (.foldl hdrop _ _)).trans .of_eq
  · exact (State.StandsAside.foldl hrestored _ s).trans (.foldl hdrop _ _)

/-! ### Phase Supervision -/

theorem setWatch_aside (p : Phase) (w : PhaseWatch) (s : State) : s.StandsAside (s.setWatch p w) := .of_eq

theorem noticeCondition_aside (p : Phase) (left entered : Condition) (cause : ConditionCause) (s : State) :
    s.StandsAside (noticeCondition p left entered cause s) := by
  unfold noticeCondition
  dsimp only
  split
  · exact queueNotice_aside ..
  · exact queueNotice_aside ..
  · split
    · exact raiseNotice_aside ..
    · exact .refl s
  · split
    · exact raiseNotice_aside ..
    · exact .refl s
  · exact raiseNotice_aside ..
  · exact .refl s

theorem rescueOnCondition_aside (p : Phase) (left entered : Condition) (s : State) :
    s.StandsAside (rescueOnCondition p left entered s) := by
  unfold rescueOnCondition
  split
  · exact rescueTrigger_aside p s
  · exact rescueTrigger_aside p s
  · exact rescueRecovery_aside p s
  · exact .refl s

theorem changeCondition_aside (p : Phase) (entered : Condition) (cause : ConditionCause) (s : State) :
    s.StandsAside (changeCondition p entered cause s) := by
  refine (setWatch_aside p { s.watch p with condition := entered } s).trans ?_
  unfold changeCondition
  dsimp only
  split
  · exact (noticeCondition_aside ..).trans (rescueOnCondition_aside ..)
  · exact (rescueOnCondition_aside ..).trans (noticeCondition_aside ..)

theorem onFilteredLevel_aside (p : Phase) (s : State) : s.StandsAside (onFilteredLevel p s) := by
  unfold onFilteredLevel
  dsimp only
  split
  · exact changeCondition_aside ..
  · exact changeCondition_aside ..
  · exact changeCondition_aside ..
  · split
    · exact changeCondition_aside ..
    · exact .refl s
  · exact .refl s

theorem samplePhase_aside (level : Bool) (p : Phase) (s : State) : s.StandsAside (samplePhase level p s) := by
  have hfilter (t : State) : t.StandsAside (filteredLevelChange p t) := by
    unfold filteredLevelChange
    dsimp only
    split
    · exact (setWatch_aside p _ t).trans (onFilteredLevel_aside p _)
    · exact .refl t
  unfold samplePhase
  dsimp only
  split
  · exact setWatch_aside p _ s
  · exact (setWatch_aside p _ s).trans (hfilter _)

theorem onPresence_aside (p : Phase) (s : State) : s.StandsAside (onPresence p s) := by
  unfold onPresence
  dsimp only
  split
  · split
    · exact changeCondition_aside ..
    · exact .refl s
  all_goals
    split
    · exact .refl s
    · exact changeCondition_aside ..

theorem sagDelayReached_aside (p : Phase) (s : State) : s.StandsAside (sagDelayReached p s) := by
  unfold sagDelayReached
  split
  · split
    · exact changeCondition_aside ..
    · exact .refl s
  all_goals exact .refl s

theorem holdReached_aside (p : Phase) (s : State) : s.StandsAside (holdReached p s) := by
  unfold holdReached
  dsimp only
  split
  · split
    · exact changeCondition_aside ..
    · exact .refl s
  all_goals exact .refl s

theorem conditionAtCycleEnd_aside (began : PerPhase PhaseWatch) (p : Phase) (s : State) :
    s.StandsAside (conditionAtCycleEnd began p s) := by
  unfold conditionAtCycleEnd
  dsimp only
  split
  · split
    · exact .refl s
    · exact (setWatch_aside p _ s).trans (sagDelayReached_aside p _)
    · exact onPresence_aside p s
    · split
      · exact .refl s
      · exact (setWatch_aside p _ s).trans (holdReached_aside p _)
  · exact onPresence_aside p s

theorem sampleAll_aside (s : State) : s.StandsAside (sampleAll s) :=
  .foldl (fun t p => samplePhase_aside (t.supervision.sagLines.get p) p t) _ s

theorem presenceUpdates_aside (s : State) : s.StandsAside (presenceUpdates s) :=
  .foldl (fun t p => setWatch_aside p _ t) _ s

theorem conditionsAtCycleEnd_aside (began : PerPhase PhaseWatch) (s : State) :
    s.StandsAside (conditionsAtCycleEnd began s) :=
  .foldl (fun t p => conditionAtCycleEnd_aside began p t) _ s

theorem sampleAndConditions_aside (began : PerPhase PhaseWatch) (s : State) :
    s.StandsAside (sampleAndConditions began s) := by
  unfold sampleAndConditions
  split
  · exact (sampleAll_aside s).trans (conditionsAtCycleEnd_aside began _)
  · exact (conditionsAtCycleEnd_aside began s).trans (sampleAll_aside _)

theorem supervisionBlock_aside (how : CycleEnd) (s : State) : s.StandsAside (supervisionBlock how s) := by
  have hpresence := presenceUpdates_aside s
  unfold supervisionBlock
  dsimp only
  split
  · exact hpresence.trans (conditionsAtCycleEnd_aside _ _)
  · exact hpresence.trans (sampleAndConditions_aside _ _)
  · split
    · exact ((sampleAll_aside s).trans (presenceUpdates_aside _)).trans (conditionsAtCycleEnd_aside _ _)
    · exact hpresence.trans (sampleAndConditions_aside _ _)

/-! ### The Mains Timebase and what a cycle end counts -/

theorem noticeTimebase_aside (before : SyncState × Phase) (s : State) : s.StandsAside (noticeTimebase before s) := by
  unfold noticeTimebase
  split
  · exact .refl s
  · exact raiseNotice_aside ..

theorem unsyncAtLimit_aside (s : State) : s.StandsAside (unsyncAtLimit s) := by
  unfold unsyncAtLimit
  split
  · exact .of_eq
  · exact .refl s

theorem failoverIfDue_aside (s : State) : s.StandsAside (failoverIfDue s) := by
  unfold failoverIfDue
  split
  · exact .of_eq
  · exact .refl s

theorem timebaseAtCycleEnd_aside (how : CycleEnd) (s : State) : s.StandsAside (timebaseAtCycleEnd how s) := by
  refine State.StandsAside.trans ?_ (noticeTimebase_aside _ _)
  cases how with
  | accepted =>
    change s.StandsAside (syncAfterAccepted s)
    unfold syncAfterAccepted
    split
    · exact .of_eq
    · exact .refl s
  | reanchor => exact .refl s
  | synthetic =>
    refine State.StandsAside.trans ?_ (failoverIfDue_aside _)
    unfold syncAfterSynthetic
    split
    · exact .of_eq
    · exact unsyncAtLimit_aside s
    · exact .refl s

/-- A cycle end counted stands aside from the exchanges but for the cycle number, which all of it follows. -/
theorem countedCycle_aside (s : State) :
    State.StandsAside { s with timebase.cycleCount := s.timebase.cycleCount + 1 } (countedCycle s) := by
  obtain ⟨l, hbudget, hrecords⟩ := budgetAtCycleEnd_eq { s with timebase.cycleCount := s.timebase.cycleCount + 1 }
  have hbudgeted : State.StandsAside { s with timebase.cycleCount := s.timebase.cycleCount + 1 }
      (budgetAtCycleEnd { s with timebase.cycleCount := s.timebase.cycleCount + 1 }) := by
    refine ⟨fun i => ?_, ?_, ?_, ?_, ?_, ?_⟩
    · rw [hrecords, Option.map_map]
      rfl
    all_goals rw [hbudget]
  obtain ⟨x, hintake, -⟩ := intakeAtCycleEnd_eq (budgetAtCycleEnd { s with timebase.cycleCount := s.timebase.cycleCount + 1 })
  unfold countedCycle
  rw [marksAtCycleEnd_eq, hintake]
  exact hbudgeted.trans .of_eq

end Sys2Proof.Machine

namespace Sys2Proof.Machine

/-! ## The exchanges at a cycle end (R107, R114, R119, R123, R136, R137) -/

/-! ### One entry of the Move Schedule -/

/-- What a cycle end leaves of an entry (R114, R119, R123). -/
def MoveEntry.atCycleEnd (now : Word16) (e : MoveEntry) : Option MoveEntry :=
  if e.waits && tooNear e.execute now then none
  else if e.reportDue now then none
  else if e.replyDue now then some { e with stage := .unconfirmed }
  else some e

/-- What a cycle end makes of the state of the record that an entry names; `q` is a fresh query. -/
def MoveEntry.stateAtCycleEnd (now : Word16) (q : Query) (e : MoveEntry) (st : RecordState) : RecordState :=
  if e.waits && tooNear e.execute now then .settled
  else if e.reportDue now then .querying q
  else st

/-- What is left of an entry once the entries of some records have been visited. -/
def MoveEntry.passing (l : List Nat) (now : Word16) (x : MoveEntry) : Option MoveEntry :=
  if x.consumer ∈ l then x.atCycleEnd now else some x

theorem MoveEntry.consumer_of_atCycleEnd {now : Word16} {e x : MoveEntry} (h : e.atCycleEnd now = some x) :
    x.consumer = e.consumer := by
  unfold MoveEntry.atCycleEnd at h
  split at h
  · cases h
  · split at h
    · cases h
    · split at h <;> cases h <;> rfl

theorem MoveEntry.consumer_of_passing {l : List Nat} {now : Word16} {e x : MoveEntry} (h : e.passing l now = some x) :
    x.consumer = e.consumer := by
  unfold MoveEntry.passing at h
  split at h
  · exact MoveEntry.consumer_of_atCycleEnd h
  · cases h
    rfl

theorem MoveEntry.passing_other {l : List Nat} {now : Word16} {e : MoveEntry} (h : e.consumer ∉ l) :
    e.passing l now = some e := if_neg h

theorem MoveEntry.passing_own {l : List Nat} {now : Word16} {e : MoveEntry} (h : e.consumer ∈ l) :
    e.passing l now = e.atCycleEnd now := if_pos h

/-- Visits of different records, one after the other. -/
theorem MoveEntry.passing_append {l m : List Nat} (hdisjoint : l.Disjoint m) (now : Word16) (e : MoveEntry) :
    (e.passing l now).bind (MoveEntry.passing m now) = e.passing (l ++ m) now := by
  by_cases hl : e.consumer ∈ l
  · rw [passing_own hl, passing_own (List.mem_append_left m hl)]
    cases hleft : e.atCycleEnd now with
    | none => rfl
    | some x =>
      refine passing_other ?_
      rw [MoveEntry.consumer_of_atCycleEnd hleft]
      exact hdisjoint hl
  · rw [passing_other hl]
    unfold MoveEntry.passing
    simp only [Option.bind_some, List.mem_append, hl, false_or]

/-! ### An entry ended -/

/-- An entry ended: its record changed, the MOVE FAILED notice, and the Rescue Unit told (R114, R123). -/
def failEntry (point : FailurePoint) (reason : Byte) (f : Consumer → Consumer) (e : MoveEntry) (s : State) : State :=
  handOverEnd e (noticeMoveFailed e point reason none (closeEntry e.consumer f s))

theorem withdraw_eq (reason : Byte) (e : MoveEntry) (s : State) :
    withdraw reason e s = failEntry .order reason (fun r => { r with state := .settled }) e s := rfl

theorem endUnreported_eq (e : MoveEntry) (s : State) :
    endUnreported e s = failEntry .deadline reasonNoReport (unreported e s.freshQuery) e s := rfl

theorem failEntry_spec (point : FailurePoint) (reason : Byte) (f : Consumer → Consumer) (e : MoveEntry) (s : State) :
    s.Around e.consumer (failEntry point reason f e s) ∧ (failEntry point reason f e s).hold = s.hold
      ∧ ((failEntry point reason f e s).record e.consumer).map Consumer.bare
        = (s.record e.consumer).map fun r => (f r).bare := by
  have htold := handOverEnd_tells e (noticeMoveFailed e point reason none (closeEntry e.consumer f s))
  have hclosed : (closeEntry e.consumer f s).hold = s.hold := by
    obtain ⟨l, sums, -, h⟩ := closeEntry_eq e.consumer f s
    rw [h]
  refine ⟨((closeEntry_around e.consumer f s).trans (raiseNotice_around ..)).trans htold.around,
    ((handOverEnd_keeps e _).hold.trans (raiseNotice_keeps _ _ _).hold).trans hclosed, ?_⟩
  have hown := htold.own
  rw [noticeMoveFailed, record_raiseNotice, record_closeEntry, if_pos rfl, Option.map_map] at hown
  exact hown

/-! ### The visits of a cycle end -/

/-- The entries of some records have been visited (R114, R119, R123). -/
structure State.Visits (l : List Nat) (s t : State) : Prop where
  schedule : t.scheduler.schedule = s.scheduler.schedule.filterMap (MoveEntry.passing l s.now)
  scheduler : { t.scheduler with schedule := s.scheduler.schedule } = s.scheduler
  others : ∀ i, i ∉ l → t.record i = s.record i
  own : ∀ e ∈ s.scheduler.schedule, e.consumer ∈ l → ∀ r, s.record e.consumer = some r →
    ∃ r', t.record e.consumer = some r' ∧ r'.state = e.stateAtCycleEnd s.now s.freshQuery r.state
  leaves : s.LeavesPhases t
  hold : t.hold = s.hold

namespace State.Visits
variable {l m : List Nat} {s t u : State}

theorem now (h : s.Visits l t) : t.now = s.now := now_of_timebase h.leaves.timebase

theorem freshQuery (h : s.Visits l t) : t.freshQuery = s.freshQuery := by
  unfold State.freshQuery
  rw [h.leaves.management]

theorem latest (h : s.Visits l t) : t.scheduler.latestExecute = s.scheduler.latestExecute :=
  (congrArg Scheduler.latestExecute h.scheduler :)

theorem tagCounter (h : s.Visits l t) : t.scheduler.tagCounter = s.scheduler.tagCounter :=
  (congrArg Scheduler.tagCounter h.scheduler :)

theorem refl (s : State) : s.Visits [] s where
  schedule := by
    have hpassing : MoveEntry.passing [] s.now = some := funext fun x => MoveEntry.passing_other List.not_mem_nil
    rw [hpassing, List.filterMap_some]
  scheduler := rfl
  others _ _ := rfl
  own _ _ hl := absurd hl List.not_mem_nil
  leaves := .refl s
  hold := rfl

theorem trans (h : s.Visits l t) (k : t.Visits m u) (hdisjoint : l.Disjoint m) : s.Visits (l ++ m) u where
  schedule := by
    rw [k.schedule, h.schedule, h.now, List.filterMap_filterMap]
    exact List.filterMap_congr fun e _ => MoveEntry.passing_append hdisjoint s.now e
  scheduler := by
    have hfirst := h.scheduler
    have hsecond := k.scheduler
    rw [← hsecond] at hfirst
    exact hfirst
  others i hi := by
    rw [List.mem_append, not_or] at hi
    exact (k.others i hi.2).trans (h.others i hi.1)
  own e he hmem r hr := by
    rcases List.mem_append.mp hmem with hl | hm
    · obtain ⟨r', hr', hstate⟩ := h.own e he hl r hr
      exact ⟨r', (k.others _ (hdisjoint hl)).trans hr', hstate⟩
    · have hl : e.consumer ∉ l := fun hl => hdisjoint hl hm
      have hleft : e ∈ t.scheduler.schedule := by
        rw [h.schedule]
        exact List.mem_filterMap.mpr ⟨e, he, MoveEntry.passing_other hl⟩
      have hown := k.own e hleft hm r ((h.others _ hl).trans hr)
      rwa [h.now, h.freshQuery] at hown
  leaves := h.leaves.trans k.leaves
  hold := k.hold.trans h.hold

end State.Visits

/-- An entry that ends is the one its record has in the schedule. -/
theorem filter_eq_passing {l : List MoveEntry} {now : Word16} {e : MoveEntry} (hsole : ∀ x ∈ l, x.consumer = e.consumer → x = e)
    (hend : e.atCycleEnd now = none) :
    (l.filter fun x => x.consumer != e.consumer) = l.filterMap (MoveEntry.passing [e.consumer] now) := by
  rw [← List.filterMap_eq_filter]
  refine List.filterMap_congr fun x hx => ?_
  by_cases hxe : x.consumer = e.consumer
  · obtain rfl := hsole x hx hxe
    rw [MoveEntry.passing_own (List.mem_singleton_self _), hend]
    simp [Option.guard]
  · rw [MoveEntry.passing_other (by simpa using hxe)]
    simp [Option.guard, hxe]

section Entry
variable {s : State} {e : MoveEntry}

/-- An entry that ends at the cycle end. -/
theorem ended_visits (hsole : ∀ x ∈ s.scheduler.schedule, x.consumer = e.consumer → x = e)
    (hend : e.atCycleEnd s.now = none) (f : Consumer → Consumer)
    (hf : ∀ r, (f r).state = e.stateAtCycleEnd s.now s.freshQuery r.state) (point : FailurePoint) (reason : Byte) {u : State}
    (hu : u = failEntry point reason f e s)
    (hscheduler : u.scheduler
      = { s.scheduler with schedule := s.scheduler.schedule.filter fun x => x.consumer != e.consumer })
    (hleaves : s.LeavesPhases u) : s.Visits [e.consumer] u := by
  obtain ⟨haround, hhold, hrecord⟩ := failEntry_spec point reason f e s
  rw [← hu] at haround hhold hrecord
  refine ⟨?_, by rw [hscheduler], fun i hi => haround.others i (by simpa using hi), fun x hx hmem r hr => ?_, hleaves, hhold⟩
  · rw [hscheduler]
    exact filter_eq_passing hsole hend
  · obtain rfl := hsole x hx (List.mem_singleton.mp hmem)
    rw [hr, Option.map_some, Option.map_eq_some_iff] at hrecord
    obtain ⟨r', hr', hbare⟩ := hrecord
    exact ⟨r', hr', (congrArg Consumer.state hbare :).trans (hf r)⟩

/-- An entry that stays, at a stage. -/
theorem setStage_visits (hsole : ∀ x ∈ s.scheduler.schedule, x.consumer = e.consumer → x = e)
    {st : Stage} (hstay : e.atCycleEnd s.now = some { e with stage := st })
    (hstate : ∀ state, e.stateAtCycleEnd s.now s.freshQuery state = state) :
    s.Visits [e.consumer] (setStage e.consumer st s) := by
  refine ⟨?_, rfl, fun _ _ => rfl, fun x hx hmem r hr => ?_, scheduler_leaves s _ s.rescue, rfl⟩
  · change s.scheduler.schedule.map (fun x => if x.consumer == e.consumer then { x with stage := st } else x) = _
    rw [← List.filterMap_eq_map]
    refine List.filterMap_congr fun x hx => ?_
    by_cases hxe : x.consumer = e.consumer
    · obtain rfl := hsole x hx hxe
      rw [MoveEntry.passing_own (List.mem_singleton_self _), hstay]
      simp
    · rw [MoveEntry.passing_other (by simpa using hxe)]
      simp [hxe]
  · obtain rfl := hsole x hx (List.mem_singleton.mp hmem)
    exact ⟨r, hr, (hstate _).symm⟩

/-- An entry that the cycle end leaves as it is. -/
theorem State.Visits.stays (hsole : ∀ x ∈ s.scheduler.schedule, x.consumer = e.consumer → x = e)
    (hstay : e.atCycleEnd s.now = some e) (hstate : ∀ state, e.stateAtCycleEnd s.now s.freshQuery state = state) :
    s.Visits [e.consumer] s := by
  refine ⟨?_, rfl, fun _ _ => rfl, fun x hx hmem r hr => ?_, .refl s, rfl⟩
  · refine ((List.filterMap_congr fun x hx => ?_).trans List.filterMap_some).symm
    by_cases hxe : x.consumer = e.consumer
    · obtain rfl := hsole x hx hxe
      rw [MoveEntry.passing_own (List.mem_singleton_self _), hstay]
    · exact MoveEntry.passing_other (by simpa using hxe)
  · obtain rfl := hsole x hx (List.mem_singleton.mp hmem)
    exact ⟨r, hr, (hstate _).symm⟩

theorem entryAtCycleEnd_visits (hsole : ∀ x ∈ s.scheduler.schedule, x.consumer = e.consumer → x = e) :
    s.Visits [e.consumer] (entryAtCycleEnd s e) := by
  have hend : e.atCycleEnd s.now = if e.waits && tooNear e.execute s.now then none
      else if e.reportDue s.now then none
      else if e.replyDue s.now then some { e with stage := .unconfirmed } else some e := rfl
  have hstate (st : RecordState) : e.stateAtCycleEnd s.now s.freshQuery st
      = if e.waits && tooNear e.execute s.now then .settled
        else if e.reportDue s.now then .querying s.freshQuery else st := rfl
  unfold entryAtCycleEnd
  split
  · rename_i hnear
    rw [if_pos hnear] at hend
    exact ended_visits hsole hend (fun r => { r with state := .settled }) (fun _ => ((hstate _).trans (if_pos hnear)).symm)
      _ _ (withdraw_eq _ e s) (withdraw_scheduler _ e s) (withdraw_leaves _ e s)
  · rename_i hfar
    rw [if_neg hfar] at hend
    split
    · rename_i hreport
      rw [if_pos hreport] at hend
      exact ended_visits hsole hend (unreported e s.freshQuery)
        (fun r => by rw [hstate, if_neg hfar, if_pos hreport]; rfl) _ _ (endUnreported_eq e s) (endUnreported_scheduler e s)
        (endUnreported_leaves e s)
    · rename_i hearly
      rw [if_neg hearly] at hend
      have hstays (st : RecordState) : e.stateAtCycleEnd s.now s.freshQuery st = st := by
        rw [hstate, if_neg hfar, if_neg hearly]
      split
      · rename_i hreply
        exact setStage_visits hsole (hend.trans (if_pos hreply)) hstays
      · rename_i hreply
        exact .stays hsole (hend.trans (if_neg hreply)) hstays

end Entry

/-- A pass over entries of different records, each the one its record has. -/
theorem entries_visits {l : List MoveEntry} (hl : (l.map MoveEntry.consumer).Nodup) {s : State}
    (hsole : ∀ e ∈ l, ∀ x ∈ s.scheduler.schedule, x.consumer = e.consumer → x = e) :
    s.Visits (l.map MoveEntry.consumer) (l.foldl entryAtCycleEnd s) := by
  induction l generalizing s with
  | nil => exact .refl s
  | cons e l ih =>
    rw [List.map_cons, List.nodup_cons] at hl
    obtain ⟨hnot, hl⟩ := hl
    have hfirst := entryAtCycleEnd_visits (hsole e List.mem_cons_self)
    refine hfirst.trans (ih hl fun e' he' x hx hxe => ?_) (List.singleton_disjoint.mpr hnot)
    rw [hfirst.schedule] at hx
    obtain ⟨y, hy, hpassing⟩ := List.mem_filterMap.mp hx
    have hother : y.consumer ∉ [e.consumer] := fun hmem => hnot <| by
      rw [← List.mem_singleton.mp hmem, ← MoveEntry.consumer_of_passing hpassing, hxe]
      exact List.mem_map_of_mem he'
    rw [MoveEntry.passing_other hother] at hpassing
    cases hpassing
    exact hsole e' (List.mem_cons_of_mem e he') _ hy hxe

theorem scheduleAtCycleEnd_visits {s : State} (hnodup : (s.scheduler.schedule.map MoveEntry.consumer).Nodup) :
    s.Visits (s.scheduler.schedule.map MoveEntry.consumer) (scheduleAtCycleEnd s) :=
  entries_visits hnodup fun _ he _ hx hxe => List.inj_on_of_nodup_map hnodup hx he hxe

end Sys2Proof.Machine

namespace Sys2Proof.Machine

/-! ### The queries at a cycle end (R136, R137) -/

/-- What a cycle end makes of a record that has been asked (R136, R137). -/
def Consumer.AfterAsking (tag : Byte) (left tries : Nat) (r t : Consumer) : Prop :=
  t.assigned = r.assigned ∧ t.allowed = r.allowed ∧ t.lastTag = r.lastTag
    ∧ t.state = (if 2 ≤ left then r.state.withQuery ⟨.asked tag (left - 1), tries⟩
      else if 2 ≤ tries then r.state.withQuery ⟨.waiting, tries - 1⟩
      else .silent)

/-- The queries have come one cycle end nearer to their deadlines; the records asked nothing stay as they are. -/
structure State.Asks (s t : State) : Prop where
  scheduler : { t.scheduler with queries := s.scheduler.queries } = s.scheduler
  asked : ∀ i r tag left tries, s.record i = some r → r.state.query = some ⟨.asked tag left, tries⟩ →
    ∃ r', t.record i = some r' ∧ r.AfterAsking tag left tries r'
  others : ∀ i r, s.record i = some r → (∀ tag left tries, r.state.query ≠ some ⟨.asked tag left, tries⟩) →
    t.record i = some r
  leaves : s.LeavesPhases t
  hold : t.hold = s.hold

namespace State.Asks
variable {s t : State}

theorem schedule (h : s.Asks t) : t.scheduler.schedule = s.scheduler.schedule :=
  (congrArg Scheduler.schedule h.scheduler :)

theorem latest (h : s.Asks t) : t.scheduler.latestExecute = s.scheduler.latestExecute :=
  (congrArg Scheduler.latestExecute h.scheduler :)

theorem tagCounter (h : s.Asks t) : t.scheduler.tagCounter = s.scheduler.tagCounter :=
  (congrArg Scheduler.tagCounter h.scheduler :)

end State.Asks

theorem withQuery_query {st : RecordState} {q : Query} (h : st.query = some q) (q' : Query) :
    (st.withQuery q').query = some q' := by
  cases st with
  | unverified | querying => rfl
  | settled | silent | faulted | ordered | accepted => cases h

theorem withQuery_withQuery (st : RecordState) (q q' : Query) : (st.withQuery q).withQuery q' = st.withQuery q' := by
  cases st <;> rfl

/-- The scheduler stays but for its query queue, and the hold stays. -/
def State.KeepsMoves (s t : State) : Prop :=
  { t.scheduler with queries := s.scheduler.queries } = s.scheduler ∧ t.hold = s.hold

theorem State.KeepsMoves.trans {s t u : State} (h : s.KeepsMoves t) (k : t.KeepsMoves u) : s.KeepsMoves u := by
  obtain ⟨hscheduler, hhold⟩ := h
  obtain ⟨kscheduler, khold⟩ := k
  rw [← kscheduler] at hscheduler
  exact ⟨hscheduler, khold.trans hhold⟩

theorem State.StandsAside.keepsMoves {s t : State} (h : s.StandsAside t) : s.KeepsMoves t :=
  ⟨by rw [h.scheduler], h.hold⟩

theorem silentByQueries_keepsMoves (i : Nat) (s : State) : s.KeepsMoves (silentByQueries i s) := by
  have hsilent : s.KeepsMoves (goSilent i s) := by
    obtain ⟨l, sums, -, e⟩ := changeRecord_eq i (fun r => { r with state := .silent }) s
    unfold goSilent
    rw [e]
    exact ⟨rfl, rfl⟩
  exact hsilent.trans ((raiseNotice_aside _ _ _).trans (noteOutOfService_aside i _)).keepsMoves

theorem spendTry_keepsMoves (s : State) (i : Nat) : s.KeepsMoves (spendTry s i) := by
  have hmodified (f : Consumer → Consumer) : s.KeepsMoves (s.modifyRecord i f) := by
    obtain ⟨l, -, e⟩ := modifyRecord_eq i f s
    rw [e]
    exact ⟨rfl, rfl⟩
  unfold spendTry
  split
  · split
    · exact (hmodified _).trans (silentByQueries_keepsMoves i _)
    · exact hmodified _
  · exact ⟨rfl, rfl⟩

theorem lowerDeadline_asked {r : Consumer} {tag : Byte} {left tries : Nat} (h : r.state.query = some ⟨.asked tag left, tries⟩) :
    lowerDeadline r = { r with state := r.state.withQuery ⟨.asked tag (left - 1), tries⟩ } := by
  unfold lowerDeadline
  rw [h]

theorem lowerDeadline_other {r : Consumer} (h : ∀ tag left tries, r.state.query ≠ some ⟨.asked tag left, tries⟩) :
    lowerDeadline r = r := by
  unfold lowerDeadline
  split
  · rename_i heq
    exact absurd heq (h _ _ _)
  · rfl

theorem queriesAtCycleEnd_asks (s : State) : s.Asks (queriesAtCycleEnd s) := by
  have hlowered := record_mapConsumers lowerDeadline s
  obtain ⟨hrecords, -⟩ :=
    queryDeadlines_spec { s with tables.consumers := s.tables.consumers.map fun r => r.map lowerDeadline }
  obtain ⟨hscheduler, hhold⟩ : s.KeepsMoves (queriesAtCycleEnd s) :=
    foldl_keeps (P := s.KeepsMoves) (fun t i h => h.trans (spendTry_keepsMoves t i)) _ ⟨rfl, rfl⟩
  refine ⟨hscheduler, fun i r tag left tries hr hq => ?_, fun i r hr hother => ?_, queriesAtCycleEnd_leaves s, hhold⟩
  · have hask : (r.state.withQuery ⟨.asked tag (left - 1), tries⟩).query = some ⟨.asked tag (left - 1), tries⟩ :=
      withQuery_query hq _
    have hrecord := hlowered i
    rw [hr, Option.map_some, lowerDeadline_asked hq] at hrecord
    obtain ⟨hdue, hnotDue⟩ := hrecords i _ hrecord
    by_cases hleft : 2 ≤ left
    · refine ⟨_, hnotDue ?_, rfl, rfl, rfl, (if_pos hleft).symm⟩
      rw [RecordState.queryDue, hask, Option.any_some]
      exact beq_eq_false_iff_ne.mpr (by omega)
    · refine ⟨_, hdue _ ?_ hask, rfl, rfl, rfl, ?_⟩
      · rw [RecordState.queryDue, hask, Option.any_some]
        exact beq_iff_eq.mpr (by omega)
      · rw [if_neg hleft]
        dsimp only
        rw [withQuery_withQuery]
        by_cases htries : tries ≤ 1
        · rw [if_pos htries, if_neg (by omega)]
        · rw [if_neg htries, if_pos (by omega)]
  · have hrecord := hlowered i
    rw [hr, Option.map_some, lowerDeadline_other hother] at hrecord
    refine (hrecords i r hrecord).2 (Bool.eq_false_iff.mpr fun hdue => ?_)
    obtain ⟨tag, tries, hq⟩ := queryDue_iff.mp hdue
    exact hother tag 0 tries hq

/-! ### The Order Scheduler's block -/

/-- What a cycle end does to the moves and the queries. -/
structure State.Exchanges (s t : State) : Prop where
  schedule : t.scheduler.schedule = s.scheduler.schedule.filterMap (MoveEntry.atCycleEnd s.now)
  latest : t.scheduler.latestExecute = s.scheduler.latestExecute.filter fun x => ahead x s.now
  tagCounter : t.scheduler.tagCounter = s.scheduler.tagCounter
  asked : ∀ i r tag left tries, s.record i = some r → r.state.query = some ⟨.asked tag left, tries⟩ →
    ∃ r', t.record i = some r' ∧ r.AfterAsking tag left tries r'
  moving : ∀ e ∈ s.scheduler.schedule, ∀ r, s.record e.consumer = some r →
    ∃ r', t.record e.consumer = some r' ∧ r'.state = e.stateAtCycleEnd s.now s.freshQuery r.state
  cycleCount : t.timebase.cycleCount = s.timebase.cycleCount
  management : t.management = s.management
  active : t.tables.active = s.tables.active
  hold : t.hold = s.hold

/-- A record that an entry names has no query (R103). -/
theorem no_query_of_entry {s : State} (h : s.ScheduleRight) {e : MoveEntry} (he : e ∈ s.scheduler.schedule) {r : Consumer}
    (hr : s.record e.consumer = some r) : r.state.query = none := by
  obtain ⟨-, hentries, -⟩ := h
  obtain ⟨r', hr', hstate, -⟩ := hentries e he
  cases hr.symm.trans hr'
  rw [hstate]
  cases e.stage <;> rfl

/-- The entry of a record leaves it with no query asked. -/
theorem no_ask_atCycleEnd {st : RecordState} (h : st.query = none) (now : Word16) (q : Query) (hq : q.stage = .waiting)
    (e : MoveEntry) (tag : Byte) (left tries : Nat) :
    (e.stateAtCycleEnd now q st).query ≠ some ⟨.asked tag left, tries⟩ := by
  unfold MoveEntry.stateAtCycleEnd
  split
  · exact nofun
  · split
    · intro hasked
      cases hasked
      cases hq
    · rw [h]
      exact nofun

section Block
variable {s t u : State}

/-- The schedule of a pass over all of it. -/
theorem State.Visits.schedule_all (h : s.Visits (s.scheduler.schedule.map MoveEntry.consumer) t) :
    t.scheduler.schedule = s.scheduler.schedule.filterMap (MoveEntry.atCycleEnd s.now) :=
  h.schedule.trans (List.filterMap_congr fun _ he => MoveEntry.passing_own (List.mem_map_of_mem he))

/-- A record that is asked has no entry. -/
theorem not_mem_consumers (h : s.ScheduleRight) {i : Nat} {r : Consumer} {q : Query} (hr : s.record i = some r)
    (hq : r.state.query = some q) : i ∉ s.scheduler.schedule.map MoveEntry.consumer := fun hmem => by
  obtain ⟨e, he, rfl⟩ := List.mem_map.mp hmem
  rw [no_query_of_entry h he hr] at hq
  cases hq

/-- The moves, then the queries (log 3). -/
theorem exchanges_moves_first (h : s.ScheduleRight) :
    s.Exchanges (expireLatest (queriesAtCycleEnd (scheduleAtCycleEnd s))) := by
  have hmoves := scheduleAtCycleEnd_visits h.1
  have hqueries := queriesAtCycleEnd_asks (scheduleAtCycleEnd s)
  have hboth : (queriesAtCycleEnd (scheduleAtCycleEnd s)).now = s.now :=
    (now_of_timebase hqueries.leaves.timebase).trans hmoves.now
  rw [expireLatest_eq, hboth]
  refine ⟨hqueries.schedule.trans hmoves.schedule_all,
    congrArg (Option.filter _) ?_, ?_, fun i r tag left tries hr hq => ?_, fun e he r hr => ?_,
    congrArg Timebase.cycleCount (hqueries.leaves.timebase.trans hmoves.leaves.timebase),
    hqueries.leaves.management.trans hmoves.leaves.management, hqueries.leaves.active.trans hmoves.leaves.active,
    hqueries.hold.trans hmoves.hold⟩
  · exact hqueries.latest.trans hmoves.latest
  · exact hqueries.tagCounter.trans hmoves.tagCounter
  · exact hqueries.asked i r tag left tries ((hmoves.others i (not_mem_consumers h hr hq)).trans hr) hq
  · obtain ⟨r', hr', hstate⟩ := hmoves.own e he (List.mem_map_of_mem he) r hr
    refine ⟨r', hqueries.others _ r' hr' fun tag left tries => ?_, hstate⟩
    rw [hstate]
    exact no_ask_atCycleEnd (no_query_of_entry h he hr) _ s.freshQuery rfl e tag left tries

/-- The queries, then the moves (log 3). -/
theorem exchanges_queries_first (h : s.ScheduleRight) :
    s.Exchanges (expireLatest (scheduleAtCycleEnd (queriesAtCycleEnd s))) := by
  have hqueries := queriesAtCycleEnd_asks s
  have hschedule := hqueries.schedule
  have hmoves := scheduleAtCycleEnd_visits (s := queriesAtCycleEnd s) (hschedule ▸ h.1)
  have hnow := now_of_timebase hqueries.leaves.timebase
  have hfresh : (queriesAtCycleEnd s).freshQuery = s.freshQuery := by
    unfold State.freshQuery
    rw [hqueries.leaves.management]
  have hall := hmoves.schedule_all
  have hown := hmoves.own
  have hothers := hmoves.others
  rw [hschedule] at hall hown hothers
  rw [hnow] at hall hown
  rw [hfresh] at hown
  rw [expireLatest_eq, hmoves.now, hnow]
  refine ⟨hall, congrArg (Option.filter _) ?_, ?_, fun i r tag left tries hr hq => ?_, fun e he r hr => ?_,
    congrArg Timebase.cycleCount (hmoves.leaves.timebase.trans hqueries.leaves.timebase),
    hmoves.leaves.management.trans hqueries.leaves.management, hmoves.leaves.active.trans hqueries.leaves.active,
    hmoves.hold.trans hqueries.hold⟩
  · exact hmoves.latest.trans hqueries.latest
  · exact hmoves.tagCounter.trans hqueries.tagCounter
  · obtain ⟨r', hr', hafter⟩ := hqueries.asked i r tag left tries hr hq
    exact ⟨r', (hothers i (not_mem_consumers h hr hq)).trans hr', hafter⟩
  · refine hown e he (List.mem_map_of_mem he) r (hqueries.others _ r hr fun tag left tries hq => ?_)
    rw [no_query_of_entry h he hr] at hq
    cases hq

theorem schedulerAtCycleEnd_exchanges (h : s.ScheduleRight) : s.Exchanges (schedulerAtCycleEnd s) := by
  unfold schedulerAtCycleEnd
  split
  · exact exchanges_moves_first h
  · exact exchanges_queries_first h

/-! ### The other blocks before and after it -/

theorem Consumer.of_dealings {r x : Consumer} (h : x.dealings = r.dealings) :
    x.state = r.state ∧ x.assigned = r.assigned ∧ x.allowed = r.allowed ∧ x.lastTag = r.lastTag :=
  ⟨(congrArg Consumer.state h :), (congrArg Consumer.assigned h :), (congrArg Consumer.allowed h :),
    (congrArg Consumer.lastTag h :)⟩

theorem Consumer.AfterAsking.congr {tag : Byte} {left tries : Nat} {r r' x x' : Consumer}
    (h : r'.AfterAsking tag left tries x) (hr : r'.dealings = r.dealings) (hx : x'.dealings = x.dealings) :
    r.AfterAsking tag left tries x' := by
  obtain ⟨hrstate, hrassigned, hrallowed, hrtag⟩ := Consumer.of_dealings hr
  obtain ⟨hxstate, hxassigned, hxallowed, hxtag⟩ := Consumer.of_dealings hx
  unfold Consumer.AfterAsking at h ⊢
  rwa [hrstate, hrassigned, hrallowed, hrtag, ← hxstate, ← hxassigned, ← hxallowed, ← hxtag] at h

theorem State.Exchanges.before (h : t.Exchanges u) (k : s.StandsAside t) : s.Exchanges u := by
  have hfresh : t.freshQuery = s.freshQuery := by
    unfold State.freshQuery
    rw [k.management]
  have hschedule := h.schedule
  have hlatest := h.latest
  have hmoving := h.moving
  rw [k.scheduler, k.now] at hschedule hlatest hmoving
  rw [hfresh] at hmoving
  refine ⟨hschedule, hlatest, h.tagCounter.trans (congrArg Scheduler.tagCounter k.scheduler),
    fun i r tag left tries hr hq => ?_, fun e he r hr => ?_, h.cycleCount.trans k.cycleCount,
    h.management.trans k.management, h.active.trans k.active, h.hold.trans k.hold⟩
  · obtain ⟨r', hr', hsame⟩ := k.record hr
    obtain ⟨hstate, -⟩ := Consumer.of_dealings hsame
    obtain ⟨x, hx, hafter⟩ := h.asked i r' tag left tries hr' (hstate ▸ hq)
    exact ⟨x, hx, hafter.congr hsame rfl⟩
  · obtain ⟨r', hr', hsame⟩ := k.record hr
    obtain ⟨hstate, -⟩ := Consumer.of_dealings hsame
    rw [← hstate]
    exact hmoving e he r' hr'

theorem State.Exchanges.after (h : s.Exchanges t) (k : t.StandsAside u) : s.Exchanges u := by
  refine ⟨(congrArg Scheduler.schedule k.scheduler).trans h.schedule,
    (congrArg Scheduler.latestExecute k.scheduler).trans h.latest,
    (congrArg Scheduler.tagCounter k.scheduler).trans h.tagCounter,
    fun i r tag left tries hr hq => ?_, fun e he r hr => ?_, k.cycleCount.trans h.cycleCount,
    k.management.trans h.management, k.active.trans h.active, k.hold.trans h.hold⟩
  · obtain ⟨x, hx, hafter⟩ := h.asked i r tag left tries hr hq
    obtain ⟨x', hx', hsame⟩ := k.record hx
    exact ⟨x', hx', hafter.congr rfl hsame⟩
  · obtain ⟨x, hx, hstate⟩ := h.moving e he r hr
    obtain ⟨x', hx', hsame⟩ := k.record hx
    exact ⟨x', hx', (Consumer.of_dealings hsame).1.trans hstate⟩

theorem State.ScheduleRight.aside (h : s.ScheduleRight) (k : s.StandsAside t) : t.ScheduleRight :=
  h.congr (congrArg Scheduler.schedule k.scheduler) fun i => by
    have hrecord := congrArg (Option.map Consumer.pose) (k.records i)
    rw [Option.map_map, Option.map_map] at hrecord
    exact hrecord

/-- The three blocks, in any order (R49; log 3). -/
theorem blocksInOrder_exchanges (order : Config.BlockOrder) (how : CycleEnd) (h : s.ScheduleRight) :
    s.Exchanges (blocksInOrder order how s) := by
  have ht := timebaseAtCycleEnd_aside how
  have hp := supervisionBlock_aside how
  have hc {v : State} (k : s.StandsAside v) : s.Exchanges (schedulerAtCycleEnd v) :=
    (schedulerAtCycleEnd_exchanges (h.aside k)).before k
  have hfirst := hc (.refl s)
  cases order with
  | tps => exact hc ((ht s).trans (hp _))
  | tsp => exact (hc (ht s)).after (hp _)
  | pts => exact hc ((hp s).trans (ht _))
  | pst => exact (hc (hp s)).after (ht _)
  | stp => exact hfirst.after ((ht _).trans (hp _))
  | spt => exact hfirst.after ((hp _).trans (ht _))

end Block

/-- A cycle end, its maker's change made, runs the exchanges at the next cycle number (R48, R49). -/
theorem cycleEnd_exchanges (how : CycleEnd) {s t : State} (h : s.ScheduleRight) (k : s.StandsAside t) :
    State.Exchanges { s with timebase.cycleCount := s.timebase.cycleCount + 1 } (cycleEnd how t) := by
  have hnumbered : State.StandsAside { s with timebase.cycleCount := s.timebase.cycleCount + 1 }
      { t with timebase.cycleCount := t.timebase.cycleCount + 1 } :=
    ⟨k.records, k.scheduler, congrArg (· + 1) k.cycleCount, k.management, k.active, k.hold⟩
  have hcounted := hnumbered.trans (countedCycle_aside t)
  have hright : State.ScheduleRight { s with timebase.cycleCount := s.timebase.cycleCount + 1 } := h
  rw [cycleEnd_eq]
  exact (blocksInOrder_exchanges _ how (hright.aside hcounted)).before hcounted

end Sys2Proof.Machine

namespace Sys2Proof.Machine

/-! ## The exchanges at an accepted crossing and at a synthetic end (O38) -/

/-- Whether an entry is not ended at a cycle end. -/
def MoveEntry.lasts (now : Word16) (e : MoveEntry) : Bool :=
  !(e.stage == .queued false && tooNear e.execute now)
    && !(e.deadline == now && (e.stage == .sent || e.stage == .accepted || e.stage == .unconfirmed))

/-- An entry SENT at its execute cycle becomes UNCONFIRMED (R119). -/
def MoveEntry.unanswered (now : Word16) (e : MoveEntry) : MoveEntry :=
  if e.stage = .sent ∧ e.execute = now then { e with stage := .unconfirmed } else e

/-- An entry has a report deadline once it is sent (R123). -/
theorem MoveEntry.reportDue_eq (now : Word16) (e : MoveEntry) :
    e.reportDue now = (e.deadline == now && (e.stage == .sent || e.stage == .accepted || e.stage == .unconfirmed)) := by
  unfold MoveEntry.reportDue
  cases e.stage <;> rfl

theorem MoveEntry.reportDue_iff {now : Word16} {e : MoveEntry} :
    e.reportDue now = true ↔ e.deadline = now ∧ (e.stage = .sent ∨ e.stage = .accepted ∨ e.stage = .unconfirmed) := by
  rw [MoveEntry.reportDue_eq]
  simp only [Bool.and_eq_true, Bool.or_eq_true, beq_iff_eq, or_assoc]

theorem MoveEntry.replyDue_iff {now : Word16} {e : MoveEntry} :
    e.replyDue now = true ↔ e.stage = .sent ∧ e.execute = now := by
  unfold MoveEntry.replyDue
  rw [Bool.and_eq_true, beq_iff_eq, beq_iff_eq, and_comm]

theorem MoveEntry.waits_iff {now : Word16} {e : MoveEntry} :
    (e.waits && tooNear e.execute now) = true ↔ e.stage = .queued false ∧ tooNear e.execute now = true := by
  unfold MoveEntry.waits
  rw [Bool.and_eq_true, beq_iff_eq]

theorem MoveEntry.atCycleEnd_eq (now : Word16) (e : MoveEntry) :
    e.atCycleEnd now = if e.lasts now then some (e.unanswered now) else none := by
  have hlasts : e.lasts now = (!(e.waits && tooNear e.execute now) && !e.reportDue now) := by
    rw [MoveEntry.reportDue_eq]
    rfl
  unfold MoveEntry.atCycleEnd MoveEntry.unanswered
  rw [hlasts]
  by_cases hnear : (e.waits && tooNear e.execute now) = true
  · simp only [hnear, if_true, Bool.not_true, Bool.false_and, Bool.false_eq_true, if_false]
  · by_cases hreport : e.reportDue now = true
    · simp only [hnear, hreport, if_true, Bool.not_true, Bool.and_false, Bool.false_eq_true, if_false]
    · simp only [hnear, hreport, Bool.not_false, Bool.and_true, if_true, Bool.false_eq_true, if_false]
      by_cases hreply : e.replyDue now = true
      · rw [if_pos hreply, if_pos (MoveEntry.replyDue_iff.mp hreply)]
      · rw [if_neg hreply, if_neg (mt MoveEntry.replyDue_iff.mpr hreply)]

/-- The entries that last, in order. -/
theorem filterMap_atCycleEnd (now : Word16) (l : List MoveEntry) :
    l.filterMap (MoveEntry.atCycleEnd now) = (l.filter (MoveEntry.lasts now)).map (MoveEntry.unanswered now) := by
  induction l with
  | nil => rfl
  | cons e l ih =>
    rw [List.filterMap_cons, MoveEntry.atCycleEnd_eq]
    by_cases h : e.lasts now = true
    · rw [if_pos h, List.filter_cons_of_pos h, List.map_cons, ih]
    · rw [if_neg h, List.filter_cons_of_neg h, ih]

theorem MoveEntry.stateAtCycleEnd_eq (now : Word16) (q : Query) (e : MoveEntry) (st : RecordState) :
    e.stateAtCycleEnd now q st
      = if e.stage = .queued false ∧ tooNear e.execute now = true then .settled
        else if e.deadline = now ∧ (e.stage = .sent ∨ e.stage = .accepted ∨ e.stage = .unconfirmed) then .querying q
        else st := by
  unfold MoveEntry.stateAtCycleEnd
  simp only [MoveEntry.waits_iff, MoveEntry.reportDue_iff]

/-- The next cycle number is one on (R48). -/
theorem now_counted (s : State) :
    State.now { s with timebase.cycleCount := s.timebase.cycleCount + 1 } = s.now + 1 :=
  BitVec.setWidth_add _ _ (by decide)

theorem dropChoice_aside (s : State) : s.StandsAside (dropChoice s) := .of_eq

theorem markEdge_aside (line : Phase) (s : State) : s.StandsAside (markEdge line s) := setWatch_aside line _ s

theorem setSagLines_aside (sag : PhaseSet) (s : State) : s.StandsAside (setSagLines sag s) := .of_eq

theorem accepted_aside (s : State) : s.StandsAside { s with timebase := s.timebase.accepted } := .of_eq

/-- The crossings and late limits of O38 are cycle ends whose makers stand aside. -/
theorem exec_cycleEnd {c : Instr} {s : State} (hhold : s.hold = none)
    (hc : (∃ line sag, c = .zeroCrossingEdge line 0 sag ∧ line = s.timebase.reference
        ∧ s.timebase.reanchorPending = false ∧ s.earlyLimit ≤ s.timebase.tickCounter)
      ∨ c = .syntheticCycleEnd ∧ s.timebase.nextSample = none) :
    ∃ how t u, s.StandsAside t ∧ (cycleEnd how t).StandsAside u ∧ exec c s = .next (finish u) := by
  rcases hc with ⟨line, sag, rfl, hline, hpending, hearly⟩ | ⟨rfl, hnone⟩
  · rw [exec_zeroCrossingEdge hhold]
    rcases edge_reference (s := setSagLines sag s) hline with e | e
    · rw [e, crossing_accepted (s := markEdge line (setSagLines sag s)) hpending hearly]
      exact ⟨_, _, _, ((setSagLines_aside sag s).trans (markEdge_aside line _)).trans (accepted_aside _),
        dropChoice_aside _, rfl⟩
    · rw [e, crossing_accepted (s := setSagLines sag s) hpending hearly]
      exact ⟨_, _, _, (setSagLines_aside sag s).trans (accepted_aside _),
        (markEdge_aside line _).trans (dropChoice_aside _), rfl⟩
  · refine ⟨.synthetic, s.atLateLimit, _, ?_, dropChoice_aside _, exec_syntheticCycleEnd hhold⟩
    unfold State.atLateLimit
    rw [samplesUpTo_of_none hnone]
    exact .of_eq

/-- Settles O38: the Order Scheduler's block, in either order of its two parts, between blocks that stand aside. -/
theorem cycleEndRunsTheExchanges : Obligations.CycleEndRunsTheExchanges := by
  intro c s hhold hright hc
  obtain ⟨how, t, u, hmaker, hafter, hexec⟩ := exec_cycleEnd hhold hc
  have h := (cycleEnd_exchanges how hright hmaker).after hafter
  have hschedule := h.schedule
  have hlatest := h.latest
  have hmoving := h.moving
  rw [now_counted] at hschedule hlatest hmoving
  refine ⟨u, hexec, ?_, hschedule.trans (filterMap_atCycleEnd _ _), hlatest, h.tagCounter, h.asked,
    fun e he r hr => ?_, h.management, h.active⟩
  · rw [← now_counted]
    exact congrArg (BitVec.setWidth 16) h.cycleCount
  · obtain ⟨r', hr', hstate⟩ := hmoving e he r hr
    exact ⟨r', hr', hstate.trans (MoveEntry.stateAtCycleEnd_eq _ _ _ _)⟩

end Sys2Proof.Machine

namespace Sys2Proof.Machine

/-! ## The running of ticks (O2) -/

/-- Before the next sample point no sample is taken (R66). -/
theorem samplesUpTo_of_before {s : State} {tick : Nat}
    (h : ∀ point, s.timebase.nextSample = some point → tick < point) (fuel : Nat) : samplesUpTo fuel tick s = s := by
  cases fuel with
  | zero => rfl
  | succ fuel =>
    unfold samplesUpTo
    split
    · rename_i point hpoint
      exact if_neg (Nat.not_le.mpr (h point hpoint))
    · rfl

/-- A tick below the late limit and before the next sample point. -/
theorem advance_one {s : State} (hlate : s.timebase.tickCounter + 1 < s.lateLimit)
    (hsample : ∀ point, s.timebase.nextSample = some point → s.timebase.tickCounter + 1 < point) :
    advance 1 s = setTick (s.timebase.tickCounter + 1) s := by
  have hrun : advance 1 s = runTo (s.timebase.tickCounter + 1) s := if_pos hlate
  rw [hrun, runTo, samplesUpTo_of_before hsample]

theorem step_empty {s : State} (h : s.pending = []) : step s = .next (whileRunning (advance 1) s) := by
  unfold step
  rw [h]

/-! ### Ticks never begin a hold -/

theorem scheduleAtCycleEnd_hold (s : State) : (scheduleAtCycleEnd s).hold = s.hold := by
  have hentry (t : State) (e : MoveEntry) : (entryAtCycleEnd t e).hold = t.hold := by
    unfold entryAtCycleEnd
    split
    · exact (failEntry_spec .order reasonWithdrawn _ e t).2.1
    · split
      · exact (failEntry_spec .deadline reasonNoReport _ e t).2.1
      · split <;> rfl
  exact foldl_keeps (P := fun t => t.hold = s.hold) (fun t e h => (hentry t e).trans h) _ rfl

theorem schedulerAtCycleEnd_hold (s : State) : (schedulerAtCycleEnd s).hold = s.hold := by
  have hqueries (t : State) : (queriesAtCycleEnd t).hold = t.hold := (queriesAtCycleEnd_asks t).hold
  unfold schedulerAtCycleEnd
  rw [expireLatest_eq]
  dsimp only
  split
  · exact (hqueries _).trans (scheduleAtCycleEnd_hold s)
  · exact (scheduleAtCycleEnd_hold _).trans (hqueries s)

theorem cycleEnd_hold (how : CycleEnd) (s : State) : (cycleEnd how s).hold = s.hold := by
  have ht (t : State) : (timebaseAtCycleEnd how t).hold = t.hold := (timebaseAtCycleEnd_aside how t).hold
  have hp (t : State) : (supervisionBlock how t).hold = t.hold := (supervisionBlock_aside how t).hold
  have hc := schedulerAtCycleEnd_hold
  rw [cycleEnd_eq]
  refine Eq.trans ?_ (countedCycle_aside s).hold
  cases s.choice.blocks with
  | tps => exact (hc _).trans ((hp _).trans (ht _))
  | tsp => exact (hp _).trans ((hc _).trans (ht _))
  | pts => exact (hc _).trans ((ht _).trans (hp _))
  | pst => exact (ht _).trans ((hc _).trans (hp _))
  | stp => exact (hp _).trans ((ht _).trans (hc _))
  | spt => exact (ht _).trans ((hp _).trans (hc _))

theorem samplesUpTo_hold (fuel tick : Nat) (s : State) : (samplesUpTo fuel tick s).hold = s.hold := by
  have hevent (point : Nat) (t : State) : (sampleEvent point t).hold = t.hold :=
    (finish_keeps _).hold.trans (sampleAll_aside (setTick point t)).hold
  induction fuel generalizing s with
  | zero => rfl
  | succ fuel ih =>
    unfold samplesUpTo
    split
    · split
      · exact (ih _).trans (hevent _ s)
      · rfl
    · rfl

theorem lateLimitEvent_hold (s : State) : (lateLimitEvent s).hold = s.hold :=
  (finish_keeps _).hold.trans ((cycleEnd_hold .synthetic _).trans (samplesUpTo_hold _ _ s))

theorem advance_hold (n : Nat) (s : State) : (advance n s).hold = s.hold := by
  have hticks (fuel n : Nat) (s : State) : (runTicks fuel n s).hold = s.hold := by
    induction fuel generalizing n s with
    | zero => rfl
    | succ fuel ih =>
      unfold runTicks
      split
      · exact samplesUpTo_hold _ _ s
      · exact (ih _ _).trans (lateLimitEvent_hold s)
  unfold advance
  split
  · rfl
  · exact hticks n n s

/-- Settles O2: one tick of a running part by the definition of `advance`; an edge after `n` ticks finds a part that is
still running (`advance_hold`). -/
theorem timeRunsByTicks : Obligations.TimeRunsByTicks := by
  refine ⟨fun s hqueue hheld => ?_, fun s hqueue hrunning hlate hsample => ?_, fun line n sag s hrunning => ?_⟩
  · rw [step_empty hqueue, whileRunning_held _ _ hheld]
  · rw [step_empty hqueue, whileRunning_running _ _ hrunning, advance_one hlate hsample]
    rfl
  · rw [exec_zeroCrossingEdge ((advance_hold n s).trans hrunning)]
    exact next_whileRunning hrunning fun s => edge line (setSagLines sag (advance n s))

end Sys2Proof.Machine

namespace Sys2Proof.Machine

/-! ## Withdrawals in a row (R111, R114, R115) -/

/-- The fields of the MOVE FAILED notice of a withdrawal (R115, R129). -/
def State.withdrawalFields (s : State) (e : MoveEntry) : List Byte :=
  [byte e.consumer, s.addressOf e.consumer, e.tag, e.origin.code, phaseCode e.fromPhase, phaseCode e.target, 1, 9, 0]

/-- Whether one of some entries names a consumer. -/
def namedBy (l : List MoveEntry) (i : Nat) : Bool := l.any fun e => e.consumer == i

/-- A record withdrawn, when one of some entries names it, its rescue attempts aside (R114). -/
def Consumer.withdrawnBy (l : List MoveEntry) (i : Nat) (r : Consumer) : Consumer :=
  { r with rescue := none, state := if namedBy l i then .settled else r.state }

/-- Some entries are withdrawn one after the other. -/
structure State.Withdraws (l : List MoveEntry) (s t : State) : Prop where
  scheduler : t.scheduler
    = { s.scheduler with schedule := s.scheduler.schedule.filter fun x => !namedBy l x.consumer }
  records : ∀ i, (t.record i).map Consumer.bare = (s.record i).map (Consumer.withdrawnBy l i)
  leaves : s.LeavesPhases t
  ports : s.PortsStand t
  right : s.ScheduleRight → t.ScheduleRight
  notices : s.management.active.mask.getLsbD 2 = true → s.rescue.event = none →
    s.ports.notices.length + l.length ≤ 16 →
    t.rescue.event = none
      ∧ t.ports.notices.map Notice.fields = s.ports.notices.map Notice.fields ++ l.map s.withdrawalFields

theorem addressOf_eq (s : State) (i : Nat) : s.addressOf i = ((s.record i).map Consumer.address).getD 0 := by
  unfold State.addressOf
  cases s.record i <;> rfl

namespace State.Withdraws
variable {l m : List MoveEntry} {s t u : State}

theorem refl (s : State) : s.Withdraws [] s where
  scheduler := by
    have hall : (s.scheduler.schedule.filter fun x => !namedBy [] x.consumer) = s.scheduler.schedule :=
      List.filter_eq_self.mpr fun _ _ => rfl
    rw [hall]
  records _ := rfl
  leaves := .refl s
  ports := .refl s
  right := id
  notices _ hevent _ := ⟨hevent, (List.append_nil _).symm⟩

/-- The addresses of the records stay. -/
theorem addressOf (h : s.Withdraws l t) (i : Nat) : t.addressOf i = s.addressOf i := by
  have hrecord := congrArg (Option.map Consumer.address) (h.records i)
  rw [Option.map_map, Option.map_map] at hrecord
  rw [addressOf_eq, addressOf_eq]
  exact congrArg (Option.getD · 0) hrecord

theorem withdrawalFields (h : s.Withdraws l t) : t.withdrawalFields = s.withdrawalFields := by
  funext e
  unfold State.withdrawalFields
  rw [h.addressOf]

theorem trans (h : s.Withdraws l t) (k : t.Withdraws m u) : s.Withdraws (l ++ m) u where
  scheduler := by
    rw [k.scheduler, h.scheduler, List.filter_filter]
    have hboth (x : MoveEntry) : (!namedBy m x.consumer && !namedBy l x.consumer) = !namedBy (l ++ m) x.consumer := by
      unfold namedBy
      rw [List.any_append, Bool.not_or, Bool.and_comm]
    simp only [hboth]
  records i := by
    have hboth (r : Consumer) : r.bare.withdrawnBy m i = r.withdrawnBy m i := rfl
    have hfirst := congrArg (Option.map (Consumer.withdrawnBy m i)) (h.records i)
    rw [Option.map_map, Option.map_map] at hfirst
    refine (k.records i).trans (hfirst.trans ?_)
    refine congrArg (Option.map · (s.record i)) (funext fun r => ?_)
    unfold Consumer.withdrawnBy namedBy
    simp only [Function.comp_apply, List.any_append]
    cases l.any fun e => e.consumer == i <;> cases m.any fun e => e.consumer == i <;> rfl
  leaves := h.leaves.trans k.leaves
  ports := h.ports.trans k.ports
  right hs := k.right (h.right hs)
  notices hmask hevent hroom := by
    rw [List.length_append] at hroom
    obtain ⟨hevent', hfields⟩ := h.notices hmask hevent (by omega)
    have hlength := congrArg List.length hfields
    rw [List.length_append, List.length_map, List.length_map, List.length_map] at hlength
    obtain ⟨hevent'', hfields'⟩ := k.notices (by rw [h.leaves.management]; exact hmask) hevent' (by omega)
    refine ⟨hevent'', ?_⟩
    rw [hfields', hfields, h.withdrawalFields, List.map_append, List.append_assoc]

end State.Withdraws

/-! ### One withdrawal -/

section Withdrawal
variable (e : MoveEntry) (s : State)

theorem withdraw_record (i : Nat) :
    ((withdraw reasonWithdrawn e s).record i).map Consumer.bare = (s.record i).map (Consumer.withdrawnBy [e] i) := by
  obtain ⟨haround, -, hrecord⟩ := failEntry_spec .order reasonWithdrawn (fun r => { r with state := .settled }) e s
  rw [← withdraw_eq] at haround hrecord
  by_cases hi : i = e.consumer
  · subst hi
    have hnamed : namedBy [e] e.consumer = true := by simp [namedBy]
    refine hrecord.trans (congrArg (Option.map · (s.record e.consumer)) (funext fun r => ?_))
    rw [Consumer.withdrawnBy, hnamed]
    rfl
  · have hnamed : namedBy [e] i = false := by simp [namedBy, Ne.symm hi]
    rw [haround.others i hi]
    refine congrArg (Option.map · (s.record i)) (funext fun r => ?_)
    rw [Consumer.withdrawnBy, hnamed]
    rfl

/-- The entry removed, its record SETTLED (R114). -/
def settleEntry (e : MoveEntry) (s : State) : State := closeEntry e.consumer (fun r => { r with state := .settled }) s

theorem withdraw_settleEntry :
    withdraw reasonWithdrawn e s
      = handOverEnd e (raiseNotice .moveFailed (s.withdrawalFields e) (settleEntry e s)) := by
  have haddress : (settleEntry e s).addressOf e.consumer = s.addressOf e.consumer := by
    rw [addressOf_eq, addressOf_eq, settleEntry, record_closeEntry, if_pos rfl, Option.map_map]
    rfl
  refine congrArg (handOverEnd e) ?_
  unfold State.withdrawalFields
  rw [← haddress]
  rfl

theorem withdraw_notices (hmask : s.management.active.mask.getLsbD 2 = true) (hevent : s.rescue.event = none)
    (hroom : s.ports.notices.length + 1 ≤ 16) :
    (withdraw reasonWithdrawn e s).rescue.event = none
      ∧ (withdraw reasonWithdrawn e s).ports.notices.map Notice.fields
        = s.ports.notices.map Notice.fields ++ [s.withdrawalFields e] := by
  have hmanagement : (settleEntry e s).management = s.management := (closeEntry_around ..).management
  have hports : (settleEntry e s).ports = s.ports := closeEntry_ports ..
  have hrescue : (settleEntry e s).rescue = s.rescue := closeEntry_rescue ..
  obtain ⟨hqueued, -⟩ := raiseNotice_queued (k := .moveFailed) (s := settleEntry e s) (s.withdrawalFields e)
    (by rw [hmanagement]; exact hmask) (by rw [hports]; omega)
  have htold := handOverEnd_tells e (raiseNotice .moveFailed (s.withdrawalFields e) (settleEntry e s))
  have hraised : (raiseNotice .moveFailed (s.withdrawalFields e) (settleEntry e s)).rescue.event = none := by
    rw [raiseNotice_event, hrescue]
    exact hevent
  rw [withdraw_settleEntry, htold.ports hraised, hqueued, hports, List.map_append]
  exact ⟨htold.event hraised, rfl⟩

theorem withdraw_withdraws : s.Withdraws [e] (withdraw reasonWithdrawn e s) where
  scheduler := by
    rw [withdraw_scheduler]
    have hnamed (x : MoveEntry) : (x.consumer != e.consumer) = !namedBy [e] x.consumer := by
      simp [namedBy, bne, eq_comm]
    simp only [hnamed]
  records := withdraw_record e s
  leaves := withdraw_leaves _ e s
  ports := withdraw_ports _ e s
  right := withdraw_scheduleRight _ e
  notices := withdraw_notices e s

end Withdrawal

theorem withdrawals_withdraw (l : List MoveEntry) (s : State) :
    s.Withdraws l (l.foldl (fun s e => withdraw reasonWithdrawn e s) s) := by
  induction l generalizing s with
  | nil => exact .refl s
  | cons e l ih => exact (withdraw_withdraws e s).trans (ih _)

/-! ### The entries too near -/

/-- The entries too near that wait for their order (R114). -/
def State.tooNearEntries (s : State) : List MoveEntry :=
  s.scheduler.schedule.filter fun e => e.waits && tooNear e.execute s.now

theorem withdrawTooNear_withdraws (s : State) : s.Withdraws s.tooNearEntries (withdrawTooNear s) :=
  withdrawals_withdraw s.tooNearEntries s

theorem withdrawTooNear_of_none {s : State} (h : s.tooNearEntries = []) : withdrawTooNear s = s := by
  change s.tooNearEntries.foldl _ s = s
  rw [h]
  rfl

/-- In a schedule that names no record twice the records named are those of the entries withdrawn (R102). -/
theorem namedBy_tooNear {s : State} (h : s.ScheduleRight) {x : MoveEntry} (hx : x ∈ s.scheduler.schedule) :
    namedBy s.tooNearEntries x.consumer = s.tooNearEntries.contains x := by
  obtain ⟨hnodup, -⟩ := h
  rw [Bool.eq_iff_iff, List.contains_iff_mem, namedBy, List.any_eq_true]
  constructor
  · rintro ⟨e, he, hconsumer⟩
    rw [← List.inj_on_of_nodup_map hnodup (List.mem_of_mem_filter he) hx (beq_iff_eq.mp hconsumer)]
    exact he
  · exact fun hmem => ⟨x, hmem, beq_self_eq_true _⟩

/-- What is withdrawn waits no more, and what waits is not too near. -/
theorem tooNearEntries_withdrawTooNear {s : State} (h : s.ScheduleRight) : (withdrawTooNear s).tooNearEntries = [] := by
  have hwithdraws := withdrawTooNear_withdraws s
  have hschedule := congrArg Scheduler.schedule hwithdraws.scheduler
  refine List.filter_eq_nil_iff.mpr fun e he hnear => ?_
  rw [hschedule] at he
  obtain ⟨hmem, hnot⟩ := List.mem_filter.mp he
  rw [now_of_timebase hwithdraws.leaves.timebase] at hnear
  rw [namedBy_tooNear h hmem, Bool.not_eq_true', List.contains_eq_mem, decide_eq_false_iff_not] at hnot
  exact hnot (List.mem_filter.mpr ⟨hmem, hnear⟩)

end Sys2Proof.Machine

namespace Sys2Proof.Machine

/-! ## The grants of the two arbiters (O43) -/

section Grants
variable {s : State}

/-! ### When a source waits -/

theorem burstFull_iff (p : PortState) :
    s.burstFull p = true ↔ 2 ^ s.management.active.burstLimit ≤ p.burst ∧ p.forward ≠ [] := by
  unfold State.burstFull
  rw [Bool.and_eq_true, decide_eq_true_iff, Bool.not_eq_true', List.isEmpty_eq_false_iff]

theorem burstAfter_eq (n : Nat) (l : List Frame) : burstAfter n l = if l = [] then 0 else raise 16 n := by
  unfold burstAfter
  simp only [List.isEmpty_iff]

theorem orderWaiting_iff :
    s.orderWaiting = true ↔ s.timebase.sync = .synced ∧ ∃ e ∈ s.scheduler.schedule, e.stage = .queued false := by
  unfold State.orderWaiting State.synced State.earliestWaiting
  rw [Bool.and_eq_true, beq_iff_eq, List.find?_isSome]
  simp only [MoveEntry.waits, beq_iff_eq]

theorem queryHead_none (h : ¬ ∃ e rest, s.scheduler.queries = ⟨e, false⟩ :: rest) : s.queryHead = none := by
  unfold State.queryHead
  split
  · rename_i e rest hqueries
    split
    · rfl
    · rename_i hnot
      refine absurd ⟨e.consumer, rest, ?_⟩ h
      rw [hqueries, ← Bool.eq_false_iff.mpr hnot]
  · rfl

/-! ### The downstream arbiter -/

theorem grantDown_idle (h : s.ports.down.transmitter = .idle) : grantDown s = chooseDown s := by
  unfold grantDown
  rw [h]

theorem chooseDown_mark (h : s.timebase.markWaiting = true) : chooseDown s = grantMark s := if_pos h

theorem chooseDown_full (hmark : s.timebase.markWaiting = false) (hfull : s.burstFull s.ports.down = true) :
    chooseDown s = grantForwardDown s := by
  unfold chooseDown
  rw [if_neg (Bool.eq_false_iff.mp hmark), if_pos hfull]

theorem chooseDown_order (hmark : s.timebase.markWaiting = false) (hfull : ¬ s.burstFull s.ports.down = true)
    (horder : s.orderWaiting = true) : chooseDown s = grantOrder s := by
  unfold chooseDown
  rw [if_neg (Bool.eq_false_iff.mp hmark), if_neg hfull, if_pos horder]

theorem chooseDown_below (hmark : s.timebase.markWaiting = false) (hfull : ¬ s.burstFull s.ports.down = true)
    (horder : ¬ s.orderWaiting = true) : chooseDown s = grantBelowOrder s := by
  unfold chooseDown
  rw [if_neg (Bool.eq_false_iff.mp hmark), if_neg hfull, if_neg horder]

theorem grantForwardDown_cons {f : Frame} {rest : List Frame} (h : s.ports.down.forward = f :: rest) :
    grantForwardDown s
      = { s with ports.down := { s.ports.down with transmitter := .busy .forward f, burst := 0, forward := rest } } := by
  unfold grantForwardDown
  rw [h]

theorem grantForwardDown_nil (h : s.ports.down.forward = []) : grantForwardDown s = s := by
  unfold grantForwardDown
  rw [h]

theorem grantBelowOrder_forward (h : ¬ ∃ e rest, s.scheduler.queries = ⟨e, false⟩ :: rest) :
    grantBelowOrder s = grantForwardDown s := by
  unfold grantBelowOrder
  rw [queryHead_none h]

/-! ### The order source -/

theorem earliestWaiting_of_split {before after : List MoveEntry} {e : MoveEntry}
    (hschedule : s.scheduler.schedule = before ++ e :: after) (he : e.stage = .queued false)
    (hbefore : ∀ x ∈ before, x.stage ≠ .queued false) : s.earliestWaiting = some e := by
  have hnone : before.find? MoveEntry.waits = none :=
    List.find?_eq_none.mpr fun x hx hwaits => hbefore x hx (beq_iff_eq.mp hwaits)
  unfold State.earliestWaiting
  rw [hschedule, List.find?_append, hnone, Option.none_or]
  exact List.find?_cons_of_pos (beq_iff_eq.mpr he)

theorem earliestWaiting_none (h : ∀ e ∈ s.scheduler.schedule, e.stage ≠ .queued false) : s.earliestWaiting = none :=
  List.find?_eq_none.mpr fun e he hwaits => h e he (beq_iff_eq.mp hwaits)

/-- In a schedule that names no record twice a stage is set for one entry alone (R102). -/
theorem setStage_split {before after : List MoveEntry} {e : MoveEntry} (hright : s.ScheduleRight)
    (hschedule : s.scheduler.schedule = before ++ e :: after) (st : Stage) :
    setStage e.consumer st s = { s with scheduler.schedule := before ++ { e with stage := st } :: after } := by
  obtain ⟨hnodup, -⟩ := hright
  rw [hschedule, List.map_append, List.map_cons] at hnodup
  have hother (l : List MoveEntry) (hl : e.consumer ∉ l.map MoveEntry.consumer) :
      (l.map fun x => if x.consumer == e.consumer then { x with stage := st } else x) = l := by
    refine (List.map_congr_left fun x hx => if_neg fun hsame => hl ?_).trans (List.map_id' l)
    rw [← beq_iff_eq.mp hsame]
    exact List.mem_map_of_mem hx
  have hnot := List.nodup_middle.mp hnodup
  rw [List.nodup_cons, List.mem_append, not_or] at hnot
  obtain ⟨⟨hbefore, hafter⟩, -⟩ := hnot
  unfold setStage
  rw [hschedule, List.map_append, List.map_cons, hother before hbefore, hother after hafter, if_pos (beq_self_eq_true _)]

/-- The order source after its withdrawals (R111, R175). -/
theorem grantOrder_eq (s : State) :
    grantOrder s = match (withdrawTooNear s).earliestWaiting with
      | some e => startDown .order ((withdrawTooNear s).transferOrder e) (setStage e.consumer (.queued true) (withdrawTooNear s))
      | none => grantBelowOrder (withdrawTooNear s) := rfl

/-- With nothing too near the earliest entry is sent (R111, R112). -/
theorem grantOrder_sends {before after : List MoveEntry} {e : MoveEntry} {r : Consumer} (hright : s.ScheduleRight)
    (hschedule : s.scheduler.schedule = before ++ e :: after) (he : e.stage = .queued false)
    (hr : s.record e.consumer = some r) (hbefore : ∀ x ∈ before, x.stage ≠ .queued false)
    (hfar : ∀ x ∈ e :: after, x.stage = .queued false → tooNear x.execute s.now = false) :
    grantOrder s
      = { s with
          scheduler.schedule := before ++ { e with stage := .queued true } :: after
          ports.down.transmitter := .busy .order (goodFrame r.address s.ownAddress 0x30 e.tag
            (phaseCode e.target :: be2 e.execute.toNat ++ [byte s.management.active.transferGap]))
          ports.down.burst := if s.ports.down.forward = [] then 0 else raise 16 s.ports.down.burst } := by
  have hnone : s.tooNearEntries = [] := by
    refine List.filter_eq_nil_iff.mpr fun x hx hnear => ?_
    obtain ⟨hwaits, hnear⟩ := MoveEntry.waits_iff.mp hnear
    rw [hschedule] at hx
    rcases List.mem_append.mp hx with hx | hx
    · exact hbefore x hx hwaits
    · rw [hfar x hx hwaits] at hnear
      cases hnear
  rw [grantOrder_eq, withdrawTooNear_of_none hnone, earliestWaiting_of_split hschedule he hbefore]
  dsimp only
  rw [setStage_split hright hschedule, State.transferOrder, addressOf_some hr, startDown, burstAfter_eq]
  rfl

/-- Withdrawals made, the order source serves as the arbiter does that finds them made (R111, R175). -/
theorem grantOrder_withdrawn (hidle : s.ports.down.transmitter = .idle) (hmark : s.timebase.markWaiting = false)
    (hfull : ¬ s.burstFull s.ports.down = true) (hsynced : s.timebase.sync = .synced) (hright : s.ScheduleRight)
    {u : State} (hu : u = withdrawTooNear s) (hdown : u.ports.down = s.ports.down) (htimebase : u.timebase = s.timebase)
    (hmanagement : u.management = s.management) : grantOrder s = grantDown u := by
  have hfull' : ¬ u.burstFull u.ports.down = true := by
    rw [burstFull_iff] at hfull ⊢
    rwa [hdown, hmanagement]
  have hmark' : u.timebase.markWaiting = false := by rwa [htimebase]
  rw [grantDown_idle (by rwa [hdown])]
  by_cases horder : u.orderWaiting = true
  · have hsame : withdrawTooNear u = u :=
      withdrawTooNear_of_none (by rw [hu]; exact tooNearEntries_withdrawTooNear hright)
    rw [chooseDown_order hmark' hfull' horder, grantOrder_eq u, hsame, grantOrder_eq, ← hu]
  · rw [chooseDown_below hmark' hfull' horder, grantOrder_eq, ← hu, earliestWaiting_none fun e he hwaits =>
      horder (orderWaiting_iff.mpr ⟨by rwa [htimebase], e, he, hwaits⟩)]

/-- A schedule whose waiting entries are all too near leaves the order source with none. -/
theorem earliestWaiting_withdrawn (hright : s.ScheduleRight)
    (hnear : ∀ e ∈ s.scheduler.schedule, e.stage = .queued false → tooNear e.execute s.now = true) :
    (withdrawTooNear s).earliestWaiting = none := by
  have hwithdraws := withdrawTooNear_withdraws s
  refine earliestWaiting_none fun e he hwaits => ?_
  have hgone := List.filter_eq_nil_iff.mp (tooNearEntries_withdrawTooNear hright) e he
  rw [now_of_timebase hwithdraws.leaves.timebase] at hgone
  rw [hwithdraws.scheduler] at he
  exact hgone (MoveEntry.waits_iff.mpr ⟨hwaits, hnear e (List.mem_of_mem_filter he) hwaits⟩)

theorem scheduler_withdrawTooNear (hright : s.ScheduleRight) :
    (withdrawTooNear s).scheduler
      = { s.scheduler with schedule := s.scheduler.schedule.filter fun e => !s.tooNearEntries.contains e } := by
  have hschedule : (s.scheduler.schedule.filter fun x => !namedBy s.tooNearEntries x.consumer)
      = s.scheduler.schedule.filter fun e => !s.tooNearEntries.contains e :=
    List.filter_congr fun x hx => congrArg Bool.not (namedBy_tooNear hright hx)
  rw [(withdrawTooNear_withdraws s).scheduler, hschedule]

/-! ### The upstream arbiter -/

theorem grantUp_idle (h : s.ports.up.transmitter = .idle) : grantUp s = chooseUp s := by
  unfold grantUp
  rw [h]

theorem chooseUp_full (h : s.burstFull s.ports.up = true) : chooseUp s = grantForwardUp s := if_pos h

theorem chooseUp_response (hfull : ¬ s.burstFull s.ports.up = true) {f : Frame} {rest : List Frame}
    (h : s.ports.responses = f :: rest) : chooseUp s = startUp .response f { s with ports.responses := rest } := by
  unfold chooseUp
  rw [if_neg hfull, h]

theorem chooseUp_notice (hfull : ¬ s.burstFull s.ports.up = true) (h : s.ports.responses = []) :
    chooseUp s = grantNotice s := by
  unfold chooseUp
  rw [if_neg hfull, h]

theorem grantForwardUp_cons {f : Frame} {rest : List Frame} (h : s.ports.up.forward = f :: rest) :
    grantForwardUp s
      = { s with ports.up := { s.ports.up with transmitter := .busy .forward f, burst := 0, forward := rest } } := by
  unfold grantForwardUp
  rw [h]

theorem grantForwardUp_nil (h : s.ports.up.forward = []) : grantForwardUp s = s := by
  unfold grantForwardUp
  rw [h]

theorem grantNotice_cons {n : Notice} {rest : List Notice} (h : s.ports.notices = n :: rest) :
    grantNotice s = startUp .notice (noticeFrame s.ownAddress n) { s with ports.notices := rest } := by
  unfold grantNotice
  rw [h]

theorem grantNotice_nil (h : s.ports.notices = []) : grantNotice s = grantForwardUp s := by
  unfold grantNotice
  rw [h]

/-! ### The grants -/

section Downstream
variable (hidle : s.ports.down.transmitter = .idle) (hmark : s.timebase.markWaiting = false)
include hidle hmark

theorem grantDown_forward {f : Frame} {rest : List Frame} (hforward : s.ports.down.forward = f :: rest)
    (hserved : s.burstFull s.ports.down = true
      ∨ ¬ s.orderWaiting = true ∧ ¬ ∃ e rest, s.scheduler.queries = ⟨e, false⟩ :: rest) :
    grantDown s
      = { s with ports.down := { s.ports.down with transmitter := .busy .forward f, burst := 0, forward := rest } } := by
  rw [grantDown_idle hidle, ← grantForwardDown_cons hforward]
  by_cases hburst : s.burstFull s.ports.down = true
  · exact chooseDown_full hmark hburst
  · obtain ⟨hnotOrder, hnoQuery⟩ := hserved.resolve_left hburst
    rw [chooseDown_below hmark hburst hnotOrder, grantBelowOrder_forward hnoQuery]

theorem grantDown_query (hnotFull : ¬ s.burstFull s.ports.down = true) (hnotOrder : ¬ s.orderWaiting = true)
    {i : Nat} {rest : List QueryEntry} {r : Consumer} (hqueries : s.scheduler.queries = ⟨i, false⟩ :: rest)
    (hr : s.record i = some r) :
    grantDown s
      = { s with
          scheduler.queries := ⟨i, true⟩ :: rest
          scheduler.tagCounter := nextTag s.scheduler.tagCounter
          ports.down.transmitter := .busy .query (goodFrame r.address s.ownAddress 0x34 s.scheduler.tagCounter [])
          ports.down.burst := if s.ports.down.forward = [] then 0 else raise 16 s.ports.down.burst } := by
  rw [grantDown_idle hidle, chooseDown_below hmark hnotFull hnotOrder, grantBelowOrder_query hqueries, grantQuery]
  dsimp only
  rw [State.phaseQuery, addressOf_some hr, startDown, burstAfter_eq, hqueries]
  rfl

theorem grantDown_nothing (hnotOrder : ¬ s.orderWaiting = true)
    (hnoQuery : ¬ ∃ e rest, s.scheduler.queries = ⟨e, false⟩ :: rest) (hforward : s.ports.down.forward = []) :
    grantDown s = s := by
  have hburst : ¬ s.burstFull s.ports.down = true := fun h => ((burstFull_iff _).mp h).2 hforward
  rw [grantDown_idle hidle, chooseDown_below hmark hburst hnotOrder, grantBelowOrder_forward hnoQuery,
    grantForwardDown_nil hforward]

/-- A grant to the order source withdraws the entries too near first (R111, R175). -/
theorem grantDown_withdraws (hfull : ¬ s.burstFull s.ports.down = true) (horder : s.orderWaiting = true)
    (hright : s.ScheduleRight) :
    grantDown s = grantDown (withdrawTooNear s)
      ∧ ((∀ e ∈ s.scheduler.schedule, e.stage = .queued false → tooNear e.execute s.now = true) →
        (¬ ∃ e rest, s.scheduler.queries = ⟨e, false⟩ :: rest) → s.ports.down.forward = [] →
        grantDown s = withdrawTooNear s) := by
  have hwithdraws := withdrawTooNear_withdraws s
  obtain ⟨notices, lost, hports⟩ := hwithdraws.ports
  have hdown : (withdrawTooNear s).ports.down = s.ports.down := by rw [hports]
  have hgrant : grantDown s = grantOrder s := (grantDown_idle hidle).trans (chooseDown_order hmark hfull horder)
  rw [hgrant]
  refine ⟨grantOrder_withdrawn hidle hmark hfull (orderWaiting_iff.mp horder).1 hright rfl hdown
    hwithdraws.leaves.timebase hwithdraws.leaves.management, fun hnear hquery hforward => ?_⟩
  have hqueries : (withdrawTooNear s).scheduler.queries = s.scheduler.queries :=
    (congrArg Scheduler.queries hwithdraws.scheduler :)
  rw [grantOrder_eq, earliestWaiting_withdrawn hright hnear]
  dsimp only
  rw [grantBelowOrder_forward (by rwa [hqueries]), grantForwardDown_nil (by rwa [hdown])]

end Downstream

section Upstream
variable (hidle : s.ports.up.transmitter = .idle)
include hidle

theorem grantUp_forward {f : Frame} {rest : List Frame} (hforward : s.ports.up.forward = f :: rest)
    (hserved : s.burstFull s.ports.up = true ∨ s.ports.responses = [] ∧ s.ports.notices = []) :
    grantUp s
      = { s with ports.up := { s.ports.up with transmitter := .busy .forward f, burst := 0, forward := rest } } := by
  rw [grantUp_idle hidle, ← grantForwardUp_cons hforward]
  by_cases hburst : s.burstFull s.ports.up = true
  · exact chooseUp_full hburst
  · obtain ⟨hresponses, hnotices⟩ := hserved.resolve_left hburst
    rw [chooseUp_notice hburst hresponses, grantNotice_nil hnotices]

theorem grantUp_nothing (hresponses : s.ports.responses = []) (hnotices : s.ports.notices = [])
    (hforward : s.ports.up.forward = []) : grantUp s = s := by
  have hburst : ¬ s.burstFull s.ports.up = true := fun h => ((burstFull_iff _).mp h).2 hforward
  rw [grantUp_idle hidle, chooseUp_notice hburst hresponses, grantNotice_nil hnotices, grantForwardUp_nil hforward]

end Upstream

end Grants

/-- Settles O43: each clause is the branch that `chooseDown` or `chooseUp` takes there; a grant to the order source is that
of the state its withdrawals leave (`withdrawTooNear_withdraws`), where nothing is too near any more. -/
theorem grantsFollowRank : Obligations.GrantsFollowRank := by
  intro s
  refine ⟨fun hidle => ?_, fun hidle => ?_⟩
  · intro full burst order query
    have hfull : full ↔ s.burstFull s.ports.down = true := (burstFull_iff s.ports.down).symm
    have horder : order ↔ s.orderWaiting = true := orderWaiting_iff.symm
    rw [hfull, horder]
    refine ⟨fun hmark => (grantDown_idle hidle).trans (chooseDown_mark hmark),
      fun hmark f rest hforward hserved => grantDown_forward hidle hmark hforward hserved,
      fun hmark hnotFull hsynced before e after r hschedule he hright hr hbefore hfar => ?_,
      fun hmark hnotFull hnotOrder i rest r => grantDown_query hidle hmark hnotFull hnotOrder,
      fun hmark hnotFull hwaiting hright => ?_,
      fun hmark => grantDown_nothing hidle hmark⟩
    · have hmem : e ∈ s.scheduler.schedule := by
        rw [hschedule]
        exact List.mem_append_right _ List.mem_cons_self
      rw [grantDown_idle hidle, chooseDown_order hmark hnotFull (orderWaiting_iff.mpr ⟨hsynced, e, hmem, he⟩)]
      exact grantOrder_sends hright hschedule he hr hbefore hfar
    · have hwithdraws := withdrawTooNear_withdraws s
      obtain ⟨notices, lost, hports⟩ := hwithdraws.ports
      obtain ⟨hgrant, hlast⟩ := grantDown_withdraws hidle hmark hnotFull hwaiting hright
      exact ⟨withdrawTooNear s, hgrant, scheduler_withdrawTooNear hright, hwithdraws.right hright, hwithdraws.records,
        by rw [hports], hwithdraws.leaves.timebase, hwithdraws.leaves.management, hwithdraws.leaves.straps,
        hwithdraws.leaves.active, fun hmask hevent hroom => (hwithdraws.notices hmask hevent hroom).2, hlast⟩
  · intro full burst
    have hfull : full ↔ s.burstFull s.ports.up = true := (burstFull_iff s.ports.up).symm
    rw [hfull]
    refine ⟨fun f rest => grantUp_forward hidle, fun f rest hnotFull hresponses => ?_,
      fun n rest hnotFull hresponses hnotices => ?_, grantUp_nothing hidle⟩
    · rw [grantUp_idle hidle, chooseUp_response hnotFull hresponses, startUp, burstAfter_eq]
    · rw [grantUp_idle hidle, chooseUp_notice hnotFull hresponses, grantNotice_cons hnotices, startUp, burstAfter_eq]
      rfl

end Sys2Proof.Machine

namespace Sys2Proof.Machine

/-! ## Phase Supervision commanded alone (R66 to R71) -/

section Commands
variable {s : State} (h : s.hold = none)
include h

theorem exec_sagSample {point : Nat} (hpoint : s.timebase.nextSample = some point) (sag : PhaseSet) :
    exec (.sagSample sag) s = .next (finish (dropChoice (sampleAll (setTick point (setSagLines sag s))))) := by
  change Host.Outcome.next (whileRunning (fun s => sampleStep (setSagLines sag s)) s) = _
  rw [whileRunning_running _ _ h, sampleStep, setSagLines_timebase, hpoint]
  rfl

theorem exec_filteredSagLevelChange (p : Phase) :
    exec (.filteredSagLevelChange p) s = .next (finish (dropChoice (filteredLevelChange p s))) :=
  next_whileRunning h fun s => dropChoice (filteredLevelChange p s)

theorem exec_crossingPresenceChange (p : Phase) :
    exec (.crossingPresenceChange p) s = .next (finish (dropChoice (presenceChange p s))) :=
  next_whileRunning h fun s => dropChoice (presenceChange p s)

theorem exec_sagDelay (p : Phase) : exec (.sagDelay p) s = .next (finish (dropChoice (sagDelayReached p s))) :=
  next_whileRunning h fun s => dropChoice (sagDelayReached p s)

theorem exec_holdComplete (p : Phase) : exec (.holdComplete p) s = .next (finish (dropChoice (holdReached p s))) :=
  next_whileRunning h fun s => dropChoice (holdReached p s)

end Commands

/-- Settles O14: the sample point is reached by the tick counter alone, and each phase is sampled by itself
(`watch_sampleAll`). -/
theorem sagSampleFilters : Obligations.SagSampleFilters := by
  intro sag point s hrunning hpoint
  have hsampled := sampleAll_leaves (setTick point (setSagLines sag s))
  exact ⟨_, exec_sagSample hrunning hpoint sag, hsampled.timebase, hsampled.sagLines, hsampled.management,
    hsampled.intake, watch_sampleAll (setTick point (setSagLines sag s))⟩

/-! ### The condition machine, change by change -/

/-- A change of filtered sag level that is due (R67, R70). -/
theorem filteredLevelChange_phases {p : Phase} {s : State}
    (hrun : s.management.active.sagFilter ≤ (s.watch p).filterRun) :
    (filteredLevelChange p s).supervision.phases = s.supervision.phases.set p
      { s.watch p with
        sagActive := !(s.watch p).sagActive, filterRun := 0
        condition := (s.watch p).conditionOnLevel (!(s.watch p).sagActive) } := by
  rw [filteredLevelChange, if_pos hrun, onFilteredLevel_phases, watch_setWatch_same]
  exact PerPhase.set_set _ _ _ _

/-- The condition of a phase once its crossing presence is updated (R70). -/
def PhaseWatch.conditionOnPresence (w : PhaseWatch) : Condition :=
  if w.present = false then .lost
  else if w.condition = .lost ∧ w.sagActive = false then .recovering 0
  else w.condition

theorem onPresence_phases (p : Phase) (s : State) :
    (onPresence p s).supervision.phases
      = s.supervision.phases.set p { s.watch p with condition := (s.watch p).conditionOnPresence } := by
  have self := set_watch_self s p
  unfold onPresence PhaseWatch.conditionOnPresence
  generalize hw : s.watch p = w at self ⊢
  obtain ⟨c, a, f, e, present, x, y⟩ := w
  cases present with
  | false => cases c <;> simp [hw, changeCondition_phases, self]
  | true =>
    cases c with
    | lost => cases a <;> simp [hw, changeCondition_phases, self]
    | healthy | sag | recovering => simp [self]

theorem PhaseWatch.withPresence_absent {w : PhaseWatch} (hpresent : w.present = true) (hrun : w.absenceRun = 3) :
    w.withPresence = { w with present := false } := by
  simp [PhaseWatch.withPresence, hpresent, hrun]

theorem PhaseWatch.withPresence_back {w : PhaseWatch} (hpresent : w.present = false) (hrun : w.presenceRun = 3) :
    w.withPresence = { w with present := true } := by
  simp [PhaseWatch.withPresence, hpresent, hrun]

/-- A crossing presence whose run is at 3 turns, and the condition machine answers (R68, R70). -/
theorem presenceChange_turned {p : Phase} {s : State} {present : Bool} (hpresent : (s.watch p).present ≠ present)
    (hturned : (s.watch p).withPresence = { s.watch p with present := present }) :
    presenceChange p s = onPresence p (s.setWatch p { s.watch p with present := present }) := by
  have hchanged : (s.watch p).withPresence ≠ s.watch p := fun e =>
    hpresent ((congrArg PhaseWatch.present (hturned.symm.trans e)).symm)
  rw [presenceChange, if_neg hchanged, hturned]

theorem presenceChange_phases {p : Phase} {s : State} {present : Bool} (hpresent : (s.watch p).present ≠ present)
    (hturned : (s.watch p).withPresence = { s.watch p with present := present }) :
    (presenceChange p s).supervision.phases = s.supervision.phases.set p
      { s.watch p with
        present := present
        condition := PhaseWatch.conditionOnPresence { s.watch p with present := present } } := by
  rw [presenceChange_turned hpresent hturned, onPresence_phases, watch_setWatch_same]
  exact PerPhase.set_set _ _ _ _

theorem sagDelayReached_due {p : Phase} {s : State} {delay : Nat} (hsag : (s.watch p).condition = .sag delay)
    (hdue : s.management.active.sagDelay ≤ delay) : sagDelayReached p s = changeCondition p .lost .sagDelay s := by
  rw [sagDelayReached, hsag]
  exact if_pos hdue

/-- A recovery hold that is complete reaches the condition of its phase and the notice queue alone (R71, R74). -/
theorem holdReached_due {p : Phase} {s : State} {hold : Nat} (hrecovering : (s.watch p).condition = .recovering hold)
    (hdue : s.management.active.recoveryHold ≤ hold) (hpresent : (s.watch p).present = true)
    (hsag : (s.watch p).sagActive = false) :
    ∃ notices lost, holdReached p s
      = { s.setWatch p { s.watch p with condition := .healthy } with
          ports.notices := notices, ports.lostNotices := lost } := by
  have hchange : holdReached p s = changeCondition p .healthy .holdComplete s := by
    simp [holdReached, hrecovering, hdue, hpresent, hsag]
  have hnotice : changeCondition p .healthy .holdComplete s
      = queueNotice .phaseCondition
        [phaseCode p, Condition.code (.recovering hold), Condition.code .healthy, ConditionCause.code .holdComplete]
        (s.setWatch p { s.watch p with condition := .healthy }) := by
    rw [changeCondition, hrecovering]
    exact ite_self _
  rw [hchange, hnotice]
  exact queueNotice_eq ..

/-- A command that changes what is kept of the phases, and leaves the clock. -/
theorem State.LeavesClock.event {c : Instr} {s t : State} {phases : PerPhase PhaseWatch} (h : s.LeavesClock t)
    (hexec : exec c s = .next (finish (dropChoice t))) (hphases : t.supervision.phases = phases) :
    ∃ u, exec c s = .next (finish u) ∧ u.supervision.phases = phases ∧ u.timebase = s.timebase
      ∧ u.management = s.management ∧ u.intake = s.intake :=
  ⟨_, hexec, hphases, h.timebase, h.management, h.intake⟩

/-- Settles O15: each row changes the one watch that its phases lemma names and leaves the clock; a completed hold adds
no more than its notice (`holdReached_due`). -/
theorem conditionMachine : Obligations.ConditionMachine := by
  intro p s hrunning
  have hpresence := presenceChange_leaves p s
  refine ⟨fun hrun => ?_, fun hpresent hrun => ?_, fun hpresent hrun => ?_, fun delay hsag hdue => ?_,
    fun hold hrecovering hdue hpresent hsag => ?_⟩
  · exact (filteredLevelChange_leaves p s).event (exec_filteredSagLevelChange hrunning p)
      (filteredLevelChange_phases hrun)
  · exact hpresence.event (exec_crossingPresenceChange hrunning p)
      (presenceChange_phases (by simp [hpresent]) (PhaseWatch.withPresence_absent hpresent hrun))
  · exact hpresence.event (exec_crossingPresenceChange hrunning p)
      (presenceChange_phases (by simp [hpresent]) (PhaseWatch.withPresence_back hpresent hrun))
  · refine (sagDelayReached_leaves p s).event (exec_sagDelay hrunning p) ?_
    rw [sagDelayReached_due hsag hdue]
    exact changeCondition_phases ..
  · obtain ⟨notices, lost, e⟩ := holdReached_due hrecovering hdue hpresent hsag
    refine ⟨_, exec_holdComplete hrunning p, ?_⟩
    rw [e]
    exact ⟨rfl, rfl, rfl, rfl, rfl, rfl, rfl, rfl⟩

end Sys2Proof.Machine

namespace Sys2Proof.Machine

/-! ## Rescue triggers and recoveries (R148, R155) -/

/-! ### What the operations on the list reach -/

@[simp] theorem modifyRecord_rescue (i : Nat) (f : Consumer → Consumer) (s : State) :
    (s.modifyRecord i f).rescue = s.rescue := by
  obtain ⟨l, -, e⟩ := modifyRecord_eq i f s
  rw [e]

/-- An insertion changes the list alone in the Rescue Unit (R147). -/
theorem enlist_rescue (i n : Nat) (p : Phase) (s : State) :
    (enlist i n p s).rescue = { s.rescue with list := insertInOrder s.listedBefore i s.rescue.list } :=
  modifyRecord_rescue ..

theorem mem_foldl_enlist (l : List Nat) (p : Phase) (s : State) (x : Nat) :
    x ∈ (l.foldl (fun s i => enlist i 0 p s) s).rescue.list ↔ x ∈ s.rescue.list ∨ x ∈ l := by
  induction l generalizing s with
  | nil => simp
  | cons i l ih =>
    rw [List.foldl_cons, ih, enlist_rescue, mem_insertInOrder, List.mem_cons]
    tauto

theorem foldl_enlist_event (l : List Nat) (p : Phase) (s : State) :
    (l.foldl (fun s i => enlist i 0 p s) s).rescue.event = s.rescue.event :=
  foldl_keeps (P := fun t => t.rescue.event = s.rescue.event)
    (fun t i h => (congrArg Rescue.event (enlist_rescue i 0 p t)).trans h) l rfl

theorem mem_foldl_restored (l : List Nat) (s : State) (x : Nat) :
    x ∈ (l.foldl (fun s i => countRestored (unlist i s)) s).rescue.list ↔ x ∈ s.rescue.list ∧ x ∉ l := by
  induction l generalizing s with
  | nil => simp
  | cons i l ih =>
    have hrestored : x ∈ (countRestored (unlist i s)).rescue.list ↔ x ∈ s.rescue.list ∧ x ≠ i := mem_unlist i x s
    rw [List.foldl_cons, ih, hrestored, List.mem_cons]
    tauto

/-- The records on a recovered phase are taken off the list (R155). -/
def listRestored (p : Phase) (s : State) : State :=
  (s.rescue.list.filter fun i => s.projected i == some p).foldl (fun s i => countRestored (unlist i s)) s

/-- The records with a recovered rescue phase drop it and their attempts (R155). -/
def marksDropped (p : Phase) (s : State) : State :=
  (s.indicesWhere fun _ r => r.rescue.any fun m => m.phase == p).foldl (fun s i => dropRescueMark i s) s

theorem mem_listRestored (p : Phase) (s : State) (i : Nat) :
    i ∈ (listRestored p s).rescue.list ↔ i ∈ s.rescue.list ∧ s.projected i ≠ some p := by
  rw [listRestored, mem_foldl_restored, List.mem_filter, beq_iff_eq]
  tauto

theorem marksDropped_rescue (p : Phase) (s : State) : (marksDropped p s).rescue = s.rescue :=
  foldl_keeps (P := fun t => t.rescue = s.rescue) (fun _ _ h => (modifyRecord_rescue ..).trans h) _ rfl

/-- A record that a pass over the records of a rescue phase visits has no attempts left, and any other had another
rescue phase. -/
theorem marksDropped_phase {p : Phase} {i : Nat} {r : Consumer} {m : RescueMark} {s : State}
    (hrecord : (marksDropped p s).record i = some r) (hmark : r.rescue = some m) : m.phase ≠ p := by
  have haround (t : State) (j : Nat) : t.Around j (dropRescueMark j t) :=
    modifyRecord_around (f := fun r => { r with rescue := none }) fun _ _ => rfl
  rw [marksDropped] at hrecord
  by_cases hmem : i ∈ s.indicesWhere fun _ r => r.rescue.any fun m => m.phase == p
  · obtain ⟨t, -, e⟩ := record_foldl_of_mem haround (s.indicesWhere_nodup _) hmem s
    rw [e, dropRescueMark, record_modifyRecord, if_pos rfl, Option.map_eq_some_iff] at hrecord
    obtain ⟨r', -, rfl⟩ := hrecord
    cases hmark
  · rw [record_foldl_of_not_mem haround hmem] at hrecord
    rintro rfl
    exact hmem ((mem_indicesWhere ..).mpr ⟨r, hrecord, by simp [hmark]⟩)

/-- With an entry in the list the close test finds rescue active (R146, R157). -/
theorem closeTest_listed {s : State} (h : s.rescue.list ≠ []) : closeTest s = s := by
  rcases closeTest_eq s with e | ⟨_, _, hinactive, -⟩
  · exact e
  · exact absurd (list_of_inactive hinactive) h

/-! ### The two answers of the Rescue Unit -/

/-- A trigger opens the loss event or extends it to the phase; the list stays (R148). -/
theorem openOrExtend_eq (p : Phase) (s : State) : ∃ ev rescued unrescuable restored, ev.covered.get p = true
    ∧ openOrExtend p s = { s with rescue := ⟨some ev, rescued, unrescuable, restored, s.rescue.list⟩ } := by
  unfold openOrExtend
  cases h : s.rescue.event with
  | none => exact ⟨_, _, _, _, PerPhase.get_set_same _ p true, rfl⟩
  | some ev => exact ⟨_, _, _, _, PerPhase.get_set_same _ p true, rfl⟩

/-- A trigger with rescue on lists the unlocked drawable records of the phase; with any record listed, the loss event
covers the phase (R148). -/
theorem rescueTrigger_lists (p : Phase) {s : State} (henabled : s.rescueEnabled = true) :
    (∀ i, i ∈ (rescueTrigger p s).rescue.list ↔ i ∈ s.rescue.list
        ∨ ∃ r, s.record i = some r ∧ r.state.drawable = true ∧ s.projectedOf i r = p ∧ r.lock = false)
      ∧ ((rescueTrigger p s).rescue.list ≠ [] →
        ∃ ev, (rescueTrigger p s).rescue.event = some ev ∧ ev.covered.get p = true) := by
  obtain ⟨ev, rescued, unrescuable, restored, hcovered, hopen⟩ := openOrExtend_eq p s
  rw [rescueTrigger, if_pos henabled, closeTest_list, hopen]
  refine ⟨fun i => ?_, fun hlisted => ⟨ev, ?_, hcovered⟩⟩
  · rw [mem_foldl_enlist, mem_indicesWhere]
    simp only [Bool.and_eq_true, beq_iff_eq, Bool.not_eq_true']
    by_cases hmem : i ∈ s.rescue.list
    · exact iff_of_true (.inl hmem) (.inl hmem)
    · refine or_congr_right (exists_congr fun r => and_congr_right fun _ => ?_)
      have hunlisted : s.listed i = false := by simpa [State.listed] using hmem
      constructor
      · rintro ⟨⟨⟨hdrawable, hphase⟩, hlock⟩, -⟩
        exact ⟨hdrawable, hphase, hlock⟩
      · rintro ⟨hdrawable, hphase, hlock⟩
        exact ⟨⟨⟨hdrawable, hphase⟩, hlock⟩, hunlisted⟩
  · rw [closeTest_listed hlisted, foldl_enlist_event]

theorem rescueRecovery_eq (p : Phase) (s : State) : ∃ event,
    rescueRecovery p s = closeTest { marksDropped p (listRestored p s) with rescue.event := event } := by
  unfold rescueRecovery
  dsimp only
  split
  · exact ⟨_, rfl⟩
  · exact ⟨(marksDropped p (listRestored p s)).rescue.event, rfl⟩

/-- A recovery takes the records of the phase off the list, and their attempts from every record that it was the rescue
phase of (R155). -/
theorem rescueRecovery_unlists (p : Phase) (s : State) :
    (∀ i, i ∈ (rescueRecovery p s).rescue.list ↔ i ∈ s.rescue.list ∧ s.projected i ≠ some p)
      ∧ ∀ i r, (rescueRecovery p s).record i = some r → ∀ m, r.rescue = some m → m.phase ≠ p := by
  obtain ⟨event, e⟩ := rescueRecovery_eq p s
  rw [e]
  refine ⟨fun i => ?_, fun i r hrecord m hmark => ?_⟩
  · rw [closeTest_list, ← mem_listRestored, ← marksDropped_rescue p (listRestored p s)]
  · rw [record_of_tables (closeTest_tables _)] at hrecord
    exact marksDropped_phase hrecord hmark

/-! ### The change of condition that brings them -/

theorem noticeCondition_eq (p : Phase) (left entered : Condition) (cause : ConditionCause) (s : State) :
    ∃ notices lost, noticeCondition p left entered cause s
      = { s with ports.notices := notices, ports.lostNotices := lost } := by
  unfold noticeCondition
  dsimp only
  split
  · exact queueNotice_eq ..
  · exact queueNotice_eq ..
  · split
    · exact raiseNotice_eq ..
    · exact ⟨_, _, rfl⟩
  · split
    · exact raiseNotice_eq ..
    · exact ⟨_, _, rfl⟩
  · exact raiseNotice_eq ..
  · exact ⟨_, _, rfl⟩

/-- What a change of condition leaves of the list and the records is the Rescue Unit's part, whichever of it and the
notice comes first (R72; log 3). -/
theorem changeCondition_rescue (p : Phase) (entered : Condition) (cause : ConditionCause) (s : State) :
    ∃ notices lost,
      let t := rescueOnCondition p (s.watch p).condition entered
        { s.setWatch p { s.watch p with condition := entered } with
          ports.notices := notices, ports.lostNotices := lost }
      (changeCondition p entered cause s).rescue = t.rescue ∧ (changeCondition p entered cause s).tables = t.tables := by
  unfold changeCondition
  dsimp only
  split
  · obtain ⟨notices, lost, e⟩ := noticeCondition_eq p (s.watch p).condition entered cause
      (s.setWatch p { s.watch p with condition := entered })
    rw [e]
    exact ⟨notices, lost, rfl, rfl⟩
  · obtain ⟨notices, lost, e⟩ := noticeCondition_eq p (s.watch p).condition entered cause
      (rescueOnCondition p (s.watch p).condition entered (s.setWatch p { s.watch p with condition := entered }))
    rw [e]
    exact ⟨s.ports.notices, s.ports.lostNotices, rfl, rfl⟩

/-- Returning crossings take a LOST phase without a sag into RECOVERING (R68, R70). -/
theorem presenceChange_recovers {p : Phase} {s : State} (hlost : (s.watch p).condition = .lost)
    (hpresent : (s.watch p).present = false) (hrun : (s.watch p).presenceRun = 3)
    (hsag : (s.watch p).sagActive = false) :
    presenceChange p s
      = changeCondition p (.recovering 0) .conditionsMet (s.setWatch p { s.watch p with present := true }) := by
  rw [presenceChange_turned (by simp [hpresent]) (PhaseWatch.withPresence_back hpresent hrun)]
  simp [onPresence, hlost, hsag]

/-- Settles O16: either row is one change of condition, whose Rescue Unit's part is a trigger (`rescueTrigger_lists`) or
a recovery (`rescueRecovery_unlists`). -/
theorem lossListsAndRecoveryUnlists : Obligations.LossListsAndRecoveryUnlists := by
  refine fun p s hrunning => ⟨fun delay hsag hdue henabled => ?_, fun hlost hpresent hrun hsag => ?_⟩
  · refine ⟨_, exec_sagDelay hrunning p, (sagDelayReached_aside p s).scheduler, ?_⟩
    obtain ⟨notices, lost, hrescue, -⟩ := changeCondition_rescue p .lost .sagDelay s
    rw [dropChoice_rescue, sagDelayReached_due hsag hdue, hrescue, hsag]
    exact rescueTrigger_lists p henabled
  · have e := presenceChange_recovers hlost hpresent hrun hsag
    refine ⟨_, exec_crossingPresenceChange hrunning p, ?_⟩
    rw [e]
    obtain ⟨notices, lost, hrescue, htables⟩ := changeCondition_rescue p (.recovering 0) .conditionsMet
      (s.setWatch p { s.watch p with present := true })
    rw [watch_setWatch_same, hlost] at hrescue htables
    obtain ⟨hlist, hmarks⟩ := rescueRecovery_unlists p
      { (s.setWatch p { s.watch p with present := true }).setWatch p
          { s.watch p with present := true, condition := .recovering 0 } with
        ports.notices := notices, ports.lostNotices := lost }
    refine ⟨(changeCondition_aside ..).scheduler, fun i => ?_, fun i r hrecord => hmarks i r ?_⟩
    · rw [dropChoice_rescue, hrescue]
      exact hlist i
    · rw [record_of_tables ((dropChoice_tables _).trans htables)] at hrecord
      exact hrecord

end Sys2Proof.Machine

namespace Sys2Proof.Machine

/-! ## The searches of a pass (R91, R92) -/

/-- A trial is a move of a candidate to one of its targets, with its gain (R91). -/
theorem mem_trials {pass : Pass} {m : ChosenMove} :
    m ∈ pass.trials ↔ ∃ c ∈ pass.candidates,
      m.consumer = c.consumer ∧ m.fromPhase = c.fromPhase ∧ m.segment = c.segment
        ∧ c.targets.get m.target = true ∧ trialGain pass c m.target = some m.gain
        ∧ ∀ x ∈ pass.results, x.consumer ≠ c.consumer := by
  have hall (q : Phase) : q ∈ Phase.all := by cases q <;> decide
  simp only [Pass.trials, List.mem_flatMap, List.mem_filterMap, List.mem_filter, Option.map_eq_some_iff,
    Bool.not_eq_true', List.any_eq_false, beq_iff_eq, hall, true_and]
  constructor
  · rintro ⟨c, ⟨hc, hunchosen⟩, q, hq, g, hg, rfl⟩
    exact ⟨c, hc, rfl, rfl, rfl, hq, hg, hunchosen⟩
  · obtain ⟨consumer, fromPhase, target, segment, gain⟩ := m
    rintro ⟨c, hc, rfl, rfl, rfl, hq, hg, hunchosen⟩
    exact ⟨c, ⟨hc, hunchosen⟩, target, hq, gain, hg, rfl⟩

/-- The trials stand by ascending consumer index, and those of one candidate by ascending phase (R92). -/
theorem trials_ascending {pass : Pass} (h : (pass.candidates.map Candidate.consumer).Pairwise (· < ·)) :
    pass.trials.Pairwise fun a b =>
      a.consumer < b.consumer
        ∨ a.consumer = b.consumer ∧ (phaseCode a.target).toNat < (phaseCode b.target).toNat := by
  have hphases : Phase.all.Pairwise fun p q => (phaseCode p).toNat < (phaseCode q).toNat := by decide
  refine List.pairwise_flatMap.mpr ⟨fun c _ => ?_, ?_⟩
  · refine List.pairwise_filterMap.mpr ((hphases.filter _).imp fun hlt a ha b hb => .inr ?_)
    obtain ⟨_, -, rfl⟩ := Option.map_eq_some_iff.mp ha
    obtain ⟨_, -, rfl⟩ := Option.map_eq_some_iff.mp hb
    exact ⟨rfl, hlt⟩
  · refine ((List.pairwise_map.mp h).filter _).imp fun hlt a ha b hb => .inl ?_
    obtain ⟨_, -, ha⟩ := List.mem_filterMap.mp ha
    obtain ⟨_, -, hb⟩ := List.mem_filterMap.mp hb
    obtain ⟨_, -, rfl⟩ := Option.map_eq_some_iff.mp ha
    obtain ⟨_, -, rfl⟩ := Option.map_eq_some_iff.mp hb
    exact hlt

/-- Settles O24: which trials there are, and their order. -/
theorem trialsInOrder : Obligations.TrialsInOrder :=
  fun _ h => ⟨fun _ => mem_trials, trials_ascending h⟩

/-- A trial with a greater gain than those before it and no smaller one than those behind it is the first of the
greatest gains (R92). -/
theorem bestTrial_eq {before after : List ChosenMove} {m : ChosenMove} (hbefore : ∀ x ∈ before, x.gain < m.gain)
    (hafter : ∀ x ∈ after, x.gain ≤ m.gain) : bestTrial (before ++ m :: after) = some m := by
  induction before with
  | nil =>
    rw [List.nil_append, bestTrial]
    split
    · rename_i best hbest
      rw [if_neg (Int.not_lt.mpr (hafter best (bestTrial_spec hbest).1))]
    · rfl
  | cons a before ih =>
    rw [List.cons_append, bestTrial, ih fun x hx => hbefore x (List.mem_cons_of_mem _ hx)]
    exact if_pos (hbefore a List.mem_cons_self)

/-- A search that no trial's gain lets choose ends the searches (R92). -/
theorem search_ends {pass : Pass} (h : ∀ m ∈ pass.trials, m.gain < pass.policy.threshold) :
    pass.search = { pass with searched := true } := by
  unfold Pass.search
  split
  · rename_i m hm
    exact if_neg (Int.not_le.mpr (h m (bestTrial_spec hm).1))
  · rfl

theorem search_chooses {pass : Pass} {m : ChosenMove} (hbest : bestTrial pass.trials = some m)
    (hgain : (pass.policy.threshold : Int) ≤ m.gain) : pass.search = pass.choose m := by
  rw [Pass.search, hbest]
  exact if_pos hgain

/-- Where each index has one candidate, its load is that candidate's. -/
theorem loadOf_eq {pass : Pass} {c : Candidate} (hc : c ∈ pass.candidates)
    (hnodup : (pass.candidates.map Candidate.consumer).Nodup) : pass.loadOf c.consumer = c.load := by
  unfold Pass.loadOf
  cases hfind : pass.candidates.find? fun d => d.consumer == c.consumer with
  | none => exact absurd (List.find?_eq_none.mp hfind c hc) (by simp)
  | some d =>
    have hsame : d.consumer = c.consumer := by simpa using List.find?_some hfind
    rw [List.inj_on_of_nodup_map hnodup (List.mem_of_find?_eq_some hfind) hc hsame]

/-- What a chosen move does to the working sums (R91, R92). -/
theorem sumAt_choose {pass : Pass} {m : ChosenMove} (htree : TreeRule pass.segments) (hlength : pass.sums.length = 16)
    (hsegment : m.segment < 16) (k : Nat) (q : Phase) :
    sumAt (pass.choose m).sums k q = sumAt pass.sums k q
      + (if k ∈ segmentPath pass.segments m.segment then
          (if q = m.target then pass.loadOf m.consumer else 0) - (if q = m.fromPhase then pass.loadOf m.consumer else 0)
        else 0) := by
  have hnodup := htree.segmentPath_nodup m.segment
  have hlt : ∀ i ∈ segmentPath pass.segments m.segment, i < pass.sums.length := fun i hi => by
    have := htree.le_of_mem_segmentPath hi
    omega
  rw [Pass.choose, sumAt_addAlong hnodup (by simpa using hlt), sumAt_addAlong hnodup hlt]
  by_cases hk : k ∈ segmentPath pass.segments m.segment
  · simp only [hk, true_and, if_true, eq_comm (b := q)]
    split <;> split <;> omega
  · simp only [hk, false_and, if_false, Int.add_zero]

theorem exec_search {s : State} (h : s.hold = none) : exec .search s = .next (finish (searchStep s)) :=
  next_whileRunning h searchStep

theorem searchStep_evaluating {s : State} {pass : Pass} (h : s.balancer.state = .evaluating pass) :
    searchStep s
      = if pass.searched then s else { s with balancer.state := .evaluating pass.search } := by
  rw [searchStep, h]

theorem searchStep_outside {s : State} (h : ∀ pass, s.balancer.state ≠ .evaluating pass) : searchStep s = s := by
  unfold searchStep
  split
  · rename_i pass hpass
    exact absurd hpass (h pass)
  all_goals rfl

/-- Settles O25: outside a pass with searches left the row does nothing, and within one it is `Pass.search`, which
chooses the first of the greatest gains or ends the searches. -/
theorem searchChooses : Obligations.SearchChooses := by
  intro s hrunning
  rw [exec_search hrunning]
  refine ⟨fun houtside => by rw [searchStep_outside houtside], fun pass hpass => ?_⟩
  rw [searchStep_evaluating hpass]
  refine ⟨fun hended => by rw [if_pos hended], fun hleft hlow => ?_, ?_⟩
  · rw [if_neg (by simp [hleft]), search_ends hlow]
  · intro before m after c hleft htrials hbefore hafter hgain hc hm hnodup
    have hchosen : pass.search = pass.choose m := search_chooses (htrials ▸ bestTrial_eq hbefore hafter) hgain
    refine ⟨(pass.choose m).sums, ?_, fun htree hlength hsegment k _ q => ?_⟩
    · rw [if_neg (by simp [hleft]), hchosen]
      rfl
    · rw [sumAt_choose htree hlength hsegment, ← hm, loadOf_eq hc hnodup]

end Sys2Proof.Machine

namespace Sys2Proof.Machine

/-! ## Pass completions (R94 to R97) -/

theorem withinReach_iff (s : State) (o : Origin) : s.withinReach o = true ↔ aheadBy (s.executeCycle o) s.now ≤ 2040 :=
  decide_eq_true_iff

/-- What R95 asks of a chosen move. -/
theorem keepsMove_iff (m : ChosenMove) (t : State) :
    t.keepsMove m = true ↔ ∃ r, t.record m.consumer = some r
      ∧ r.state = .settled ∧ r.lock = false ∧ r.assigned = m.fromPhase ∧ r.segment = m.segment
      ∧ r.allowed.get m.target = true ∧ t.healthy m.target = true ∧ r.moveCount < t.management.active.budget
      ∧ (∀ x, r.lastMove = some x → t.management.active.dwell * 64 ≤ (t.timebase.cycleCount - x).toNat)
      ∧ t.timebase.sync = .synced ∧ t.scheduler.schedule.length < t.management.active.inFlightLimit
      ∧ aheadBy (t.executeCycle .balance) t.now ≤ 2040 := by
  unfold State.keepsMove
  cases t.record m.consumer with
  | none => simp
  | some r => simp [dwellSatisfied_iff, State.synced, withinReach_iff, and_assoc]

/-! ### What making an entry reaches (R109) -/

theorem makeEntry_vacant {i : Nat} {s : State} (h : s.record i = none) (o : Origin) (q : Phase) :
    makeEntry o i q s = s := by
  rw [makeEntry, h]

theorem record_makeEntry (o : Origin) (i : Nat) (q : Phase) (s : State) (j : Nat) :
    (makeEntry o i q s).record j
      = if i = j then (s.record j).map fun r => { r with state := .ordered } else s.record j := by
  cases hr : s.record i with
  | none =>
    rw [makeEntry_vacant hr]
    split
    · rename_i hj
      rw [← hj, hr]
      rfl
    · rfl
  | some r => rw [makeEntry_eq hr, record_of_tables (delist_tables ..), record_orderRecord]

/-- An entry made is appended to the schedule; beside it the records, the sums, the rescue and the notices change. -/
theorem makeEntry_fields {i : Nat} {s : State} {r : Consumer} (hr : s.record i = some r) (o : Origin) (q : Phase) :
    ∃ l latest tag sums rescue notices lost, makeEntry o i q s =
      { s with
        tables.consumers := l
        scheduler :=
          { s.scheduler with
            schedule := s.scheduler.schedule ++ [s.newEntry o i r.assigned q], latestExecute := latest, tagCounter := tag }
        balancer.sums := sums
        rescue := rescue
        ports.notices := notices, ports.lostNotices := lost } := by
  obtain ⟨l, sums, -, hordered⟩ := orderRecord_eq (s.newEntry o i r.assigned q) i s
  obtain ⟨event, notices, lost, hdelisted⟩ := delist_eq i (orderRecord (s.newEntry o i r.assigned q) i s)
  rw [makeEntry_eq hr, hdelisted, hordered]
  exact ⟨l, _, _, sums, _, notices, lost, rfl⟩

/-- An entry made while no record is listed leaves the list and the notices alone (R157). -/
theorem makeEntry_unlisted {s : State} (h : s.rescue.list = []) (o : Origin) (i : Nat) (q : Phase) :
    (makeEntry o i q s).rescue = s.rescue ∧ (makeEntry o i q s).ports = s.ports := by
  cases hr : s.record i with
  | none =>
    rw [makeEntry_vacant hr]
    exact ⟨rfl, rfl⟩
  | some r =>
    obtain ⟨l, sums, -, hordered⟩ := orderRecord_eq (s.newEntry o i r.assigned q) i s
    have hunlisted : delist i (orderRecord (s.newEntry o i r.assigned q) i s)
        = orderRecord (s.newEntry o i r.assigned q) i s := by
      refine if_neg ?_
      rw [hordered]
      simp [State.listed, h]
    rw [makeEntry_eq hr, hunlisted, hordered]
    exact ⟨rfl, rfl⟩

/-! ### The chosen moves, one after another (R95) -/

theorem revalidate_keeps {sn : State × Nat} {m : ChosenMove} (h : sn.1.keepsMove m = true) :
    revalidate sn m = (makeEntry .balance m.consumer m.target sn.1, sn.2 + 1) := if_pos h

theorem revalidate_drops {sn : State × Nat} {m : ChosenMove} (h : ¬ sn.1.keepsMove m = true) :
    revalidate sn m = (countStaleMove sn.1, sn.2) := if_neg h

theorem revalidate_counts_none (s : State) (m : ChosenMove) :
    (revalidate (s, 0) m).2 = 0 ↔ s.keepsMove m = false := by
  by_cases h : s.keepsMove m = true
  · simp [revalidate_keeps (sn := (s, 0)) h, h]
  · simp [revalidate_drops (sn := (s, 0)) h, h]

/-- What the moves of a pass completion leave alone. -/
structure State.BesideMoves (s t : State) : Prop where
  active : t.tables.active = s.tables.active
  management : t.management = s.management
  timebase : t.timebase = s.timebase
  intake : t.intake = s.intake
  supervision : t.supervision = s.supervision
  remaining : t.balancer.remaining = s.balancer.remaining
  queries : t.scheduler.queries = s.scheduler.queries

theorem State.BesideMoves.refl (s : State) : s.BesideMoves s := ⟨rfl, rfl, rfl, rfl, rfl, rfl, rfl⟩

theorem State.BesideMoves.trans {s t u : State} (h : s.BesideMoves t) (k : t.BesideMoves u) : s.BesideMoves u where
  active := k.active.trans h.active
  management := k.management.trans h.management
  timebase := k.timebase.trans h.timebase
  intake := k.intake.trans h.intake
  supervision := k.supervision.trans h.supervision
  remaining := k.remaining.trans h.remaining
  queries := k.queries.trans h.queries

/-- An entry that may be made for a BALANCE move of a state (R89, R95). -/
structure State.Balances (s : State) (e : MoveEntry) : Prop where
  origin : e.origin = .balance
  stage : e.stage = .queued false
  record : ∃ r, s.record e.consumer = some r ∧ r.state = .settled ∧ r.lock = false
    ∧ r.assigned = e.fromPhase ∧ r.allowed.get e.target = true ∧ s.healthy e.target = true
    ∧ r.moveCount < s.management.active.budget

/-- Where a pass completion that began in `s` stands in `t`, the moves `done` revalidated and the entries `made` made of
them: a record that is still SETTLED is as `s` had it. -/
structure State.Revalidates (s : State) (done : List ChosenMove) (made : List MoveEntry) (t : State) : Prop where
  beside : s.BesideMoves t
  schedule : t.scheduler.schedule = s.scheduler.schedule ++ made
  counted : t.ports.counters.staleMoves + made.length = s.ports.counters.staleMoves + done.length
  inOrder : (made.map fun e => (e.consumer, e.fromPhase, e.target)).Sublist
    (done.map fun m => (m.consumer, m.fromPhase, m.target))
  settled : ∀ i r, t.record i = some r → r.state = .settled → s.record i = some r
  balances : ∀ e ∈ made, s.Balances e
  synced : s.timebase.sync ≠ .synced → made = []
  room : made.length ≤ s.management.active.inFlightLimit - s.scheduler.schedule.length
  unlisted : s.rescue.list = [] → t.rescue.list = [] ∧ t.ports.notices = s.ports.notices
    ∧ t.ports.lostNotices = s.ports.lostNotices

namespace State.Revalidates
variable {s t : State} {done : List ChosenMove} {made : List MoveEntry} {m : ChosenMove}

theorem start (s : State) : s.Revalidates [] [] s where
  beside := .refl s
  schedule := (List.append_nil _).symm
  counted := rfl
  inOrder := .refl _
  settled _ _ hr _ := hr
  balances _ he := absurd he List.not_mem_nil
  synced _ := rfl
  room := Nat.zero_le _
  unlisted h := ⟨h, rfl, rfl⟩

/-- A move that does not hold is counted stale (R96). -/
theorem stale (h : s.Revalidates done made t) (htop : t.ports.counters.staleMoves < 65535) (m : ChosenMove) :
    s.Revalidates (done ++ [m]) made (countStaleMove t) where
  beside := h.beside.trans ⟨rfl, rfl, rfl, rfl, rfl, rfl, rfl⟩
  schedule := h.schedule
  counted := by
    have hbump : (countStaleMove t).ports.counters.staleMoves = t.ports.counters.staleMoves + 1 := if_pos htop
    have := h.counted
    rw [hbump, List.length_append, List.length_singleton]
    omega
  inOrder := by
    rw [List.map_append]
    exact h.inOrder.trans (List.sublist_append_left _ _)
  settled := h.settled
  balances := h.balances
  synced := h.synced
  room := h.room
  unlisted := h.unlisted

/-- A move that holds is made (R95, R109). -/
theorem make (h : s.Revalidates done made t) (hkeeps : t.keepsMove m = true) :
    ∃ e, s.Revalidates (done ++ [m]) (made ++ [e]) (makeEntry .balance m.consumer m.target t) := by
  obtain ⟨r, hr, hsettled, hlock, hfrom, -, hallowed, hhealthy, hbudget, -, hsynced, hroom, -⟩ :=
    (keepsMove_iff m t).mp hkeeps
  have hrecord := record_makeEntry .balance m.consumer m.target t
  have hunlisted := fun hnil : t.rescue.list = [] => makeEntry_unlisted hnil .balance m.consumer m.target
  obtain ⟨l, latest, tag, sums, rescue, notices, lost, e⟩ := makeEntry_fields hr .balance m.target
  rw [e] at hrecord hunlisted ⊢
  have hhealth : s.healthy m.target = true := by
    rw [← hhealthy, State.healthy, State.healthy, h.beside.supervision]
  rw [h.beside.management] at hbudget hroom
  rw [h.beside.timebase] at hsynced
  rw [h.schedule, List.length_append] at hroom
  refine ⟨t.newEntry .balance m.consumer r.assigned m.target, {
    beside := h.beside.trans ⟨rfl, rfl, rfl, rfl, rfl, rfl, rfl⟩
    schedule := ?_
    counted := ?_
    inOrder := ?_
    settled := fun i r' hr' hs' => ?_
    balances := fun x hx => ?_
    synced := fun hn => absurd hsynced hn
    room := ?_
    unlisted := fun hnil => ?_ }⟩
  · rw [← List.append_assoc, ← h.schedule]
  · have := h.counted
    simp only [List.length_append, List.length_singleton]
    omega
  · rw [List.map_append, List.map_append]
    refine h.inOrder.append ?_
    rw [List.map_singleton, List.map_singleton, ← hfrom]
    exact .refl _
  · rw [hrecord] at hr'
    split at hr'
    · obtain ⟨_, -, rfl⟩ := Option.map_eq_some_iff.mp hr'
      cases hs'
    · exact h.settled i r' hr' hs'
  · rcases List.mem_append.mp hx with hx | hx
    · exact h.balances x hx
    · rw [List.mem_singleton.mp hx]
      exact ⟨rfl, rfl, r, h.settled _ r hr hsettled, hsettled, hlock, rfl, hallowed, hhealth, hbudget⟩
  · rw [List.length_append, List.length_singleton]
    omega
  · obtain ⟨hlist, hnotices, hlost⟩ := h.unlisted hnil
    obtain ⟨hrescue, hports⟩ := hunlisted hlist
    exact ⟨(congrArg Rescue.list hrescue).trans hlist, (congrArg PortEngine.notices hports).trans hnotices,
      (congrArg PortEngine.lostNotices hports).trans hlost⟩

/-- While the moves left to count stay below the counter's limit, no stale count saturates. -/
theorem below_top (h : s.Revalidates done made t) (hcount : s.ports.counters.staleMoves + done.length < 65535) :
    t.ports.counters.staleMoves < 65535 := by
  have := h.counted
  omega

/-- The PASS SUMMARY is the one notice of a completion that unlists no record (R97, R157). -/
theorem summary_queued (h : s.Revalidates done made t) (x : List Byte)
    (hmask : s.management.active.mask.getLsbD 10 = true) (hroom : s.ports.notices.length < 16)
    (hnil : s.rescue.list = []) :
    (raiseNotice .passSummary x t).ports.notices = s.ports.notices ++ [⟨11, s.ports.lostNotices, s.now, x⟩] := by
  obtain ⟨-, hnotices, hlost⟩ := h.unlisted hnil
  rw [← h.beside.management] at hmask
  rw [(raiseNotice_queued (k := .passSummary) x hmask (hnotices ▸ hroom)).1, hnotices, hlost,
    now_of_timebase h.beside.timebase]
  rfl

end State.Revalidates

/-- The revalidations of a list of chosen moves, and the number of entries they count (R95). -/
theorem foldl_revalidates (s : State) (results : List ChosenMove)
    (hcount : s.ports.counters.staleMoves + results.length ≤ 65535) :
    ∃ made, s.Revalidates results made (results.foldl revalidate (s, 0)).1
      ∧ (results.foldl revalidate (s, 0)).2 = made.length := by
  induction results using List.reverseRecOn with
  | nil => exact ⟨[], .start s, rfl⟩
  | append_singleton done m ih =>
    rw [List.length_append, List.length_singleton] at hcount
    obtain ⟨made, h, hmade⟩ := ih (by omega)
    rw [List.foldl_append, List.foldl_cons, List.foldl_nil]
    by_cases hkeeps : (done.foldl revalidate (s, 0)).1.keepsMove m = true
    · obtain ⟨e, hmake⟩ := h.make hkeeps
      rw [revalidate_keeps hkeeps]
      exact ⟨made ++ [e], hmake, by simp [hmade]⟩
    · rw [revalidate_drops hkeeps]
      exact ⟨made, h.stale (h.below_top (by omega)) m, hmade⟩

/-- The state of a pass completion after its first `k` revalidations. -/
def State.revalidated (s : State) (results : List ChosenMove) (k : Nat) : State :=
  ((results.take k).foldl revalidate (s, 0)).1

theorem revalidated_length (s : State) (results : List ChosenMove) :
    s.revalidated results results.length = (results.foldl revalidate (s, 0)).1 := by
  rw [State.revalidated, List.take_length]

/-- Each result is made or counted stale in the state that the ones before it left. -/
theorem revalidated_succ {s : State} {results : List ChosenMove} {k : Nat} {m : ChosenMove}
    (hcount : s.ports.counters.staleMoves + results.length ≤ 65535) (hm : results[k]? = some m) :
    s.revalidated results (k + 1)
      = if (s.revalidated results k).keepsMove m then makeEntry .balance m.consumer m.target (s.revalidated results k)
        else { s.revalidated results k with
          ports.counters.staleMoves := (s.revalidated results k).ports.counters.staleMoves + 1 } := by
  have hk : k < results.length := (List.getElem?_eq_some_iff.mp hm).1
  have hlength : (results.take k).length = k := List.length_take_of_le hk.le
  obtain ⟨made, h, -⟩ := foldl_revalidates s (results.take k) (by omega)
  have htop := h.below_top (by omega)
  rw [State.revalidated, List.take_add_one, hm, Option.toList_some, List.foldl_append, List.foldl_cons, List.foldl_nil]
  by_cases hkeeps : (s.revalidated results k).keepsMove m = true
  · rw [if_pos hkeeps, revalidate_keeps hkeeps]
    rfl
  · rw [if_neg hkeeps, revalidate_drops hkeeps]
    have hbump : bump (s.revalidated results k).ports.counters.staleMoves
        = (s.revalidated results k).ports.counters.staleMoves + 1 := if_pos htop
    rw [← hbump]
    rfl

/-! ### The summary and IDLE (R94, R97) -/

theorem exec_passCompletion {s : State} (h : s.hold = none) :
    exec .passCompletion s = .next (finish (completionStep s)) := next_whileRunning h completionStep

theorem completionStep_ended {s : State} {pass : Pass} (hpass : s.balancer.state = .evaluating pass)
    (hended : pass.searched = true) : completionStep s = completePass pass s := by
  rw [completionStep, hpass]
  exact if_pos hended

theorem completionStep_outside {s : State}
    (h : ∀ pass, s.balancer.state = .evaluating pass → pass.searched = false) : completionStep s = s := by
  unfold completionStep
  split
  · rename_i pass hpass
    rw [h pass hpass]
    rfl
  all_goals rfl

/-- The fields of a PASS SUMMARY of a pass that scheduled a number of moves (R97). -/
def Pass.summary (pass : Pass) (scheduled : Nat) : List Byte :=
  signed4 pass.costBefore ++ signed4 (pass.costBefore - (pass.results.map ChosenMove.gain).sum)
    ++ [byte pass.results.length, byte scheduled]

theorem completePass_eq (pass : Pass) (s : State) :
    completePass pass s = setBalancer .idle
      (raiseNotice .passSummary (pass.summary (pass.results.foldl revalidate (s, 0)).2)
        (pass.results.foldl revalidate (s, 0)).1) := rfl

/-- Settles O27: the revalidations are `foldl_revalidates`, their states one after another `revalidated_succ`, and after
them only the notice and the balancer state change. -/
theorem passCompletionSchedules : Obligations.PassCompletionSchedules := by
  refine fun s hrunning => ⟨fun houtside => ?_, keepsMove_iff, fun pass hpass hended hcount => ?_⟩
  · rw [exec_passCompletion hrunning, completionStep_outside houtside]
  · obtain ⟨made, h, hmade⟩ := foldl_revalidates s pass.results hcount
    have hstep : completionStep s = setBalancer .idle
        (raiseNotice .passSummary (pass.summary made.length) (s.revalidated pass.results pass.results.length)) := by
      rw [completionStep_ended hpass hended, completePass_eq, hmade, revalidated_length]
    have hsingle : ∀ m, pass.results = [m] → (made = [] ↔ s.keepsMove m = false) := fun m hm => by
      rw [← List.length_eq_zero_iff, ← hmade, hm]
      exact revalidate_counts_none s m
    rw [← revalidated_length] at h
    have hqueued := h.summary_queued (pass.summary made.length)
    obtain ⟨notices, lost, e⟩ := raiseNotice_eq .passSummary (pass.summary made.length)
      (s.revalidated pass.results pass.results.length)
    rw [e] at hstep hqueued
    refine ⟨_, made, s.revalidated pass.results, exec_passCompletion hrunning, rfl,
      fun k m => revalidated_succ hcount, ?_⟩
    rw [hstep]
    exact ⟨rfl, rfl, rfl, rfl, rfl, rfl, h.beside.remaining, h.schedule, h.beside.queries, h.counted, h.inOrder,
      fun e he => ⟨(h.balances e he).origin, (h.balances e he).stage, (h.balances e he).record⟩, h.synced, h.room,
      h.beside.active, h.beside.management, h.beside.timebase, h.beside.intake, h.beside.supervision, hqueued, hsingle⟩

end Sys2Proof.Machine

namespace Sys2Proof.Machine

/-! ## BALANCER CONTROL, RESTART and the unknown kinds (R79, R80, R187, R197) -/

theorem perform_balancerControl (src tag : Byte) (args : List Byte) (s : State) :
    perform ⟨src, tag, 0x0E :: args⟩ s = performBalancerControl ⟨src, tag, 0x0E :: args⟩ args s := rfl

theorem perform_restart (src tag : Byte) (args : List Byte) (s : State) :
    perform ⟨src, tag, 0x10 :: args⟩ s = performRestart ⟨src, tag, 0x10 :: args⟩ args s := rfl

theorem performBalancerControl_start (r : Request) (s : State) :
    performBalancerControl r [1] s = controlDone r (controlStart s) := rfl

theorem performBalancerControl_hold (r : Request) (s : State) :
    performBalancerControl r [2] s
      = if s.stopped then refuse r requestBalancerControl .wrongState s else controlDone r (setBalancer .held s) := rfl

theorem performBalancerControl_stop (r : Request) (s : State) :
    performBalancerControl r [3] s = controlDone r (setBalancer .stopped s) := rfl

theorem performBalancerControl_other {args : List Byte} (h1 : args ≠ [1]) (h2 : args ≠ [2]) (h3 : args ≠ [3])
    (r : Request) (s : State) : performBalancerControl r args s = refuse r requestBalancerControl .badValue s := by
  unfold performBalancerControl
  split
  · rename_i action
    rw [if_neg fun h => h1 (by rw [h]), if_neg fun h => h2 (by rw [h]), if_neg fun h => h3 (by rw [h])]
  · rfl

theorem performRestart_other {args : List Byte} (h : args ≠ []) (r : Request) (s : State) :
    performRestart r args s = refuse r requestRestart .badValue s := by
  unfold performRestart
  split
  · exact absurd rfl h
  · rfl

/-- A pass in progress stays in progress, and every other balancer state becomes IDLE (R79). -/
theorem controlStart_eq {s : State} (h : ∀ pass, s.balancer.state ≠ .evaluating pass) :
    controlStart s = setBalancer .idle s := by
  unfold controlStart
  split
  · rfl
  · rfl
  · rename_i hidle
    rw [setBalancer, ← hidle]
  · rename_i pass hpass
    exact absurd hpass (h pass)

theorem controlStart_evaluating {s : State} {pass : Pass} (h : s.balancer.state = .evaluating pass) :
    controlStart s = s := by
  rw [controlStart, h]

/-- A kind that R188 does not give is refused (R187). -/
theorem perform_unknown {kind : Byte} (h : knownRequest kind = false) (src tag : Byte) (args : List Byte) (s : State) :
    perform ⟨src, tag, kind :: args⟩ s = refuse ⟨src, tag, kind :: args⟩ kind .unknownKind s := by
  have hout : ¬ (1 ≤ kind.toNat ∧ kind.toNat ≤ 16) := by simpa [knownRequest] using h
  unfold perform
  dsimp only
  split
  case h_17 => rfl
  all_goals omega

/-- Whole frames reach the receiver, not the balancer. -/
theorem stopped_heard (s : State) : s.heard.stopped = true ↔ s.balancer.state = .stopped := beq_iff_eq

section Control
variable {src tag : Byte} {s : State} (hs : s.TakesRequests)
include hs

/-- A BALANCER CONTROL that is done answers the balancer state it leaves (R79). -/
theorem control_done {action : Byte} {b : BalancerState} {c : Instr}
    (hc : exec c s = .next (whileRunning (requestArrives src tag [0x0E, action]) s))
    (hperform : performBalancerControl ⟨src, tag, [0x0E, action]⟩ [action] s.heard
      = controlDone ⟨src, tag, [0x0E, action]⟩ (setBalancer b s.heard)) :
    exec c s = .next (finish (State.answered { s with balancer.state := b } src tag [0x0E, 0, b.code])) :=
  exec_done (kind := 0x0E) (args := [action]) (u := setBalancer b s.heard) (result := .done) (data := [b.code]) hs (by simp)
    hc ((perform_balancerControl ..).trans hperform) ⟨rfl, rfl⟩

theorem control_start (h : ∀ pass, s.balancer.state ≠ .evaluating pass) :
    exec (.balancerControlStart src tag) s
      = .next (finish (State.answered { s with balancer.state := .idle } src tag [0x0E, 0, 1])) :=
  control_done hs rfl (by rw [performBalancerControl_start, controlStart_eq (s := s.heard) h])

theorem control_start_evaluating {pass : Pass} (h : s.balancer.state = .evaluating pass) :
    exec (.balancerControlStart src tag) s = .next (finish (s.answered src tag [0x0E, 0, 2])) :=
  exec_answers (kind := 0x0E) (args := [1]) (result := .done) (data := [2]) hs (by simp) rfl (by
    rw [perform_balancerControl, performBalancerControl_start, controlStart_evaluating (s := s.heard) h, controlDone,
      show s.heard.balancer.state = .evaluating pass from h]
    rfl)

theorem control_hold (h : s.balancer.state ≠ .stopped) :
    exec (.balancerControlHold src tag) s
      = .next (finish (State.answered { s with balancer.state := .held } src tag [0x0E, 0, 3])) :=
  control_done hs rfl (by
    rw [performBalancerControl_hold, if_neg (mt (stopped_heard s).mp h)])

theorem control_hold_stopped (h : s.balancer.state = .stopped) :
    exec (.balancerControlHold src tag) s = .next (finish (s.answered src tag [0x0E, 5])) :=
  exec_answers (kind := 0x0E) (args := [2]) (result := .wrongState) (data := []) hs (by simp) rfl (by
    rw [perform_balancerControl, performBalancerControl_hold, if_pos ((stopped_heard s).mpr h)]
    rfl)

theorem control_stop :
    exec (.balancerControlStop src tag) s
      = .next (finish (State.answered { s with balancer.state := .stopped } src tag [0x0E, 0, 0])) :=
  control_done hs rfl (performBalancerControl_stop _ _)

theorem control_other {args : List Byte} (h1 : args ≠ [1]) (h2 : args ≠ [2]) (h3 : args ≠ [3])
    (hlen : args.length < 48) :
    exec (.balancerControlOtherAction src tag args) s = .next (finish (s.answered src tag [0x0E, 3])) :=
  exec_answers (kind := 0x0E) (result := .badValue) (data := []) hs hlen rfl (performBalancerControl_other h1 h2 h3 _ _)

theorem restart_done :
    exec (.restart src tag []) s
      = .next (finish (State.answered { s with management.restartPending := true } src tag [0x10, 0])) :=
  exec_done (args := []) (result := .done) (data := []) (u := { s.heard with management.restartPending := true }) hs
    (by simp) rfl (perform_restart ..) ⟨rfl, rfl⟩

theorem restart_refused {args : List Byte} (h : args ≠ []) (hlen : args.length < 48) :
    exec (.restart src tag args) s = .next (finish (s.answered src tag [0x10, 3])) :=
  exec_answers (kind := 0x10) (result := .badValue) (data := []) hs hlen rfl (performRestart_other h _ _)

theorem unknownKind_refused {kind : Byte} {args : List Byte} (h : knownRequest kind = false) (hlen : args.length < 48) :
    exec (.unknownKind src tag kind args) s = .next (finish (s.answered src tag [kind, 9])) :=
  exec_answers (result := .unknownKind) (data := []) hs hlen rfl (perform_unknown h ..)

end Control

/-- Settles O52: one answer for each action of BALANCER CONTROL, for RESTART and for a kind outside R188. -/
theorem controlRestartAndUnknownKinds : Obligations.ControlRestartAndUnknownKinds :=
  fun _ _ _ hs => ⟨control_start hs, fun _ => control_start_evaluating hs, control_hold hs, control_hold_stopped hs,
    control_stop hs, fun _ => control_other hs, restart_done hs, fun _ => restart_refused hs,
    fun _ _ => unknownKind_refused hs⟩

end Sys2Proof.Machine

namespace Sys2Proof.Machine

/-! ## The execute cycle of a new entry (R106) -/

theorem Policy.InRange.lead {p : Policy} (h : p.InRange) : 4 ≤ p.lead ∧ p.lead ≤ 255 :=
  clamp_bounds (by decide) (congrArg Policy.lead h.1)

theorem Policy.InRange.spacing {p : Policy} (h : p.InRange) : 1 ≤ p.spacing ∧ p.spacing ≤ 255 :=
  clamp_bounds (by decide) (congrArg Policy.spacing h.1)

theorem Policy.InRange.rescueSpacing {p : Policy} (h : p.InRange) : 1 ≤ p.rescueSpacing ∧ p.rescueSpacing ≤ 255 :=
  clamp_bounds (by decide) (congrArg Policy.rescueSpacing h.1)

theorem spacingOf_bounds {s : State} (h : s.management.active.InRange) (o : Origin) :
    1 ≤ s.spacingOf o ∧ s.spacingOf o ≤ 255 := by
  cases o with
  | rescue => exact h.rescueSpacing
  | balance => exact h.spacing
  | manual => exact h.spacing

/-- A cycle number moved on by less than a turn lies that much further ahead. -/
theorem aheadBy_add {x now : Word16} {n : Nat} (h : aheadBy x now + n < 65536) :
    aheadBy (x + BitVec.ofNat 16 n) now = aheadBy x now + n := by
  have hcomm : x + BitVec.ofNat 16 n - now = x - now + BitVec.ofNat 16 n := by
    rw [BitVec.sub_eq_add_neg, BitVec.sub_eq_add_neg, BitVec.add_assoc, BitVec.add_assoc,
      BitVec.add_comm (BitVec.ofNat 16 n)]
  unfold aheadBy at h ⊢
  rw [hcomm, BitVec.toNat_add, BitVec.toNat_ofNat]
  omega

theorem aheadBy_self (now : Word16) : aheadBy now now = 0 := by
  unfold aheadBy
  rw [BitVec.sub_self]
  rfl

/-- Of two cycle numbers at most half a turn ahead of now, the one ahead of the other is the further. -/
theorem ahead_iff_lt {x y now : Word16} (hx : aheadBy x now ≤ 32767) (hy : aheadBy y now ≤ 32767) :
    ahead x y = true ↔ aheadBy y now < aheadBy x now := by
  have hdiff : x - y = (x - now) - (y - now) := by bv_omega
  unfold ahead aheadBy at *
  rw [hdiff, Bool.and_eq_true, decide_eq_true_eq, decide_eq_true_eq, BitVec.toNat_sub]
  omega

theorem executeCycle_first {s : State} {o : Origin} (h : s.scheduler.latestExecute = none) :
    s.executeCycle o = s.now + BitVec.ofNat 16 s.management.active.lead := by
  unfold State.executeCycle
  rw [h]

section ExecuteCycle
variable {s : State} (hp : s.management.active.InRange)
include hp

theorem aheadBy_lead : aheadBy (s.now + BitVec.ofNat 16 s.management.active.lead) s.now = s.management.active.lead := by
  obtain ⟨-, hhigh⟩ := hp.lead
  have hself := aheadBy_self s.now
  rw [aheadBy_add (by omega), hself, Nat.zero_add]

/-- The further of the lead from now and the spacing from the latest execute cycle (R106). -/
theorem aheadBy_executeCycle {x : Word16} (o : Origin) (hx : s.scheduler.latestExecute = some x)
    (hreach : aheadBy x s.now ≤ 2040) :
    aheadBy (s.executeCycle o) s.now = max s.management.active.lead (aheadBy x s.now + s.spacingOf o) := by
  obtain ⟨-, hlead⟩ := hp.lead
  obtain ⟨-, hspacing⟩ := spacingOf_bounds hp o
  have hcandidate := aheadBy_lead hp
  have hspaced : aheadBy (x + BitVec.ofNat 16 (s.spacingOf o)) s.now = aheadBy x s.now + s.spacingOf o :=
    aheadBy_add (by omega)
  have hfurther := ahead_iff_lt (x := s.now + BitVec.ofNat 16 s.management.active.lead)
    (y := x + BitVec.ofNat 16 (s.spacingOf o)) (now := s.now) (by omega) (by omega)
  rw [hspaced, hcandidate] at hfurther
  unfold State.executeCycle
  simp only [hx]
  split
  · rename_i h
    have := hfurther.mp h
    omega
  · rename_i h
    have := mt hfurther.mpr h
    omega

end ExecuteCycle

end Sys2Proof.Machine

namespace Sys2Proof.Machine

/-! ## The exchanges are kept (O56)

`State.InStep` is what the three rules say together, `low` being how far ahead the latest execute cycle is at least: 1
between two events, 0 inside a cycle end before R107 is applied. Most operations leave all that it speaks of alone
(`State.KeepsExchanges`). -/

/-- Whether a record's query waits in the query queue (R130). -/
def Consumer.queued (r : Consumer) : Bool := r.state.query.any fun q => q.stage == .queued

/-- Whether the record at an index is one whose query waits in the query queue. -/
def State.queued (s : State) (i : Nat) : Bool := (s.record i).any Consumer.queued

theorem Consumer.queued_iff {r : Consumer} : r.queued = true ↔ ∃ q, r.state.query = some q ∧ q.stage = .queued := by
  unfold Consumer.queued
  cases r.state.query <;> simp

theorem State.queued_iff {s : State} {i : Nat} :
    s.queued i = true ↔ ∃ r, s.record i = some r ∧ r.queued = true := by
  unfold State.queued
  cases s.record i <;> simp

/-- The query queue rule, by the consumers that it holds. -/
theorem State.queriesRight_iff (s : State) :
    s.QueriesRight ↔ (s.scheduler.queries.map QueryEntry.consumer).Nodup
      ∧ (∀ i, i ∈ s.scheduler.queries.map QueryEntry.consumer ↔ s.queued i = true)
      ∧ ∀ e ∈ s.scheduler.queries.tail, e.inTransmission = false := by
  unfold State.QueriesRight
  simp only [State.queued_iff, Consumer.queued_iff, List.mem_map]
  constructor
  · rintro ⟨hnodup, hentries, hrecords, htail⟩
    refine ⟨hnodup, fun i => ⟨?_, ?_⟩, htail⟩
    · rintro ⟨e, he, rfl⟩
      obtain ⟨r, q, hr, hq, hstage⟩ := hentries e he
      exact ⟨r, hr, q, hq, hstage⟩
    · rintro ⟨r, hr, q, hq, hstage⟩
      exact hrecords i r q hr hq hstage
  · rintro ⟨hnodup, hmem, htail⟩
    refine ⟨hnodup, fun e he => ?_, fun i r q hr hq hstage => (hmem i).mpr ⟨r, hr, q, hq, hstage⟩, htail⟩
    obtain ⟨r, hr, q, hq, hstage⟩ := (hmem e.consumer).mp ⟨e, he, rfl⟩
    exact ⟨r, q, hr, hq, hstage⟩

/-- The rules of the exchanges, with both policies in range. -/
structure State.InStep (low : Nat) (s : State) : Prop where
  active : s.management.active.InRange
  shadow : s.management.shadow.InRange
  schedule : s.ScheduleRight
  queries : s.QueriesRight
  latest : ∀ x, s.scheduler.latestExecute = some x → low ≤ aheadBy x s.now ∧ aheadBy x s.now ≤ 2040

/-- The query queue and the records whose queries wait in it stay, and so do the latest execute cycle, the cycle number
and the policies. -/
structure State.KeepsQueries (s t : State) : Prop where
  queued : ∀ i, t.queued i = s.queued i
  queries : t.scheduler.queries = s.scheduler.queries
  latest : t.scheduler.latestExecute = s.scheduler.latestExecute
  cycleCount : t.timebase.cycleCount = s.timebase.cycleCount
  active : t.management.active = s.management.active
  shadow : t.management.shadow = s.management.shadow

/-- So do the Move Schedule and what of each record it answers to. -/
structure State.KeepsExchanges (s t : State) : Prop extends State.KeepsQueries s t where
  schedule : t.scheduler.schedule = s.scheduler.schedule
  poses : ∀ i, (t.record i).map Consumer.pose = (s.record i).map Consumer.pose

theorem State.InStep.congr {low : Nat} {s t : State} (h : s.InStep low) (k : s.KeepsQueries t) (ht : t.ScheduleRight) :
    t.InStep low where
  active := k.active ▸ h.active
  shadow := k.shadow ▸ h.shadow
  schedule := ht
  queries := by
    have hq := s.queriesRight_iff.mp h.queries
    rw [t.queriesRight_iff]
    simpa only [k.queries, k.queued] using hq
  latest := by
    have hnow : t.now = s.now := congrArg (BitVec.setWidth 16) k.cycleCount
    rw [k.latest, hnow]
    exact h.latest

theorem State.InStep.keeps {low : Nat} {s t : State} (h : s.InStep low) (k : s.KeepsExchanges t) : t.InStep low :=
  h.congr k.toKeepsQueries (h.schedule.congr k.schedule k.poses)

theorem State.InStep.latestRight {s : State} (h : s.InStep 1) : s.LatestRight := fun x hx => by
  obtain ⟨hlow, hhigh⟩ := h.latest x hx
  refine ⟨?_, hhigh⟩
  rw [ahead, Bool.and_eq_true, decide_eq_true_eq, decide_eq_true_eq]
  exact ⟨hlow, hhigh.trans (by decide)⟩

/-- Between two events the rules hold of a bounded state (R102, R103, R107, R131). -/
theorem State.InStep.of_rights {s : State} (hb : s.Fits) (hs : s.ScheduleRight) (hq : s.QueriesRight)
    (hl : s.LatestRight) : s.InStep 1 where
  active := hb.active
  shadow := hb.shadow
  schedule := hs
  queries := hq
  latest x hx := by
    obtain ⟨hahead, hreach⟩ := hl x hx
    exact ⟨decide_eq_true_eq.mp (Bool.and_eq_true_iff.mp hahead).1, hreach⟩

/-! ### What keeps the exchanges -/

theorem queued_congr {s t : State} {i : Nat} (h : t.record i = s.record i) : t.queued i = s.queued i := by
  unfold State.queued
  rw [h]

/-- The records, the schedule, the query queue, the latest execute cycle, the cycle number and the policies. -/
def State.exchanges (s : State) :
    List (Option Consumer) × List MoveEntry × List QueryEntry × Option Word16 × Word32 × Policy × Policy :=
  (s.tables.consumers, s.scheduler.schedule, s.scheduler.queries, s.scheduler.latestExecute, s.timebase.cycleCount,
    s.management.active, s.management.shadow)

namespace State.KeepsExchanges
variable {s t u : State}

/-- All that the rules speak of is the same. -/
theorem of_eq (h : t.exchanges = s.exchanges) : s.KeepsExchanges t := by
  simp only [State.exchanges, Prod.mk.injEq] at h
  obtain ⟨hconsumers, hschedule, hqueries, hlatest, hcount, hactive, hshadow⟩ := h
  have hrecord (i : Nat) : t.record i = s.record i := by rw [State.record, hconsumers, State.record]
  exact ⟨⟨fun i => queued_congr (hrecord i), hqueries, hlatest, hcount, hactive, hshadow⟩, hschedule,
    fun i => by rw [hrecord]⟩

theorem refl (s : State) : s.KeepsExchanges s := .of_eq rfl

theorem trans (h : s.KeepsExchanges t) (k : t.KeepsExchanges u) : s.KeepsExchanges u where
  queued i := (k.queued i).trans (h.queued i)
  queries := k.queries.trans h.queries
  latest := k.latest.trans h.latest
  cycleCount := k.cycleCount.trans h.cycleCount
  active := k.active.trans h.active
  shadow := k.shadow.trans h.shadow
  schedule := k.schedule.trans h.schedule
  poses i := (k.poses i).trans (h.poses i)

/-- The records change in nothing that the rules speak of. -/
theorem of_records (hrecords : ∀ i, (t.record i).map (fun r => (r.pose, r.queued))
      = (s.record i).map fun r => (r.pose, r.queued))
    (hscheduler : t.scheduler = s.scheduler) (hcount : t.timebase.cycleCount = s.timebase.cycleCount)
    (hmanagement : t.management = s.management) : s.KeepsExchanges t where
  queued i := by
    have hqueued := congrArg (Option.any Prod.snd) (hrecords i)
    rwa [Option.any_map, Option.any_map] at hqueued
  queries := by rw [hscheduler]
  latest := by rw [hscheduler]
  cycleCount := hcount
  active := by rw [hmanagement]
  shadow := by rw [hmanagement]
  schedule := by rw [hscheduler]
  poses i := by
    have hpose := congrArg (Option.map Prod.fst) (hrecords i)
    rwa [Option.map_map, Option.map_map] at hpose

theorem of_aside (h : s.StandsAside t) : s.KeepsExchanges t :=
  .of_records (fun i => by
      have hrecord := congrArg (Option.map fun r => (r.pose, r.queued)) (h.records i)
      rwa [Option.map_map, Option.map_map] at hrecord)
    h.scheduler h.cycleCount h.management

end State.KeepsExchanges

/-- A change of a record that the rules do not see. -/
theorem modifyRecord_keepsExchanges {i : Nat} {f : Consumer → Consumer} {s : State}
    (hf : ∀ r, s.record i = some r → (f r).pose = r.pose ∧ (f r).queued = r.queued) :
    s.KeepsExchanges (s.modifyRecord i f) := by
  have hrecord := record_modifyRecord s i (f := f)
  obtain ⟨l, -, e⟩ := modifyRecord_eq i f s
  rw [e] at hrecord ⊢
  refine .of_records (fun j => ?_) rfl rfl rfl
  rw [hrecord]
  split
  · rename_i hj
    subst hj
    cases hr : s.record i with
    | none => rfl
    | some r =>
      obtain ⟨hpose, hqueued⟩ := hf r hr
      rw [Option.map_some, Option.map_some, Option.map_some, hpose, hqueued]
  · rfl

theorem raiseNotice_keepsExchanges (k : NoticeKind) (x : List Byte) (s : State) :
    s.KeepsExchanges (raiseNotice k x s) := .of_aside (raiseNotice_aside k x s)

theorem closeTest_keepsExchanges (s : State) : s.KeepsExchanges (closeTest s) := .of_aside (closeTest_aside s)

theorem handOverEnd_keepsExchanges (e : MoveEntry) (s : State) : s.KeepsExchanges (handOverEnd e s) :=
  .of_aside (.of_tells (handOverEnd_tells e s) (handOverEnd_keeps e s))

theorem delist_keepsExchanges (i : Nat) (s : State) : s.KeepsExchanges (delist i s) :=
  .of_aside (.of_tells (delist_tells i s) (delist_keeps i s))

theorem insertByHandOver_keepsExchanges (i : Nat) (s : State) : s.KeepsExchanges (insertByHandOver i s) :=
  .of_aside (.of_tells (insertByHandOver_tells i s) (insertByHandOver_keeps i s))

theorem noteOutOfService_keepsExchanges (i : Nat) (s : State) : s.KeepsExchanges (noteOutOfService i s) :=
  .of_aside (noteOutOfService_aside i s)

theorem noteSettlement_keepsExchanges (i : Nat) (s : State) : s.KeepsExchanges (noteSettlement i s) := by
  unfold noteSettlement
  split
  · split
    · split
      · exact .refl s
      · exact insertByHandOver_keepsExchanges i s
    · exact delist_keepsExchanges i s
  · exact .refl s

/-! ### Entries that end, and entries that go on -/

theorem not_queued_of_moving {r : Consumer} (h : r.state.moving = true) : r.queued = false := by
  obtain ⟨st⟩ := r
  cases st <;> simp_all [RecordState.moving, Consumer.queued, RecordState.query]

section Entry
variable {low : Nat} {s t : State} {e : MoveEntry} (h : s.InStep low) (he : e ∈ s.scheduler.schedule)
include h he

/-- The record that an entry names has no query in the queue (R103). -/
theorem State.InStep.not_queued : s.queued e.consumer = false := by
  obtain ⟨-, hentries, -⟩ := h.schedule
  obtain ⟨r, hr, hstate, -⟩ := hentries e he
  rw [State.queued, hr, Option.any_some]
  exact not_queued_of_moving (by rw [hstate]; exact moving_recordState _)

/-- The record of an entry changes, and still has no query in the queue. -/
theorem State.InStep.restate (hothers : ∀ j, j ≠ e.consumer → t.record j = s.record j)
    (hown : t.queued e.consumer = false) (hqueries : t.scheduler.queries = s.scheduler.queries)
    (hlatest : t.scheduler.latestExecute = s.scheduler.latestExecute) (hcount : t.timebase = s.timebase)
    (hmanagement : t.management = s.management) (ht : t.ScheduleRight) : t.InStep low := by
  refine h.congr ⟨fun i => ?_, hqueries, hlatest, by rw [hcount], by rw [hmanagement], by rw [hmanagement]⟩ ht
  by_cases hi : i = e.consumer
  · rw [hi, hown, h.not_queued he]
  · exact queued_congr (hothers i hi)

/-- An entry ends, and its record with it. -/
theorem State.InStep.close {f : Consumer → Consumer} (hf : ∀ r, (f r).state.moving = false ∧ (f r).queued = false) :
    (closeEntry e.consumer f s).InStep low := by
  have haround := closeEntry_around e.consumer f s
  have hscheduler := closeEntry_schedule e.consumer f s
  refine h.restate he haround.others ?_ (by rw [hscheduler]) (by rw [hscheduler]) haround.timebase haround.management
    (closeEntry_scheduleRight (fun r _ => (hf r).1) h.schedule)
  rw [State.queued, record_closeEntry, if_pos rfl, Option.any_map]
  cases s.record e.consumer with
  | none => rfl
  | some r => exact (hf r).2

theorem State.InStep.failEntry (point : FailurePoint) (reason : Byte) {f : Consumer → Consumer}
    (hf : ∀ r, (f r).state.moving = false ∧ (f r).queued = false) :
    (Machine.failEntry point reason f e s).InStep low :=
  ((h.close he hf).keeps (raiseNotice_keepsExchanges _ _ _)).keeps (handOverEnd_keepsExchanges e _)

theorem State.InStep.withdraw (reason : Byte) : (Machine.withdraw reason e s).InStep low :=
  h.failEntry he .order reason fun _ => ⟨rfl, rfl⟩

theorem State.InStep.endUnreported : (Machine.endUnreported e s).InStep low :=
  h.failEntry he .deadline reasonNoReport fun _ => ⟨rfl, rfl⟩

theorem State.InStep.setStage {st : Stage} (hst : st.recordState = e.stage.recordState) :
    (Machine.setStage e.consumer st s).InStep low :=
  h.restate he (fun _ _ => rfl) (h.not_queued he) rfl rfl rfl rfl (setStage_scheduleRight he hst h.schedule)

theorem State.InStep.acceptEntry : (Machine.acceptEntry e.consumer s).InStep low := by
  have hright := acceptEntry_scheduleRight he h.schedule
  have hrecord := record_modifyRecord (Machine.setStage e.consumer .accepted s) e.consumer
    (f := fun r => { r with state := .accepted })
  obtain ⟨l, -, e'⟩ := modifyRecord_eq e.consumer (fun r => { r with state := .accepted })
    (Machine.setStage e.consumer .accepted s)
  rw [Machine.acceptEntry, e'] at hright
  rw [e'] at hrecord
  rw [Machine.acceptEntry, e']
  refine h.restate he (fun j hj => (hrecord j).trans (if_neg (Ne.symm hj))) ?_ rfl rfl rfl rfl hright
  rw [State.queued, hrecord, if_pos rfl, Option.any_map]
  cases State.record (Machine.setStage e.consumer .accepted s) e.consumer <;> rfl

theorem State.InStep.refuseEntry (reason : Byte) : (Machine.refuseEntry reason e s).InStep low := by
  have hclosed : (closeRefused reason e s).InStep low :=
    (h.close he fun _ => ⟨rfl, rfl⟩).keeps (raiseNotice_keepsExchanges _ _ _)
  have hlearned (t : State) : t.KeepsExchanges (learnWiring e t) := by
    refine State.KeepsExchanges.trans (modifyRecord_keepsExchanges fun r _ => ?_) (raiseNotice_keepsExchanges _ _ _)
    obtain ⟨a, heq, -⟩ := unwire_spec e.target r
    rw [heq]
    exact ⟨rfl, rfl⟩
  rw [refuseEntry_eq]
  refine State.InStep.keeps ?_ (handOverEnd_keepsExchanges e _)
  split
  · exact hclosed.keeps (hlearned _)
  · exact hclosed

theorem State.InStep.reportFaulted : (Machine.reportFaulted e s).InStep low :=
  ((h.close he fun _ => ⟨rfl, rfl⟩).keeps (raiseNotice_keepsExchanges _ _ _)).keeps (handOverEnd_keepsExchanges e _)

theorem State.InStep.reportSettled (p : Phase) (outcome reason : Byte) :
    (Machine.reportSettled e p outcome reason s).InStep low := by
  have hclosed : (closeEntry e.consumer (settleReported e p s.timebase.cycleCount) s).InStep low :=
    h.close he fun r => by
      have hstate : (settleReported e p s.timebase.cycleCount r).state = .settled := by
        unfold settleReported
        dsimp only
        split <;> rfl
      rw [Consumer.queued, hstate]
      exact ⟨rfl, rfl⟩
  unfold Machine.reportSettled
  refine State.InStep.keeps ?_ (handOverEnd_keepsExchanges e _)
  split
  · exact hclosed.keeps (raiseNotice_keepsExchanges _ _ _)
  · exact hclosed.keeps (raiseNotice_keepsExchanges _ _ _)

theorem State.InStep.entryAtCycleEnd : (Machine.entryAtCycleEnd s e).InStep low := by
  unfold Machine.entryAtCycleEnd
  split
  · exact h.withdraw he _
  · split
    · exact h.endUnreported he
    · split
      · rename_i hdue
        exact h.setStage he (by rw [stage_of_replyDue hdue]; rfl)
      · exact h

end Entry

/-! ### Entries made -/

/-- A SETTLED record and the further reach of its entry: what a new entry needs (R105, R109). -/
theorem State.InStep.makeEntry {s : State} (h : s.InStep 1) {i : Nat} {r : Consumer} {o : Origin} (q : Phase)
    (hr : s.record i = some r) (hs : r.state = .settled) (hreach : s.withinReach o = true) :
    (Machine.makeEntry o i q s).InStep 1 := by
  have hrecord := record_orderRecord (s.newEntry o i r.assigned q) i (s := s)
  have hright := orderRecord_scheduleRight (e := s.newEntry o i r.assigned q) hr (by rw [hs]; rfl) rfl rfl h.schedule
  obtain ⟨l, sums, -, e⟩ := orderRecord_eq (s.newEntry o i r.assigned q) i s
  change (orderRecord (s.newEntry o i r.assigned q) i s).ScheduleRight at hright
  rw [makeEntry_eq hr]
  refine State.InStep.keeps ?_ (delist_keepsExchanges i _)
  have hqueued : ∀ j, (orderRecord (s.newEntry o i r.assigned q) i s).queued j = s.queued j := fun j => by
    by_cases hj : i = j
    · subst hj
      rw [State.queued, hrecord, if_pos rfl, State.queued, hr]
      rw [Option.map_some, Option.any_some, Option.any_some, Consumer.queued, Consumer.queued, hs]
      rfl
    · exact queued_congr ((hrecord j).trans (if_neg hj))
  have hq := s.queriesRight_iff.mp h.queries
  simp only [← hqueued] at hq
  rw [e] at hright hq ⊢
  refine ⟨h.active, h.shadow, hright, (State.queriesRight_iff _).mpr hq, fun x hx => ?_⟩
  cases hx
  refine ⟨?_, (withinReach_iff s o).mp hreach⟩
  change 1 ≤ aheadBy (s.executeCycle o) s.now
  obtain ⟨hlead, -⟩ := h.active.lead
  cases hlatest : s.scheduler.latestExecute with
  | none =>
    rw [executeCycle_first hlatest, aheadBy_lead h.active]
    omega
  | some x =>
    rw [aheadBy_executeCycle h.active o hlatest (h.latest x hlatest).2]
    omega

end Sys2Proof.Machine

namespace Sys2Proof.Machine

/-! ### Withdrawals and draws -/

theorem withdraw_keepsOthers (reason : Byte) : KeepsOthers fun s e => withdraw reason e s := fun s e x hx hne => by
  rw [withdraw_scheduler]
  exact List.mem_filter.mpr ⟨hx, by simpa using hne⟩

/-- Some entries of the schedule end one after the other. -/
theorem State.InStep.foldEntries {low : Nat} {s : State} (h : s.InStep low) {act : State → MoveEntry → State}
    (hkeep : KeepsOthers act)
    (hact : ∀ (s : State) (e : MoveEntry), e ∈ s.scheduler.schedule → s.InStep low → (act s e).InStep low)
    {l : List MoveEntry} (hl : l.Sublist s.scheduler.schedule) : (l.foldl act s).InStep low :=
  foldl_entries hkeep (fun s e _ => hact s e) (fun _ he => hl.subset he) (h.schedule.1.sublist (hl.map _)) h

theorem State.InStep.withdrawals {low : Nat} {s : State} (h : s.InStep low) (reason : Byte) (test : MoveEntry → Bool) :
    ((s.scheduler.schedule.filter test).foldl (fun s e => Machine.withdraw reason e s) s).InStep low :=
  h.foldEntries (withdraw_keepsOthers reason) (fun _ _ he h => h.withdraw he reason) List.filter_sublist

/-- The reach of a new entry rests on the latest execute cycle, the cycle number and the policy (R106). -/
theorem withinReach_congr {s t : State} (k : s.KeepsQueries t) (o : Origin) : t.withinReach o = s.withinReach o := by
  have hnow : t.now = s.now := congrArg (BitVec.setWidth 16) k.cycleCount
  have hspacing : t.spacingOf o = s.spacingOf o := by
    unfold State.spacingOf
    rw [k.active]
  unfold State.withinReach State.executeCycle
  rw [hnow, k.latest, k.active, hspacing]

theorem State.InStep.draw {s : State} (h : s.InStep 1) {i : Nat} (hs : s.isSettled i = true)
    (hreach : s.withinReach .rescue = true) : (Machine.draw i s).InStep 1 := by
  unfold Machine.draw
  split
  · exact h.keeps (.of_eq rfl)
  · rename_i r hr
    split
    · exact h.keeps (State.KeepsExchanges.trans (t := countUnrescuable (unlist i s)) (.of_eq rfl)
        (closeTest_keepsExchanges _))
    · have hdrawn : s.KeepsExchanges
          ((unlist i s).modifyRecord i fun r => { r with rescue := raiseAttempts r.assigned r.rescue }) :=
        State.KeepsExchanges.trans (t := unlist i s) (.of_eq rfl) (modifyRecord_keepsExchanges fun _ _ => ⟨rfl, rfl⟩)
      have hsettled : r.state = .settled := isSettled_eq hs hr
      refine (h.keeps hdrawn).makeEntry (r := { r with rescue := raiseAttempts r.assigned r.rescue }) _ ?_ hsettled
        ((withinReach_congr hdrawn.toKeepsQueries _).trans hreach)
      rw [record_modifyRecord, if_pos rfl, show (unlist i s).record i = some r from hr]
      rfl

theorem State.InStep.draws {s : State} (h : s.InStep 1) : (Machine.draws s).InStep 1 := by
  have hupTo (n : Nat) (s : State) (h : s.InStep 1) : (drawUpTo n s).InStep 1 := by
    induction n generalizing s with
    | zero => exact h
    | succ n ih =>
      unfold drawUpTo
      split
      · rename_i hallowed
        split
        · rename_i i hi
          simp only [State.drawsAllowed, Bool.and_eq_true] at hallowed
          exact ih _ (h.draw (List.find?_some hi) hallowed.1.2)
        · exact h
      · exact h
  exact hupTo _ s h

/-! ### The query queue -/

theorem setQueryStage_pose (stage : QueryStage) (r : Consumer) : (setQueryStage stage r).pose = r.pose :=
  (congrArg (fun g : Gist => (g.assigned, g.motion)) (setQueryStage_gist stage r) :)

theorem setQueryStage_queued {stage : QueryStage} {r : Consumer} {q : Query} (hq : r.state.query = some q) :
    (setQueryStage stage r).queued = (stage == .queued) := by
  unfold setQueryStage Consumer.queued
  rw [hq]
  simp only [withQuery_query hq, Option.any_some]

theorem mem_tail_append_singleton {α : Type} {l : List α} {x y : α} (h : y ∈ (l ++ [x]).tail) : y ∈ l.tail ∨ y = x := by
  cases l with
  | nil => cases h
  | cons a l => simpa using h

/-- The query queue and the records with it have changed, and nothing else that the rules speak of. -/
theorem State.InStep.requeue {low : Nat} {s t : State} (h : s.InStep low) (hs : t.ScheduleRight) (hq : t.QueriesRight)
    (hlatest : t.scheduler.latestExecute = s.scheduler.latestExecute)
    (hcount : t.timebase.cycleCount = s.timebase.cycleCount) (hmanagement : t.management = s.management) :
    t.InStep low where
  active := hmanagement ▸ h.active
  shadow := hmanagement ▸ h.shadow
  schedule := hs
  queries := hq
  latest := by
    have hnow : t.now = s.now := congrArg (BitVec.setWidth 16) hcount
    rw [hlatest, hnow]
    exact h.latest

theorem pose_modifyRecord {i : Nat} {f : Consumer → Consumer} {s : State} (hf : ∀ r, (f r).pose = r.pose) (j : Nat) :
    ((s.modifyRecord i f).record j).map Consumer.pose = (s.record j).map Consumer.pose := by
  rw [record_modifyRecord]
  split
  · rw [Option.map_map]
    exact congrArg (Option.map · (s.record j)) (funext hf)
  · rfl

theorem queued_of_some {s : State} {i : Nat} {r : Consumer} (h : s.record i = some r) :
    s.queued i = r.queued := by
  rw [State.queued, h, Option.any_some]

/-- A record whose query waits, at a stage after another. -/
theorem queued_setQueryStage {stage : QueryStage} {i : Nat} {r : Consumer} {q : Query} {s : State}
    (hr : s.record i = some r) (hq : r.state.query = some q) (j : Nat) :
    (s.modifyRecord i (setQueryStage stage)).queued j = if i = j then stage == .queued else s.queued j := by
  have hrecord := record_modifyRecord s i j (setQueryStage stage)
  split
  · rename_i hj
    subst hj
    rw [if_pos rfl, hr] at hrecord
    exact (queued_of_some hrecord).trans (setQueryStage_queued hq)
  · rename_i hj
    exact queued_congr (hrecord.trans (if_neg hj))

theorem waiting_iff {st : RecordState} : st.waiting = true ↔ ∃ q, st.query = some q ∧ q.stage = .waiting := by
  unfold RecordState.waiting
  cases st.query <;> simp

/-- A record's query goes to another stage, and the queue with it. -/
theorem State.InStep.requery {low : Nat} {s : State} (h : s.InStep low) {i : Nat} {r : Consumer} {q : Query}
    {stage : QueryStage} {l : List QueryEntry} (hr : s.record i = some r) (hq : r.state.query = some q)
    (hnodup : (l.map QueryEntry.consumer).Nodup)
    (hmem : ∀ j, j ∈ l.map QueryEntry.consumer ↔ (if i = j then stage == .queued else s.queued j) = true)
    (htail : ∀ e ∈ l.tail, e.inTransmission = false) :
    (State.modifyRecord { s with scheduler.queries := l } i (setQueryStage stage)).InStep low := by
  have hqueued := queued_setQueryStage (stage := stage) (s := { s with scheduler.queries := l }) hr hq
  have hpose := pose_modifyRecord (s := { s with scheduler.queries := l }) (i := i) (setQueryStage_pose stage)
  obtain ⟨consumers, -, e⟩ := modifyRecord_eq i (setQueryStage stage) { s with scheduler.queries := l }
  rw [e] at hqueued hpose ⊢
  refine h.requeue (h.schedule.congr rfl hpose) ((State.queriesRight_iff _).mpr ⟨hnodup, fun j => ?_, htail⟩)
    rfl rfl rfl
  rw [hqueued]
  exact hmem j

theorem State.InStep.enqueueQuery {low : Nat} {s : State} (h : s.InStep low) {i : Nat} {r : Consumer}
    (hr : s.record i = some r) (hw : r.state.waiting = true) : (Machine.enqueueQuery s i).InStep low := by
  obtain ⟨q, hq, hstage⟩ := waiting_iff.mp hw
  have hfree : s.queued i = false := by
    rw [queued_of_some hr, Consumer.queued, hq, Option.any_some, hstage]
    rfl
  obtain ⟨hnodup, hmem, htail⟩ := s.queriesRight_iff.mp h.queries
  have hout : i ∉ s.scheduler.queries.map QueryEntry.consumer := fun hi => by
    rw [(hmem i).mp hi] at hfree
    cases hfree
  refine h.requery hr hq ?_ (fun j => ?_) fun e he => ?_
  · rw [List.map_append, List.map_singleton]
    exact hnodup.append (List.nodup_singleton _) (List.disjoint_singleton.mpr hout)
  · rw [List.map_append, List.map_singleton, List.mem_append, List.mem_singleton, hmem]
    by_cases hj : i = j
    · simp [hj]
    · rw [if_neg hj]
      exact or_iff_left (Ne.symm hj)
  · rcases mem_tail_append_singleton he with he | rfl
    · exact htail e he
    · rfl

theorem State.InStep.fill {low : Nat} {s : State} (h : s.InStep low) : (Machine.fill s).InStep low := by
  have hall (l : List Nat) (hl : l.Nodup) (s : State) (h : s.InStep low)
      (hw : ∀ i ∈ l, ∃ r, s.record i = some r ∧ r.state.waiting = true) :
      (l.foldl Machine.enqueueQuery s).InStep low := by
    induction l generalizing s with
    | nil => exact h
    | cons i l ih =>
      obtain ⟨hi, hl⟩ := List.nodup_cons.mp hl
      obtain ⟨r, hr, hwaits⟩ := hw i List.mem_cons_self
      refine ih hl _ (h.enqueueQuery hr hwaits) fun j hj => ?_
      have hother : (Machine.enqueueQuery s i).record j = s.record j :=
        (record_modifyRecord _ i j _).trans (if_neg (by rintro rfl; exact hi hj))
      rw [hother]
      exact hw j (List.mem_cons_of_mem i hj)
  refine hall _ ((s.indicesWhere_nodup _).sublist (List.take_sublist ..)) s h fun i hi => ?_
  exact (mem_indicesWhere s _ i).mp (List.mem_of_mem_take hi)

/-- The head of the query queue goes on the line, and takes its tag (R134). -/
theorem State.InStep.grantQuery {low : Nat} {s : State} (h : s.InStep low) {e : QueryEntry}
    (he : s.queryHead = some e) : (Machine.grantQuery e s).InStep low := by
  obtain ⟨rest, hrest⟩ : ∃ rest, s.scheduler.queries = e :: rest := by
    unfold State.queryHead at he
    split at he
    · rename_i x rest hx
      split at he
      · cases he
      · cases he
        exact ⟨rest, hx⟩
    · cases he
  obtain ⟨hnodup, hmem, htail⟩ := s.queriesRight_iff.mp h.queries
  have hsame : (QueryEntry.mk e.consumer true :: s.scheduler.queries.tail).map QueryEntry.consumer
      = s.scheduler.queries.map QueryEntry.consumer := by rw [hrest]; rfl
  refine h.requeue h.schedule ((State.queriesRight_iff _).mpr ⟨?_, fun j => ?_, htail⟩) rfl rfl rfl
  · exact hsame ▸ hnodup
  · exact (iff_of_eq (congrArg (j ∈ ·) hsame)).trans (hmem j)

/-- The query of the head has been sent: it leaves the queue, and its record is ASKED (R135). -/
theorem State.InStep.querySent {low : Nat} {s : State} (h : s.InStep low) (tag : Byte) :
    (Machine.querySent tag s).InStep low := by
  unfold Machine.querySent
  split
  · rename_i e rest hrest
    split
    · obtain ⟨hnodup, hmem, htail⟩ := s.queriesRight_iff.mp h.queries
      rw [hrest, List.map_cons] at hnodup hmem
      rw [hrest, List.tail_cons] at htail
      obtain ⟨hnot, hnodup⟩ := List.nodup_cons.mp hnodup
      obtain ⟨r, hr, hwaits⟩ := State.queued_iff.mp ((hmem e.consumer).mp List.mem_cons_self)
      obtain ⟨q, hq, -⟩ := Consumer.queued_iff.mp hwaits
      refine h.requery hr hq hnodup (fun j => ?_) fun x hx => ?_
      · by_cases hj : e.consumer = j
        · rw [if_pos hj, ← hj]
          exact iff_of_false hnot Bool.false_ne_true
        · rw [if_neg hj]
          exact Iff.trans ((List.mem_cons.trans (or_iff_right (Ne.symm hj))).symm) (hmem j)
      · exact htail x (List.mem_of_mem_tail hx)
    · exact h
  · exact h

theorem State.InStep.orderSent {low : Nat} {s : State} (h : s.InStep low) : (Machine.orderSent s).InStep low := by
  unfold Machine.orderSent
  split
  · rename_i e he
    have hst : e.stage = .queued true := by simpa using List.find?_some he
    refine (h.setStage (List.mem_of_find?_eq_some he) ?_).keeps (modifyRecord_keepsExchanges fun _ _ => ⟨rfl, rfl⟩)
    rw [hst]
    split <;> rfl
  · exact h

/-! ### The grants and the end of an event -/

theorem State.InStep.grantDown {s : State} (h : s.InStep 1) : (Machine.grantDown s).InStep 1 := by
  have hforward {t : State} (h : t.InStep 1) : (grantForwardDown t).InStep 1 := by
    unfold grantForwardDown
    split
    · exact h.keeps (.of_eq rfl)
    · exact h
  have hbelow {t : State} (h : t.InStep 1) : (grantBelowOrder t).InStep 1 := by
    unfold grantBelowOrder
    split
    · rename_i e he
      exact h.grantQuery he
    · exact hforward h
  have horder : (grantOrder s).InStep 1 := by
    have hnear : (withdrawTooNear s).InStep 1 := h.withdrawals reasonWithdrawn _
    unfold grantOrder
    dsimp only
    split
    · rename_i e he
      obtain ⟨hmem, hst⟩ := earliestWaiting_spec he
      exact (hnear.setStage hmem (st := .queued true) (by rw [hst]; rfl)).keeps (.of_eq rfl)
    · exact hbelow hnear
  unfold Machine.grantDown chooseDown
  split
  · split
    · exact h.keeps (.of_eq rfl)
    · split
      · exact hforward h
      · split
        · exact horder
        · exact hbelow h
  · exact h

theorem grantUp_keepsExchanges (s : State) : s.KeepsExchanges (grantUp s) := by
  have hforward : s.KeepsExchanges (grantForwardUp s) := by
    unfold grantForwardUp
    split
    · exact .of_eq rfl
    · exact .refl s
  unfold grantUp chooseUp grantNotice
  split
  · split
    · exact hforward
    · split
      · exact .of_eq rfl
      · split
        · exact .of_eq rfl
        · exact hforward
  · exact .refl s

theorem State.InStep.finish {s : State} (h : s.InStep 1) : (Machine.finish s).InStep 1 :=
  h.draws.fill.grantDown.draws.grantDown.keeps (grantUp_keepsExchanges _)

end Sys2Proof.Machine

namespace Sys2Proof.Machine

/-! ### Records that leave the query queue -/

/-- A record changes and leaves the query queue (R10, R133). -/
theorem State.InStep.dequeue {low : Nat} {s t : State} (h : s.InStep low) {i : Nat}
    (hothers : ∀ j, j ≠ i → t.record j = s.record j) (hown : t.queued i = false)
    (hqueries : t.scheduler.queries = s.scheduler.queries.filter fun e => e.consumer != i)
    (hlatest : t.scheduler.latestExecute = s.scheduler.latestExecute)
    (hcount : t.timebase.cycleCount = s.timebase.cycleCount) (hmanagement : t.management = s.management)
    (ht : t.ScheduleRight) : t.InStep low := by
  obtain ⟨hnodup, hmem, htail⟩ := s.queriesRight_iff.mp h.queries
  have hsublist : (s.scheduler.queries.filter fun e => e.consumer != i).Sublist s.scheduler.queries :=
    List.filter_sublist
  refine h.requeue ht (t.queriesRight_iff.mpr ⟨?_, fun j => ?_, fun e he => ?_⟩) hlatest hcount hmanagement
  · rw [hqueries]
    exact hnodup.sublist (hsublist.map _)
  · by_cases hj : j = i
    · rw [hj, hown, hqueries]
      simp
    · rw [queued_congr (hothers j hj), ← hmem, hqueries]
      simp only [List.mem_map, List.mem_filter, bne_iff_ne]
      exact exists_congr fun e => ⟨fun ⟨⟨he, _⟩, hc⟩ => ⟨he, hc⟩, fun ⟨he, hc⟩ => ⟨⟨he, hc ▸ hj⟩, hc⟩⟩
  · rw [hqueries] at he
    exact htail e (hsublist.tail.subset he)

/-- A record without a move that takes a state without a query leaves the queue. -/
theorem State.InStep.leave {low : Nat} {s : State} (h : s.InStep low) {i : Nat} {f : Consumer → Consumer}
    (hs : s.Still i) (hf : ∀ r, (f r).state.moving = false ∧ (f r).queued = false) :
    (leaveQueue i (changeRecord i f s)).InStep low := by
  have haround := (changeRecord_around i f s).trans (leaveQueue_around i _)
  have hright := changeRecord_scheduleRight (fun r hr => ⟨hs r hr, (hf r).1⟩) h.schedule
  refine h.dequeue haround.others ?_ ?_ ?_ (by rw [haround.timebase]) haround.management
    (hright.gentle (leaveQueue_gentle i _))
  · change (changeRecord i f s).queued i = false
    rw [State.queued, record_changeRecord, if_pos rfl, Option.any_map]
    cases s.record i with
    | none => rfl
    | some r => exact (hf r).2
  · rw [leaveQueue, changeRecord_scheduler]
  · rw [leaveQueue, changeRecord_scheduler]

/-- A record without a move and without a queued query takes such a state. -/
theorem State.InStep.change {low : Nat} {s : State} (h : s.InStep low) {i : Nat} {f : Consumer → Consumer}
    (hf : ∀ r, s.record i = some r → (f r).pose = r.pose ∧ (f r).queued = r.queued) :
    (changeRecord i f s).InStep low := by
  have hkeeps := modifyRecord_keepsExchanges hf
  obtain ⟨sums, e⟩ := recontribute_sums i (fun s => s.modifyRecord i f) s
  rw [changeRecord, e]
  exact h.keeps (hkeeps.trans (.of_eq rfl))

section Frame
variable {low : Nat} {s : State} (h : s.InStep low) {i : Nat} (hs : s.Still i)
include h hs

theorem State.InStep.goSilent : (Machine.goSilent i s).InStep low := h.leave hs fun _ => ⟨rfl, rfl⟩

theorem State.InStep.settleByAnswer (p : Phase) : (Machine.settleByAnswer i p s).InStep low := by
  have hsettled : (leaveQueue i (changeRecord i (settleOn p) s)).InStep low := h.leave hs fun _ => ⟨rfl, rfl⟩
  refine (hsettled.keeps (modifyRecord_keepsExchanges fun r _ => ?_)).keeps (noteSettlement_keepsExchanges i _)
  unfold changeOpenBank
  split <;> exact ⟨rfl, rfl⟩

theorem State.InStep.settleByLateReport (p : Phase) : (Machine.settleByLateReport i p s).InStep low :=
  State.InStep.keeps (h.leave hs fun _ => ⟨rfl, rfl⟩) (noteSettlement_keepsExchanges i _)

theorem State.InStep.faultByFrame (reason : FaultReason) (tag : Byte) :
    (Machine.faultByFrame i reason tag s).InStep low :=
  State.InStep.keeps (State.InStep.keeps (h.leave hs fun _ => ⟨rfl, rfl⟩) (raiseNotice_keepsExchanges _ _ _))
    (noteOutOfService_keepsExchanges i _)

theorem State.InStep.silentAtFold : (Machine.silentAtFold i s).InStep low := by
  have hsilent := h.goSilent hs
  unfold Machine.silentAtFold
  dsimp only
  refine State.InStep.keeps ?_ (.of_aside (dropChoice_aside _))
  split
  · exact (hsilent.keeps (raiseNotice_keepsExchanges _ _ _)).keeps (noteOutOfService_keepsExchanges i _)
  · exact (hsilent.keeps (noteOutOfService_keepsExchanges i _)).keeps (raiseNotice_keepsExchanges _ _ _)

end Frame

theorem still_of_query {s : State} {i : Nat} {q : Query} (h : ((s.record i).bind fun r => r.state.query) = some q) :
    s.Still i := fun r hr => by
  rw [hr] at h
  exact moving_of_query h

/-! ### Query deadlines -/

theorem spendTry_not_queued {s : State} {i j : Nat} (h : s.queued j = false) : (spendTry s i).queued j = false := by
  by_cases hj : j = i
  · subst hj
    cases hr : s.record j with
    | none =>
      have hnone : spendTry s j = s := by
        unfold spendTry
        rw [hr]
        rfl
      rw [hnone]
      exact h
    | some r =>
      cases hq : r.state.query with
      | none =>
        have hnone : spendTry s j = s := by
          unfold spendTry
          rw [hr]
          simp only [Option.bind_some, hq]
        rw [hnone]
        exact h
      | some q =>
        rw [queued_of_some (record_spendTry hr hq), Consumer.queued]
        dsimp only
        split
        · rfl
        · rw [withQuery_query hq]
          rfl
  · rw [queued_congr ((spendTry_around s i).others j hj)]
    exact h

theorem State.InStep.spendTry {low : Nat} {s : State} (h : s.InStep low) {i : Nat} (hi : s.queued i = false) :
    (Machine.spendTry s i).InStep low := by
  unfold Machine.spendTry
  split
  · rename_i q hq
    have hasked (q' : Query) (hq' : q'.stage = .waiting) :
        (s.modifyRecord i fun r => { r with state := r.state.withQuery q' }).InStep low :=
      h.keeps (modifyRecord_keepsExchanges fun r hr => by
        rw [hr, Option.bind_some] at hq
        refine ⟨(congrArg (fun g : Gist => (g.assigned, g.motion)) (withQuery_gist r q') :), ?_⟩
        rw [queued_of_some hr] at hi
        rw [hi, Consumer.queued, withQuery_query hq, Option.any_some, hq']
        rfl)
    split
    · have hstill : (s.modifyRecord i fun r => { r with state := r.state.withQuery ⟨.waiting, 0⟩ }).Still i := by
        refine still_of_query (q := ⟨.waiting, 0⟩) ?_
        rw [record_modifyRecord, if_pos rfl, Option.bind_map]
        cases hr : s.record i with
        | none => rw [hr] at hq; cases hq
        | some r =>
          rw [hr, Option.bind_some] at hq
          exact withQuery_query hq _
      exact (((hasked _ rfl).goSilent hstill).keeps (raiseNotice_keepsExchanges _ _ _)).keeps
        (noteOutOfService_keepsExchanges i _)
    · exact hasked _ rfl
  · exact h

theorem not_queued_of_due {s : State} {i : Nat} (h : i ∈ s.indicesWhere fun _ r => r.state.queryDue) :
    s.queued i = false := by
  obtain ⟨r, hr, hdue⟩ := (mem_indicesWhere s _ i).mp h
  obtain ⟨tag, tries, hq⟩ := queryDue_iff.mp hdue
  rw [queued_of_some hr, Consumer.queued, hq]
  rfl

theorem State.InStep.queryDeadlines {low : Nat} {s : State} (h : s.InStep low) :
    (Machine.queryDeadlines s).InStep low := by
  have hall (l : List Nat) (s : State) (h : s.InStep low) (hl : ∀ i ∈ l, s.queued i = false) :
      (l.foldl Machine.spendTry s).InStep low := by
    induction l generalizing s with
    | nil => exact h
    | cons i l ih =>
      exact ih _ (h.spendTry (hl i List.mem_cons_self)) fun j hj =>
        spendTry_not_queued (hl j (List.mem_cons_of_mem i hj))
  exact hall _ s h fun _ => not_queued_of_due

theorem lowerDeadline_queued (r : Consumer) : (lowerDeadline r).queued = r.queued := by
  unfold lowerDeadline
  split
  · rename_i hq
    rw [Consumer.queued, Consumer.queued, withQuery_query hq, hq]
    rfl
  · rfl

theorem State.InStep.queriesAtCycleEnd {low : Nat} {s : State} (h : s.InStep low) :
    (Machine.queriesAtCycleEnd s).InStep low := by
  refine State.InStep.queryDeadlines (h.keeps (.of_records (fun i => ?_) rfl rfl rfl))
  rw [record_mapConsumers, Option.map_map]
  refine congrArg (Option.map · (s.record i)) (funext fun r => ?_)
  exact Prod.ext (congrArg (fun g : Gist => (g.assigned, g.motion)) (lowerDeadline_gist r) :) (lowerDeadline_queued r)

/-! ### Cycle ends -/

theorem State.InStep.scheduleAtCycleEnd {low : Nat} {s : State} (h : s.InStep low) :
    (Machine.scheduleAtCycleEnd s).InStep low :=
  h.foldEntries entryAtCycleEnd_keepsOthers (fun _ _ he h => h.entryAtCycleEnd he) (List.Sublist.refl _)

/-- The latest execute cycle is ahead of now or absent once R107 is applied. -/
theorem State.InStep.expireLatest {low : Nat} {s : State} (h : s.InStep low) : (Machine.expireLatest s).InStep 1 := by
  rw [expireLatest_eq]
  refine ⟨h.active, h.shadow, h.schedule, h.queries, fun x hx => ?_⟩
  obtain ⟨hx, hahead⟩ := Option.filter_eq_some_iff.mp hx
  exact ⟨decide_eq_true_eq.mp (Bool.and_eq_true_iff.mp hahead).1, (h.latest x hx).2⟩

theorem State.InStep.schedulerAtCycleEnd {low : Nat} {s : State} (h : s.InStep low) :
    (Machine.schedulerAtCycleEnd s).InStep 1 := by
  unfold Machine.schedulerAtCycleEnd
  refine State.InStep.expireLatest (low := low) ?_
  split
  · exact h.scheduleAtCycleEnd.queriesAtCycleEnd
  · exact h.queriesAtCycleEnd.scheduleAtCycleEnd

theorem State.InStep.blocksInOrder {low : Nat} {s : State} (h : s.InStep low) (order : Config.BlockOrder)
    (how : CycleEnd) : (Machine.blocksInOrder order how s).InStep 1 := by
  have t {low : Nat} {s : State} (h : s.InStep low) : (timebaseAtCycleEnd how s).InStep low :=
    h.keeps (.of_aside (timebaseAtCycleEnd_aside how s))
  have p {low : Nat} {s : State} (h : s.InStep low) : (supervisionBlock how s).InStep low :=
    h.keeps (.of_aside (supervisionBlock_aside how s))
  cases order with
  | tps => exact (p (t h)).schedulerAtCycleEnd
  | tsp => exact p (t h).schedulerAtCycleEnd
  | pts => exact (t (p h)).schedulerAtCycleEnd
  | pst => exact t (p h).schedulerAtCycleEnd
  | stp => exact p (t h.schedulerAtCycleEnd)
  | spt => exact t (p h.schedulerAtCycleEnd)

/-- The cycle number goes on by one, and the latest execute cycle comes that much nearer (R48). -/
theorem State.InStep.counted {s : State} (h : s.InStep 1) :
    State.InStep 0 { s with timebase.cycleCount := s.timebase.cycleCount + 1 } := by
  refine ⟨h.active, h.shadow, h.schedule, h.queries, fun x hx => ⟨Nat.zero_le _, ?_⟩⟩
  obtain ⟨hlow, hhigh⟩ := h.latest x hx
  rw [now_counted]
  unfold aheadBy at *
  bv_omega

theorem State.InStep.cycleEnd {s : State} (h : s.InStep 1) (how : CycleEnd) : (Machine.cycleEnd how s).InStep 1 := by
  rw [cycleEnd_eq]
  exact (h.counted.keeps (.of_aside (countedCycle_aside s))).blocksInOrder _ how

theorem State.InStep.edge {s : State} (h : s.InStep 1) (line : Phase) : (Machine.edge line s).InStep 1 := by
  have hcrossing {t : State} (h : t.InStep 1) : (crossing t).InStep 1 := by
    unfold crossing
    split
    · unfold reanchorCrossing
      dsimp only
      split
      · exact State.InStep.cycleEnd (h.keeps (.of_eq (by rfl))) _
      · exact State.InStep.keeps (h.keeps (.of_eq (by rfl))) (.of_aside (sampleAll_aside _))
    · split
      · exact h.keeps (.of_eq (by rfl))
      · exact State.InStep.cycleEnd (h.keeps (.of_eq (by rfl))) _
  have hmark {t : State} (h : t.InStep 1) : (markEdge line t).InStep 1 := h.keeps (.of_aside (markEdge_aside line t))
  have hdrop {t : State} (h : t.InStep 1) : (dropChoice t).InStep 1 := h.keeps (.of_aside (dropChoice_aside t))
  by_cases hline : line = s.timebase.reference
  · rcases edge_reference hline with e | e
    · rw [e]
      exact hdrop (hcrossing (hmark h))
    · rw [e]
      exact hdrop (hmark (hcrossing h))
  · rw [edge_other hline]
    exact hdrop (hmark h)

/-! ### The running of the tick counter -/

theorem State.InStep.sampleEvent {s : State} (h : s.InStep 1) (point : Nat) : (Machine.sampleEvent point s).InStep 1 :=
  State.InStep.finish (h.keeps ((State.KeepsExchanges.of_eq (s := s) (t := setTick point s) rfl).trans
    (.of_aside ((sampleAll_aside _).trans (dropChoice_aside _)))))

theorem State.InStep.samplesUpTo {s : State} (h : s.InStep 1) (fuel tick : Nat) :
    (Machine.samplesUpTo fuel tick s).InStep 1 := by
  induction fuel generalizing s with
  | zero => exact h
  | succ fuel ih =>
    unfold Machine.samplesUpTo
    split
    · split
      · exact ih (h.sampleEvent _)
      · exact h
    · exact h

theorem State.InStep.lateLimitEvent {s : State} (h : s.InStep 1) : (Machine.lateLimitEvent s).InStep 1 := by
  have hlimit : (setTick s.lateLimit (Machine.samplesUpTo Config.samplePoints (s.lateLimit - 1) s)).InStep 1 :=
    (h.samplesUpTo _ _).keeps (.of_eq (by rfl))
  exact State.InStep.finish (State.InStep.keeps (State.InStep.cycleEnd (hlimit.keeps (.of_eq (by rfl))) .synthetic)
    (.of_aside (dropChoice_aside _)))

theorem State.InStep.advance {s : State} (h : s.InStep 1) (n : Nat) : (Machine.advance n s).InStep 1 := by
  have hticks (fuel n : Nat) (s : State) (h : s.InStep 1) : (runTicks fuel n s).InStep 1 := by
    induction fuel generalizing n s with
    | zero => exact h
    | succ fuel ih =>
      unfold runTicks
      split
      · exact (h.samplesUpTo _ _).keeps (.of_eq rfl)
      · exact ih _ _ h.lateLimitEvent
  unfold Machine.advance
  split
  · exact h
  · exact hticks n n s h

theorem State.InStep.sampleStep {s : State} (h : s.InStep 1) : (Machine.sampleStep s).InStep 1 := by
  unfold Machine.sampleStep
  split
  · exact h.sampleEvent _
  · exact h

end Sys2Proof.Machine

namespace Sys2Proof.Machine

/-! ### Readings and the fold -/

theorem State.InStep.returnToService {low : Nat} {s : State} (h : s.InStep low) {i : Nat} (hi : s.isSilent i = true) :
    (Machine.returnToService i s).InStep low := by
  refine State.InStep.keeps (State.InStep.keeps (h.change fun r hr => ?_) (raiseNotice_keepsExchanges _ _ _))
    (insertByHandOver_keepsExchanges i _)
  have hsilent : r.state = .silent := by simpa [State.isSilent, hr] using hi
  rw [Consumer.pose, Consumer.pose, Consumer.queued, Consumer.queued, hsilent]
  exact ⟨rfl, rfl⟩

theorem forwardUp_keepsExchanges (f : Frame) (s : State) : s.KeepsExchanges (forwardUp f s) := by
  obtain ⟨ports, e, -⟩ := forwardUp_eq f s
  rw [e]
  exact .of_eq rfl

theorem changeOpenBank_sees (second : Bool) (f : Bank → Bank) (r : Consumer) :
    (changeOpenBank second f r).pose = r.pose ∧ (changeOpenBank second f r).queued = r.queued := by
  unfold changeOpenBank
  split <;> exact ⟨rfl, rfl⟩

theorem State.InStep.takeReading {low : Nat} {s : State} (h : s.InStep low) (i : Nat) (f : Frame) (reading : Word16)
    (supply : Bool) : (Machine.takeReading i f reading supply s).InStep low := by
  have hback : (if s.isSilent i then Machine.returnToService i s else s).InStep low := by
    split
    · rename_i hi
      exact h.returnToService hi
    · exact h
  unfold Machine.takeReading
  dsimp only
  generalize (if s.isSilent i then Machine.returnToService i s else s) = t at hback
  have htaken := hback.keeps (modifyRecord_keepsExchanges (i := i) (f := fun r =>
    { changeOpenBank t.intake.secondOpen (Bank.takeReading supply (clampLoad reading.toInt)) r with
      forward := nextForward t.management.active.divider r.forward }) fun r _ => changeOpenBank_sees _ _ r)
  split
  · exact htaken.keeps (forwardUp_keepsExchanges f _)
  · exact htaken

theorem State.InStep.foldAt {low : Nat} {s : State} (h : s.InStep low) (shift limit i : Nat) :
    (Machine.foldAt shift limit i s).InStep low := by
  unfold Machine.foldAt
  split
  · rename_i r hr
    have hfolded := h.keeps (modifyRecord_keepsExchanges (i := i) (f := foldRecord s.intake.secondOpen shift) fun r _ =>
      ⟨(congrArg (fun g : Gist => (g.assigned, g.motion)) (foldRecord_gist s.intake.secondOpen shift r) :), by
        rw [Consumer.queued, foldRecord_state, Consumer.queued]⟩)
    dsimp only
    split
    · rename_i hsilences
      refine hfolded.silentAtFold fun r' hr' => ?_
      rw [record_modifyRecord, if_pos rfl, hr, Option.map_some, Option.some.injEq] at hr'
      rw [← hr', foldRecord_state]
      unfold foldSilences at hsilences
      revert hsilences
      cases r.state <;> simp [RecordState.moving]
    · exact hfolded
  · exact h

/-! ### The Balancer -/

/-- An adoption makes the shadow policy, in range as well, the active one (R81). -/
theorem State.InStep.adopt {low : Nat} {s : State} (h : s.InStep low) : (Machine.adopt s).InStep low := by
  obtain ⟨sums, rescue, notices, lost, -, -, e⟩ := adopt_fields s
  rw [e]
  exact ⟨h.shadow, h.shadow, h.schedule, h.queries, h.latest⟩

theorem startPass_keepsExchanges (s : State) : s.KeepsExchanges (startPass s) :=
  .of_records (fun i => by
    change Option.map _ ((copyFresh s).record i) = _
    rw [copyFresh, record_mapRecords]
    cases s.record i <;> rfl) rfl rfl rfl

theorem State.InStep.afterTableWrite {low : Nat} {s : State} (h : s.InStep low) :
    (Machine.afterTableWrite s).InStep low := by
  unfold Machine.afterTableWrite
  split
  · exact h.adopt.keeps (.of_eq rfl)
  · exact h

theorem State.InStep.passTrigger {low : Nat} {s : State} (h : s.InStep low) : (Machine.passTrigger s).InStep low := by
  have htriggered : (passTriggered s).InStep low := by
    unfold passTriggered
    dsimp only
    split
    · split
      · exact h.adopt.keeps (startPass_keepsExchanges _)
      · exact h.adopt.keeps (.of_eq rfl)
    · exact h.adopt.keeps (.of_eq rfl)
    · exact h.adopt
    · exact h.adopt
  exact htriggered.keeps (.of_eq rfl)

theorem State.InStep.triggerIfDue {low : Nat} {s : State} (h : s.InStep low) : (Machine.triggerIfDue s).InStep low := by
  unfold Machine.triggerIfDue
  split
  · exact h.passTrigger
  · exact h

theorem closeIfDue_keepsExchanges (s : State) : s.KeepsExchanges (closeIfDue s) := by
  unfold closeIfDue
  split
  · split
    · exact .of_eq rfl
    · exact .refl s
  · exact .refl s

theorem State.InStep.completeFold {low : Nat} {s : State} (h : s.InStep low) : (Machine.completeFold s).InStep low :=
  State.InStep.keeps (State.InStep.triggerIfDue (h.keeps (.of_eq (by rfl)))) (closeIfDue_keepsExchanges _)

theorem State.InStep.completeIfPast {low : Nat} {s : State} (h : s.InStep low) :
    (Machine.completeIfPast s).InStep low := by
  unfold Machine.completeIfPast
  split
  · split
    · exact h.completeFold
    · exact h
  · exact h

theorem State.InStep.foldStep {low : Nat} {s : State} (h : s.InStep low) : (Machine.foldStep s).InStep low := by
  unfold Machine.foldStep
  split
  · dsimp only
    split
    · exact (h.foldAt _ _ _).keeps (.of_eq rfl)
    · exact (h.foldAt _ _ _).completeFold
  · exact h

theorem searchStep_keepsExchanges (s : State) : s.KeepsExchanges (searchStep s) := by
  unfold searchStep
  split
  · split
    · exact .refl s
    · exact .of_eq rfl
  · exact .refl s
  · exact .refl s
  · exact .refl s

/-- A pass completion makes an entry only of a SETTLED record within the reach (R95). -/
theorem State.InStep.completePass {s : State} (h : s.InStep 1) (pass : Pass) :
    (Machine.completePass pass s).InStep 1 := by
  have hmoves : (pass.results.foldl revalidate (s, 0)).1.InStep 1 :=
    foldl_revalidate (P := State.InStep 1) (fun sn m _ h => by
      unfold revalidate
      split
      · rename_i hkept
        obtain ⟨r, hr, hsettled, -, -, -, -, -, -, -, -, -, hreach⟩ := (keepsMove_iff m sn.1).mp hkept
        exact h.makeEntry m.target hr hsettled ((withinReach_iff _ _).mpr hreach)
      · exact h.keeps (.of_eq rfl)) h
  exact (hmoves.keeps (raiseNotice_keepsExchanges _ _ _)).keeps (.of_eq rfl)

theorem State.InStep.completionStep {s : State} (h : s.InStep 1) : (Machine.completionStep s).InStep 1 := by
  unfold Machine.completionStep
  split
  · split
    · exact h.completePass _
    · exact h
  · exact h
  · exact h
  · exact h

theorem budgetIfDue_keepsExchanges (s : State) : s.KeepsExchanges (budgetIfDue s) := by
  unfold budgetIfDue
  split
  · refine .of_records (fun i => ?_) rfl rfl rfl
    change Option.map _ (State.record { s with tables.consumers := _ } i) = _
    rw [record_mapRecords]
    cases s.record i <;> rfl
  · exact .refl s

theorem markIfDue_keepsExchanges (s : State) : s.KeepsExchanges (markIfDue s) := by
  unfold markIfDue
  split
  · exact .of_eq rfl
  · exact .refl s

/-! ### Deadlines commanded alone -/

theorem State.InStep.replyDeadlines {low : Nat} {s : State} (h : s.InStep low) :
    (Machine.replyDeadlines s).InStep low := by
  unfold Machine.replyDeadlines
  exact foldl_entries (P := State.InStep low) (setStage_keepsOthers .unconfirmed)
    (fun _ e hl he h => h.setStage he (by rw [stage_of_replyDue (List.mem_filter.mp hl).2]; rfl))
    (fun e he => List.mem_of_mem_filter he) (h.schedule.1.sublist (List.filter_sublist.map _)) h

theorem State.InStep.reportDeadlines {low : Nat} {s : State} (h : s.InStep low) :
    (Machine.reportDeadlines s).InStep low :=
  h.foldEntries endUnreported_keepsOthers (fun _ _ he h => h.endUnreported he) List.filter_sublist

/-! ### Phases and starts -/

theorem filteredLevelChange_aside (p : Phase) (s : State) : s.StandsAside (filteredLevelChange p s) := by
  unfold filteredLevelChange
  dsimp only
  split
  · exact (setWatch_aside p _ s).trans (onFilteredLevel_aside p _)
  · exact .refl s

theorem presenceChange_aside (p : Phase) (s : State) : s.StandsAside (presenceChange p s) := by
  unfold presenceChange
  dsimp only
  split
  · exact .refl s
  · exact (setWatch_aside p _ s).trans (onPresence_aside p _)

theorem queued_warmRecord (tries : Nat) (r : Consumer) : (warmRecord tries r).queued = false := by
  unfold warmRecord Consumer.queued
  dsimp only
  split <;> rfl

/-- A start leaves the query queue empty and no record in it (R25, R26). -/
theorem State.InStep.startWith {low low' : Nat} {s : State} (h : s.InStep low) (sources : ResetSources)
    (straps : Straps) : (Machine.startWith sources straps s).InStep low' where
  active := (startedPolicy_inRange sources h.active).1
  shadow := (startedPolicy_inRange sources h.active).2
  schedule := startWith_scheduleRight sources straps s
  queries := by
    have hnone (i : Nat) : (Machine.startWith sources straps s).queued i = false := by
      rw [State.queued, record_startWith]
      split
      · rfl
      · rw [Option.any_map]
        cases s.record i with
        | none => rfl
        | some r => exact queued_warmRecord _ r
    rw [State.queriesRight_iff, startWith_eq]
    rw [startWith_eq] at hnone
    exact ⟨List.nodup_nil, fun i => by rw [hnone]; simp [startValues], fun e he => by cases he⟩
  latest x hx := by
    rw [startWith_eq] at hx
    cases hx

/-! ### Management requests -/

section Requests
variable {s : State} (h : s.InStep 1) (r : Request) (args : List Byte)
include h

/-- A response speaks of nothing that the rules see. -/
theorem State.InStep.respond (kind : Byte) (result : Result) (data : List Byte) :
    (Machine.respond r kind result data s).InStep 1 := h.keeps (.of_eq rfl)

theorem State.InStep.refuse (kind : Byte) (result : Result) : (Machine.refuse r kind result s).InStep 1 :=
  h.respond r kind result []

theorem State.InStep.performReadStatus : (Machine.performReadStatus r args s).InStep 1 := by
  unfold Machine.performReadStatus
  split
  · split
    · exact h.respond r _ _ _
    · exact h.refuse r _ _
  · exact h.refuse r _ _

theorem State.InStep.performReadPolicy : (Machine.performReadPolicy r args s).InStep 1 := by
  unfold Machine.performReadPolicy
  split
  · dsimp only
    split
    · exact h.respond r _ _ _
    · split
      · exact h.respond r _ _ _
      · exact h.refuse r _ _
  · exact h.refuse r _ _

theorem State.InStep.performReadSegment : (Machine.performReadSegment r args s).InStep 1 := by
  unfold Machine.performReadSegment
  split
  · split
    · exact h.respond r _ _ _
    · exact h.refuse r _ _
  · exact h.refuse r _ _

theorem State.InStep.performReadConsumer : (Machine.performReadConsumer r args s).InStep 1 := by
  unfold Machine.performReadConsumer
  split
  · split
    · exact h.respond r _ _ _
    · exact h.refuse r _ _
  · exact h.refuse r _ _

theorem State.InStep.performReadSums : (Machine.performReadSums r args s).InStep 1 := by
  unfold Machine.performReadSums
  split
  · split
    · exact h.refuse r _ _
    · split
      · exact h.refuse r _ _
      · exact h.respond r _ _ _
  · exact h.refuse r _ _

theorem State.InStep.performReadSchedule : (Machine.performReadSchedule r args s).InStep 1 := by
  unfold Machine.performReadSchedule
  split
  · split
    · exact h.respond r _ _ _
    · exact h.refuse r _ _
  · exact h.refuse r _ _

theorem State.InStep.performWritePolicy : (Machine.performWritePolicy r args s).InStep 1 := by
  unfold Machine.performWritePolicy
  split
  · split
    · rename_i p hp
      have hstored : State.InStep 1 { s with management.shadow := clampPolicy p, management.policyPending := true } :=
        { h with shadow := clampPolicy_inRange hp }
      exact hstored.afterTableWrite.respond r _ _ _
    · exact h.refuse r _ _
  · exact h.refuse r _ _

theorem State.InStep.performWriteSegment : (Machine.performWriteSegment r args s).InStep 1 := by
  unfold Machine.performWriteSegment
  split
  · dsimp only
    split
    · exact h.refuse r _ _
    · exact State.InStep.respond (State.InStep.afterTableWrite (h.keeps (.of_eq (by rfl)))) r _ _ _
  · exact h.refuse r _ _

/-- A written record is UNVERIFIED, and what query it had in the queue is out of it (R17, R133). -/
theorem State.InStep.storeConsumer {i : Nat} (w : ConsumerWrite) (hi : s.engaged i = false) :
    (Machine.storeConsumer i w s).InStep 1 := by
  have hrecord := fun j => record_storeConsumer i j w s
  have hright := storeConsumer_scheduleRight w hi h.schedule
  obtain ⟨map, sums, event, notices, lost, e⟩ := storeConsumer_fields i w s
  rw [e] at hrecord hright ⊢
  refine h.dequeue (fun j hj => (hrecord j).trans (if_neg fun hji => hj hji.1.symm)) ?_ rfl rfl rfl rfl hright
  rw [State.queued, hrecord]
  split
  · rw [Option.any_some, Consumer.queued, writtenRecord_state]
    rfl
  · rename_i hout
    rw [s.record_of_length_le (by omega)]
    rfl

theorem State.InStep.vacate {i : Nat} (c : Consumer) (hi : s.engaged i = false) :
    (Machine.vacate i c s).InStep 1 := by
  have hrecord := fun j => record_vacate i j c s
  have hright := vacate_scheduleRight c hi h.schedule
  obtain ⟨map, sums, event, notices, lost, e⟩ := vacate_fields i c s
  rw [e] at hrecord hright ⊢
  refine h.dequeue (fun j hj => (hrecord j).trans (if_neg fun hji => hj hji.1.symm)) ?_ rfl rfl rfl rfl hright
  rw [State.queued, hrecord]
  split
  · rfl
  · rename_i hout
    rw [s.record_of_length_le (by omega)]
    rfl

theorem State.InStep.performWriteConsumer : (Machine.performWriteConsumer r args s).InStep 1 := by
  unfold Machine.performWriteConsumer
  split
  · split
    · exact h.refuse r _ _
    · split
      · exact h.refuse r _ _
      · rename_i hengaged
        split
        · exact h.refuse r _ _
        · split
          · exact h.refuse r _ _
          · exact (h.storeConsumer _ (by simpa using hengaged)).respond r _ _ _
  · exact h.refuse r _ _

theorem State.InStep.performClearConsumer : (Machine.performClearConsumer r args s).InStep 1 := by
  unfold Machine.performClearConsumer
  split
  · split
    · exact h.refuse r _ _
    · split
      · exact h.refuse r _ _
      · rename_i hengaged
        split
        · exact (h.vacate _ (by simpa using hengaged)).respond r _ _ _
        · exact h.respond r _ _ _
  · exact h.refuse r _ _

omit h in
theorem storeLock_keepsExchanges (i : Nat) (lock : Bool) (s : State) : s.KeepsExchanges (storeLock i lock s) := by
  have hlocked : s.KeepsExchanges (s.modifyRecord i fun r => { r with lock := lock }) :=
    modifyRecord_keepsExchanges fun _ _ => ⟨rfl, rfl⟩
  unfold storeLock
  dsimp only
  split
  · have hunmarked (t : State) : t.KeepsExchanges (dropRescueMark i t) :=
      modifyRecord_keepsExchanges (f := fun r => { r with rescue := none }) fun _ _ => ⟨rfl, rfl⟩
    exact (hlocked.trans (hunmarked _)).trans (delist_keepsExchanges i _)
  · exact hlocked

theorem State.InStep.performSetLock : (Machine.performSetLock r args s).InStep 1 := by
  unfold Machine.performSetLock
  split
  · split
    · exact h.refuse r _ _
    · split
      · exact h.refuse r _ _
      · exact h.refuse r _ _
      · exact (h.keeps (storeLock_keepsExchanges _ _ s)).respond r _ _ _
  · exact h.refuse r _ _

theorem State.InStep.unfault {i : Nat} (hi : s.isFaulted i = true) : (Machine.unfault i s).InStep 1 := by
  refine State.InStep.keeps (h.change fun c hc => ?_) (insertByHandOver_keepsExchanges i _)
  obtain ⟨reason, hfaulted⟩ := isFaulted_spec hi hc
  rw [Consumer.pose, Consumer.pose, Consumer.queued, Consumer.queued, hfaulted]
  exact ⟨rfl, rfl⟩

theorem State.InStep.performClearFault : (Machine.performClearFault r args s).InStep 1 := by
  unfold Machine.performClearFault
  split
  · split
    · exact h.refuse r _ _
    · split
      · rename_i hfaulted
        exact (h.unfault hfaulted).respond r _ _ _
      · exact h.refuse r _ _
  · exact h.refuse r _ _

theorem State.InStep.performManualMove : (Machine.performManualMove r args s).InStep 1 := by
  unfold Machine.performManualMove
  split
  · split
    · exact h.refuse r _ _
    · split
      · exact h.refuse r _ _
      · rename_i c hc
        split
        · exact h.refuse r _ _
        · rename_i hsettled
          split
          · exact h.refuse r _ _
          · split
            · exact h.refuse r _ _
            · split
              · exact h.refuse r _ _
              · rename_i hroom
                simp only [Bool.or_eq_true, not_or, Bool.not_eq_true, Bool.not_eq_false'] at hroom
                exact (h.makeEntry _ hc (by simpa using hsettled) hroom.2).respond r _ _ _
  · exact h.refuse r _ _

theorem State.InStep.performCancelMoves : (Machine.performCancelMoves r args s).InStep 1 := by
  unfold Machine.performCancelMoves
  split
  · exact (h.withdrawals _ _).respond r _ _ _
  · exact h.refuse r _ _

theorem State.InStep.performBalancerControl : (Machine.performBalancerControl r args s).InStep 1 := by
  have hset (b : BalancerState) : (setBalancer b s).InStep 1 := h.keeps (.of_eq rfl)
  have hstarted : (controlStart s).InStep 1 := by
    unfold controlStart
    split
    · exact hset _
    · exact hset _
    · exact h
    · exact h
  unfold Machine.performBalancerControl
  split
  · split
    · exact hstarted.respond r _ _ _
    · split
      · split
        · exact h.refuse r _ _
        · exact (hset _).respond r _ _ _
      · split
        · exact (hset _).respond r _ _ _
        · exact h.refuse r _ _
  · exact h.refuse r _ _

theorem State.InStep.performRestart : (Machine.performRestart r args s).InStep 1 := by
  unfold Machine.performRestart
  split
  · exact h.keeps (.of_eq rfl)
  · exact h.refuse r _ _

theorem State.InStep.perform : (Machine.perform r s).InStep 1 := by
  unfold Machine.perform
  split
  · exact h
  · split
    · exact h.performReadStatus r _
    · exact h.performReadPolicy r _
    · exact h.performWritePolicy r _
    · exact h.performReadSegment r _
    · exact h.performWriteSegment r _
    · exact h.performReadConsumer r _
    · exact h.performWriteConsumer r _
    · exact h.performClearConsumer r _
    · exact h.performReadSums r _
    · exact h.performSetLock r _
    · exact h.performClearFault r _
    · exact h.performManualMove r _
    · exact h.performCancelMoves r _
    · exact h.performBalancerControl r _
    · exact h.performReadSchedule r _
    · exact h.performRestart r _
    · exact h.refuse r _ _

theorem State.InStep.executeFirst : (Machine.executeFirst r s).InStep 1 :=
  State.InStep.perform (h.keeps (.of_eq (by rfl))) r

end Requests

theorem State.InStep.serve {s : State} (h : s.InStep 1) (fuel : Nat) : (Machine.serve fuel s).InStep 1 := by
  induction fuel generalizing s with
  | zero => exact h
  | succ fuel ih =>
    unfold Machine.serve
    split
    · exact ih (h.executeFirst _).finish
    · exact h

theorem State.InStep.finishServing {s : State} (h : s.InStep 1) : (Machine.finishServing s).InStep 1 := h.finish.serve _

theorem State.InStep.serveArrival {s : State} (h : s.InStep 1) : (Machine.serveArrival s).InStep 1 := by
  unfold Machine.serveArrival
  split
  · exact (h.executeFirst _).finish.serve _
  · exact h.finish

end Sys2Proof.Machine

namespace Sys2Proof.Machine

/-! ### Arrivals -/

theorem countBad_keepsExchanges (port : Port) (s : State) : s.KeepsExchanges (countBad port s) := by
  cases port with
  | upstream => exact .of_eq rfl
  | downstream => exact .of_eq rfl

theorem setReceiver_keepsExchanges (port : Port) (r : Receiver) (s : State) :
    s.KeepsExchanges (setReceiver port r s) := by
  cases port with
  | upstream => exact .of_eq rfl
  | downstream => exact .of_eq rfl

theorem enterRequests_keepsExchanges (f : Frame) (s : State) : s.KeepsExchanges (enterRequests f s) := by
  unfold enterRequests
  split
  · exact .of_eq rfl
  · exact .of_eq rfl

theorem passDown_keepsExchanges (f : Frame) (s : State) : s.KeepsExchanges (passDown f s) := by
  have hforwarded : s.KeepsExchanges (forwardDown f s) := by
    unfold forwardDown
    split
    · exact .of_eq rfl
    · exact .of_eq rfl
  have hblocked (i : Nat) : s.KeepsExchanges (blockForeign i f s) :=
    State.KeepsExchanges.trans (t := countForeign s) (.of_eq rfl) (raiseNotice_keepsExchanges _ _ _)
  unfold passDown
  split
  · split
    · exact hblocked _
    · exact hforwarded
  · exact hforwarded

section Frames
variable {low : Nat} {s : State} (h : s.InStep low)
include h

theorem State.InStep.staleFrame : (Machine.staleFrame s).InStep low := h.keeps (.of_eq rfl)

theorem State.InStep.takeTransferAnswer (src tag : Byte) (payload : List Byte) :
    (Machine.takeTransferAnswer src tag payload s).InStep low := by
  unfold Machine.takeTransferAnswer
  split
  · split
    · rename_i e he
      obtain ⟨hmem, hi, -⟩ := matchedEntry_spec he
      split
      · exact h.staleFrame
      · split
        · rw [← hi]
          exact h.acceptEntry hmem
        · split
          · exact h.refuseEntry hmem _
          · exact h.staleFrame
    · exact h.staleFrame
  · exact h.staleFrame

theorem State.InStep.takeLateReport (i : Nat) (tag phaseNow : Byte) :
    (Machine.takeLateReport i tag phaseNow s).InStep low := by
  unfold Machine.takeLateReport
  split
  · rename_i r hr
    split
    · rename_i q hq
      have hstill : s.Still i := still_of_query (q := q) (by rw [hr, Option.bind_some, hq]; rfl)
      split
      · split
        · exact h.settleByLateReport hstill _
        · exact h.faultByFrame hstill _ _
      · exact h.staleFrame
    · exact h.staleFrame
  · exact h.staleFrame

theorem State.InStep.takeTransferReport (src tag : Byte) (payload : List Byte) :
    (Machine.takeTransferReport src tag payload s).InStep low := by
  unfold Machine.takeTransferReport
  split
  · split
    · exact h.staleFrame
    · split
      · rename_i e he
        obtain ⟨hmem, -, -⟩ := matchedEntry_spec he
        split
        · exact h.staleFrame
        · split
          · exact h.reportSettled hmem _ _ _
          · exact h.reportFaulted hmem
      · exact h.takeLateReport _ _ _
  · exact h.staleFrame

theorem State.InStep.takePhaseAnswer (src tag : Byte) (payload : List Byte) :
    (Machine.takePhaseAnswer src tag payload s).InStep low := by
  unfold Machine.takePhaseAnswer
  split
  · split
    · exact h.staleFrame
    · split
      · rename_i hq
        have hstill := still_of_query hq
        split
        · split
          · exact h.settleByAnswer hstill _
          · exact h.faultByFrame hstill _ _
        · exact h.staleFrame
      · exact h.staleFrame
  · exact h.staleFrame

theorem State.InStep.classifyDown (f : Frame) : (Machine.classifyDown f s).InStep low := by
  have htaken : (takeOwn f s).InStep low := by
    unfold takeOwn
    split
    · exact h.takeTransferAnswer _ _ _
    · split
      · exact h.takeTransferReport _ _ _
      · split
        · exact h.takePhaseAnswer _ _ _
        · exact h.keeps (.of_eq rfl)
  have hpassed : (passUp f s).InStep low := by
    unfold passUp
    split
    · split
      · exact h.takeReading _ f _ _
      · exact h.keeps (forwardUp_keepsExchanges f s)
    · exact h.keeps (forwardUp_keepsExchanges f s)
  unfold Machine.classifyDown
  split
  · exact h.keeps (countBad_keepsExchanges .downstream s)
  · split
    · exact htaken
    · exact hpassed

end Frames

section Ports
variable {s : State} (h : s.InStep 1)
include h

theorem State.InStep.arriveUpstream (f : Frame) : (Machine.arriveUpstream f s).InStep 1 := by
  unfold Machine.arriveUpstream
  split
  · exact (h.keeps (countBad_keepsExchanges .upstream s)).finish
  · split
    · split
      · exact (h.keeps (enterRequests_keepsExchanges f s)).serveArrival
      · exact State.InStep.finish (h.keeps (.of_eq rfl))
    · exact (h.keeps (passDown_keepsExchanges f s)).finish

theorem State.InStep.arrive (port : Port) (f : Frame) : (Machine.arrive port f s).InStep 1 := by
  cases port with
  | upstream => exact h.arriveUpstream f
  | downstream => exact (h.classifyDown f).finish

theorem State.InStep.frameComes (port : Port) (f : Frame) : (Machine.frameComes port f s).InStep 1 :=
  State.InStep.arrive (h.keeps (setReceiver_keepsExchanges port .hunting s)) port f

theorem State.InStep.loseFrame (port : Port) : (Machine.loseFrame port s).InStep 1 :=
  State.InStep.finish ((h.keeps (setReceiver_keepsExchanges port .hunting s)).keeps (countBad_keepsExchanges port _))

theorem State.InStep.abandon (port : Port) : (Machine.abandon port s).InStep 1 := by
  unfold Machine.abandon
  split
  · exact h.loseFrame port
  · exact h

theorem State.InStep.takeCharacter (port : Port) (char : Byte) (framingError : Bool) :
    (Machine.takeCharacter port char framingError s).InStep 1 := by
  have hreceived (r : Receiver) : (setReceiver port r s).InStep 1 := h.keeps (setReceiver_keepsExchanges port r s)
  unfold Machine.takeCharacter
  dsimp only
  split
  · exact (hreceived _).finish
  · exact ((hreceived _).keeps (countBad_keepsExchanges port _)).finish
  · exact (hreceived _).arrive port _

/-! ### Ends of transmissions -/

theorem State.InStep.orderEnds : (Machine.orderEnds s).InStep 1 := by
  unfold Machine.orderEnds
  split
  · exact (State.InStep.orderSent (h.keeps (t := endDown s) (.of_eq rfl))).finish
  · exact h

theorem State.InStep.queryEnds : (Machine.queryEnds s).InStep 1 := by
  unfold Machine.queryEnds
  split
  · exact (State.InStep.querySent (h.keeps (t := endDown s) (.of_eq rfl)) _).finish
  · exact h

theorem State.InStep.transmissionEnds (port : Port) : (Machine.transmissionEnds port s).InStep 1 := by
  unfold Machine.transmissionEnds
  split
  · split
    · split
      · exact State.InStep.finish (h.keeps (.of_eq rfl))
      · exact h
    · exact h
  · split
    · split
      · exact State.InStep.finishServing (h.keeps (.of_eq rfl))
      · exact h
    · exact h

theorem State.InStep.responseEnds (straps : Straps) : (Machine.responseEnds straps s).InStep 1 := by
  unfold Machine.responseEnds
  split
  · split
    · exact State.InStep.finish (h.startWith _ straps)
    · exact State.InStep.finishServing (h.keeps (.of_eq rfl))
  · exact h

/-! ### Every command and every step -/

theorem State.InStep.whileRunning {event : State → State} (hevent : (event s).InStep 1) :
    (Machine.whileRunning event s).InStep 1 := by
  unfold Machine.whileRunning
  split
  · exact hevent
  · exact h

/-- Every command keeps the exchanges. -/
theorem State.InStep.execState (c : Instr) : (Machine.execState c s).InStep 1 := by
  have event {body : State → State} (hbody : (body s).InStep 1) :
      (Machine.whileRunning (fun s => Machine.finish (body s)) s).InStep 1 := h.whileRunning hbody.finish
  have beside {body : State → State} (hbody : s.StandsAside (body s)) :
      (Machine.whileRunning (fun s => Machine.finish (body s)) s).InStep 1 := event (h.keeps (.of_aside hbody))
  have frame (port : Port) (f : Frame) : (Machine.whileRunning (Machine.frameComes port f) s).InStep 1 :=
    h.whileRunning (h.frameComes port f)
  have request (src tag : Byte) (payload : List Byte) :
      (Machine.whileRunning (requestArrives src tag payload) s).InStep 1 := h.whileRunning (h.frameComes _ _)
  cases c with
  | resetLineLow => exact h.keeps (.of_eq rfl)
  | supplyBelowThreshold => exact h.keeps (.of_eq rfl)
  | start straps =>
    change State.InStep 1 (match s.hold with
      | some sources => Machine.finish (Machine.startWith sources straps s)
      | none => s)
    split
    · exact State.InStep.finish (h.startWith _ straps)
    · exact h
  | zeroCrossingEdge line elapsed sag =>
    exact event (body := fun s => Machine.edge line (setSagLines sag (Machine.advance elapsed s)))
      (((h.advance elapsed).keeps (.of_aside (setSagLines_aside sag _))).edge line)
  | syntheticCycleEnd => exact h.whileRunning h.lateLimitEvent
  | flywheelLimitReached =>
    exact beside (body := fun s => noticeTimebase s.lockState (unsyncAtLimit s))
      ((unsyncAtLimit_aside s).trans (noticeTimebase_aside _ _))
  | failover =>
    exact beside (body := fun s => noticeTimebase s.lockState (failoverIfDue s))
      ((failoverIfDue_aside s).trans (noticeTimebase_aside _ _))
  | cycleMarkDue => exact event (h.keeps (markIfDue_keepsExchanges s))
  | sagSample sag =>
    exact h.whileRunning (event := fun s => Machine.sampleStep (setSagLines sag s))
      (h.keeps (.of_aside (setSagLines_aside sag s))).sampleStep
  | filteredSagLevelChange p =>
    exact beside (body := fun s => dropChoice (filteredLevelChange p s))
      ((filteredLevelChange_aside p s).trans (dropChoice_aside _))
  | crossingPresenceChange p =>
    exact beside (body := fun s => dropChoice (presenceChange p s))
      ((presenceChange_aside p s).trans (dropChoice_aside _))
  | sagDelay p =>
    exact beside (body := fun s => dropChoice (sagDelayReached p s))
      ((sagDelayReached_aside p s).trans (dropChoice_aside _))
  | holdComplete p =>
    exact beside (body := fun s => dropChoice (holdReached p s)) ((holdReached_aside p s).trans (dropChoice_aside _))
  | windowClose => exact event (h.keeps (closeIfDue_keepsExchanges s))
  | foldOfRecord => exact event h.foldStep
  | foldCompletion => exact event h.completeIfPast
  | budgetPeriodEnd => exact event (h.keeps (budgetIfDue_keepsExchanges s))
  | passTrigger => exact event h.triggerIfDue
  | search => exact event (h.keeps (searchStep_keepsExchanges s))
  | passCompletion => exact event h.completionStep
  | orderTransmissionEnd => exact h.whileRunning h.orderEnds
  | withdrawal => exact event (body := withdrawTooNear) (h.withdrawals reasonWithdrawn _)
  | replyDeadline => exact event h.replyDeadlines
  | reportDeadline => exact event h.reportDeadlines
  | latestExecuteCycleExpiry => exact event h.expireLatest
  | queryTransmissionEnd => exact h.whileRunning h.queryEnds
  | queryDeadline => exact event h.queryDeadlines
  | loadReading | transferAnswer | transferReport | phaseAnswer | foreignOrder | upstreamFrameArrival
  | downstreamFrameArrival => exact frame _ _
  | frameDropped port => exact h.whileRunning (h.loseFrame port)
  | receptionAbandoned port => exact h.whileRunning (h.abandon port)
  | transmissionEnd port => exact h.whileRunning (h.transmissionEnds port)
  | responseTransmissionEnd straps => exact h.whileRunning (h.responseEnds straps)
  | characterReceived port char framingError => exact h.whileRunning (h.takeCharacter port char framingError)
  | managementRequest | readStatus | readPolicy | writePolicy | readSegment | writeSegment | readConsumer
  | writeConsumer | clearConsumer | readSums | setLock | clearFault | manualMove | cancelMoves | balancerControlStart
  | balancerControlHold | balancerControlStop | readSchedule | restart | unknownKind | balancerControlOtherAction =>
    exact request _ _ _

/-- Every step keeps the exchanges. -/
theorem State.InStep.step {t : State} (hstep : Machine.step s = .next t) : t.InStep 1 := by
  unfold Machine.step at hstep
  split at hstep
  · rw [exec_eq_next] at hstep
    cases hstep
    exact State.InStep.execState (h.keeps (.of_eq (by rfl))) _
  · cases hstep
    exact h.whileRunning (h.advance 1)

end Ports

/-- Settles O56: the rules hold as `State.InStep` by `of_rights`, and `State.InStep.step` keeps them. -/
theorem exchangesAreKept : Obligations.ExchangesAreKept := by
  intro s t hbounded hschedule hqueries hlatest hstep
  have h := (State.InStep.of_rights hbounded.fits hschedule hqueries hlatest).step hstep
  exact ⟨h.schedule, h.queries, h.latestRight⟩

end Sys2Proof.Machine

namespace Sys2Proof.Machine

/-! ## Making an entry -/

/-- What an entry made for a record writes to the scheduler (R106, R108, R109). -/
theorem makeEntry_scheduler {i : Nat} {s : State} {r : Consumer} (hr : s.record i = some r) (o : Origin) (q : Phase) :
    (makeEntry o i q s).scheduler
      = { s.scheduler with
          schedule := s.scheduler.schedule ++ [s.newEntry o i r.assigned q]
          latestExecute := some (s.executeCycle o)
          tagCounter := nextTag s.scheduler.tagCounter } := by
  obtain ⟨l, sums, -, e⟩ := orderRecord_eq (s.newEntry o i r.assigned q) i s
  rw [makeEntry_eq hr, delist_scheduler, e]
  rfl

theorem makeEntry_list {i : Nat} {s : State} {r : Consumer} (hr : s.record i = some r) (o : Origin) (q : Phase) :
    (makeEntry o i q s).rescue.list = s.rescue.list.filter fun j => j != i := by
  obtain ⟨l, sums, -, e⟩ := orderRecord_eq (s.newEntry o i r.assigned q) i s
  obtain ⟨event, notices, lost, e'⟩ := delist_eq i (orderRecord (s.newEntry o i r.assigned q) i s)
  rw [makeEntry_eq hr, e', e]

/-- Settles O29: the execute cycle by `aheadBy_lead` and `aheadBy_executeCycle`, what making an entry sets by what it
makes of each part of the state. -/
theorem makingAnEntry : Obligations.MakingAnEntry := by
  refine ⟨fun o s hnone hp => ?_, fun o x s hx _ hreach hp => ?_, fun o i r q s hr _ => ?_⟩
  · rw [executeCycle_first hnone, aheadBy_lead hp]
  · rw [aheadBy_executeCycle hp o hx hreach]
    cases o <;> rfl
  · refine ⟨makeEntry_scheduler hr o q, ?_, fun j hj => ?_, fun j => ?_,
      (makeEntry_keeps o i q s).management, makeEntry_timebase o i q s, fun _ hsums htree hlength => ?_⟩
    · rw [record_makeEntry, if_pos rfl, hr, Option.map_some]
    · rw [record_makeEntry, if_neg (Ne.symm hj)]
    · rw [makeEntry_list hr, List.mem_filter, bne_iff_ne]
    · exact (State.Summed.makeEntry ⟨htree, hlength, hsums⟩ o q).right

end Sys2Proof.Machine

namespace Sys2Proof.Machine

/-! ## A rescue draw -/

/-- Among phases in rising order, the one of lowest load, and lowest where others share it, is the lowest. -/
theorem lowestPhase_eq (load : Phase → Int) {l : List Phase} {q : Phase}
    (hrising : l.Pairwise fun x y => (phaseCode x).toNat < (phaseCode y).toNat) (hq : q ∈ l)
    (hlow : ∀ x ∈ l, load q ≤ load x ∧ (load q = load x → (phaseCode q).toNat ≤ (phaseCode x).toNat)) :
    lowestPhase load l = some q := by
  induction l with
  | nil => cases hq
  | cons a rest ih =>
    obtain ⟨hfirst, hrising⟩ := List.pairwise_cons.mp hrising
    unfold lowestPhase
    rcases List.mem_cons.mp hq with rfl | hq
    · cases hbest : lowestPhase load rest with
      | none => rfl
      | some best =>
        obtain ⟨hle, -⟩ := hlow best (List.mem_cons_of_mem _ (lowestPhase_mem hbest))
        exact if_neg hle.not_gt
    · rw [ih hrising hq fun x hx => hlow x (List.mem_cons_of_mem _ hx)]
      obtain ⟨hle, hshared⟩ := hlow a List.mem_cons_self
      refine if_pos (lt_of_le_of_ne hle fun heq => ?_)
      exact absurd (hfirst q hq) (hshared heq).not_gt

/-- A record on a LOST phase is drawn to its HEALTHY allowed phases (R151). -/
theorem mem_drawTargets {s : State} {r : Consumer} (hlost : s.isLost r.assigned = true) (q : Phase) :
    q ∈ s.drawTargets r ↔ r.allowed.get q = true ∧ s.healthy q = true := by
  have hother : s.healthy q = true → q ≠ r.assigned := by
    rintro hhealthy rfl
    rw [State.healthy, beq_iff_eq] at hhealthy
    rw [State.isLost, hhealthy] at hlost
    cases hlost
  have hall : q ∈ Phase.all := by cases q <;> decide
  simp only [State.drawTargets, List.mem_filter, hall, Bool.and_eq_true, bne_iff_ne, true_and]
  exact ⟨And.left, fun h => ⟨h, hother h.2⟩⟩

theorem drawTargets_rising (s : State) (r : Consumer) :
    (s.drawTargets r).Pairwise fun x y => (phaseCode x).toNat < (phaseCode y).toNat :=
  List.Pairwise.sublist List.filter_sublist (by decide : Phase.all.Pairwise _)

theorem drawTarget_nil {s : State} {r : Consumer} (h : s.drawTargets r = []) : s.drawTarget r = none := by
  unfold State.drawTarget
  rw [h]
  split <;> rfl

/-- Settles O17: the target by `lowestPhase_eq`, and the entry made for the record once it has left the list. -/
theorem drawTakesTheLowestSum : Obligations.DrawTakesTheLowestSum := by
  intro i r s hr hlost
  refine ⟨fun hnone => ?_, fun hvalid q hallowed hhealthy hlow => ?_⟩
  · have htargets : s.drawTargets r = [] := List.eq_nil_iff_forall_not_mem.mpr fun q hq => by
      obtain ⟨hallowed, hhealthy⟩ := (mem_drawTargets hlost q).mp hq
      rw [hnone q hallowed] at hhealthy
      cases hhealthy
    simp only [draw, hr, drawTarget_nil htargets]
    rfl
  · have htarget : s.drawTarget r = some q := by
      rw [State.drawTarget, if_pos hvalid]
      refine lowestPhase_eq _ (drawTargets_rising s r) ((mem_drawTargets hlost q).mpr ⟨hallowed, hhealthy⟩)
        fun x hx => ?_
      obtain ⟨hallowed, hhealthy⟩ := (mem_drawTargets hlost x).mp hx
      exact hlow x hallowed hhealthy
    have hrecord := fun j => record_modifyRecord (unlist i s) i j fun r =>
      { r with rescue := raiseAttempts r.assigned r.rescue }
    have hdraw : draw i s = makeEntry .rescue i q
        ((unlist i s).modifyRecord i fun r => { r with rescue := raiseAttempts r.assigned r.rescue }) := by
      simp only [draw, hr, htarget]
    obtain ⟨l, -, e⟩ := modifyRecord_eq i (fun r => { r with rescue := raiseAttempts r.assigned r.rescue }) (unlist i s)
    rw [hdraw]
    rw [e] at hrecord ⊢
    have hdrawn := hrecord i
    rw [if_pos rfl, show (unlist i s).record i = some r from hr, Option.map_some] at hdrawn
    refine ⟨?_, ?_, ?_, fun j hj => ?_⟩
    · rw [makeEntry_scheduler hdrawn]
      rfl
    · rw [makeEntry_list hdrawn, unlist, List.filter_filter]
      simp only [Bool.and_self]
    · rw [record_makeEntry, if_pos rfl, hdrawn, Option.map_some]
      cases r.rescue <;> rfl
    · rw [record_makeEntry, if_neg (Ne.symm hj), hrecord, if_neg (Ne.symm hj)]
      rfl

end Sys2Proof.Machine

namespace Sys2Proof.Machine

/-! ## The tag counter -/

theorem tag_pos {t : Byte} (ht : t ≠ 0) : 0 < t.toNat :=
  Nat.pos_of_ne_zero fun h => ht (BitVec.eq_of_toNat_eq h)

theorem nextTag_toNat {t : Byte} (ht : t ≠ 0) : (nextTag t).toNat = t.toNat % 255 + 1 := by
  have hpos := tag_pos ht
  unfold nextTag
  split
  · rename_i hlast
    rw [hlast]
    rfl
  · rename_i hlast
    have hne : t.toNat ≠ 255 := fun h => hlast (BitVec.eq_of_toNat_eq h)
    rw [BitVec.toNat_add, show (1 : Byte).toNat = 1 from rfl]
    omega

/-- The tag given after some others: 1 to 255 and round again (R108). -/
theorem nextTag_iterate {t : Byte} (ht : t ≠ 0) (n : Nat) :
    (nextTag^[n] t).toNat = (t.toNat - 1 + n) % 255 + 1 ∧ nextTag^[n] t ≠ 0 := by
  have hpos := tag_pos ht
  induction n with
  | zero => exact ⟨by rw [Function.iterate_zero_apply]; omega, ht⟩
  | succ n ih =>
    obtain ⟨hvalue, hne⟩ := ih
    rw [Function.iterate_succ_apply']
    refine ⟨?_, nextTag_ne_zero _⟩
    rw [nextTag_toNat hne, hvalue]
    omega

/-- Settles O30: the period by `nextTag_iterate`, the rest by what the model's functions say. -/
theorem tagsComeRound : Obligations.TagsComeRound := by
  refine ⟨fun _ _ _ _ _ => ⟨rfl, rfl⟩, fun _ _ => ⟨rfl, rfl⟩, fun _ _ _ _ => matchedEntry_spec,
    fun t _ => ⟨nextTag_ne_zero t, rfl⟩, fun t ht => ⟨?_, fun n hpos hlt heq => ?_⟩⟩
  · obtain ⟨hvalue, -⟩ := nextTag_iterate ht 255
    refine BitVec.eq_of_toNat_eq ?_
    have hpos := tag_pos ht
    omega
  · obtain ⟨hvalue, -⟩ := nextTag_iterate ht n
    rw [heq] at hvalue
    omega

end Sys2Proof.Machine

namespace Sys2Proof.Machine

/-! ## Stale frames -/

/-- An answer is stale unless an entry that takes answers matches it and its fields are defined (R116, R117). -/
theorem takeTransferAnswer_stale {s : State} {src tag verdict reason : Byte}
    (h : ∀ i e, s.mapped src = some i → s.matchedEntry i tag = some e → e.stage.takesAnswer = true →
      verdict ≠ 1 ∧ ¬ (verdict = 2 ∧ 1 ≤ reason.toNat ∧ reason.toNat ≤ 4)) :
    takeTransferAnswer src tag [verdict, reason] s = staleFrame s := by
  unfold takeTransferAnswer
  cases hmapped : s.mapped src with
  | none => rfl
  | some i =>
    dsimp only
    split
    · rename_i e hmatch
      split
      · rfl
      · rename_i htakes
        obtain ⟨haccepted, hrefused⟩ := h i e hmapped hmatch (by simpa using htakes)
        rw [if_neg haccepted, if_neg (by simpa using hrefused)]
    · rfl

theorem not_reportDefined {outcome reason phaseNow : Byte}
    (h : 3 < phaseNow.toNat ∨ outcome ≠ 1 ∧ ¬ (outcome = 2 ∧ 1 ≤ reason.toNat ∧ reason.toNat ≤ 4)) :
    reportDefined outcome reason phaseNow = false := by
  rw [← Bool.not_eq_true, reportDefined]
  simp only [Bool.and_eq_true, Bool.or_eq_true, decide_eq_true_eq, beq_iff_eq]
  rintro ⟨hphase, hdefined⟩
  rcases h with h | ⟨hdone, haborted⟩
  · omega
  · exact hdefined.elim hdone haborted

/-- A report without an entry is stale unless its record is QUERYING with its tag as the last (R124). -/
theorem takeLateReport_stale {s : State} {i : Nat} {tag phaseNow : Byte}
    (h : ∀ r q, s.record i = some r → r.state = .querying q → r.lastTag ≠ some tag) :
    takeLateReport i tag phaseNow s = staleFrame s := by
  unfold takeLateReport
  split
  · rename_i r hr
    split
    · rename_i q hq
      exact if_neg (h r q hr hq)
    · rfl
  · rfl

/-- A report with defined fields is stale at an entry that takes none, and without one as a late report (R116, R120). -/
theorem takeTransferReport_stale {s : State} {src tag outcome reason phaseNow : Byte}
    (hentry : ∀ i e, s.mapped src = some i → reportDefined outcome reason phaseNow = true →
      s.matchedEntry i tag = some e → e.stage.takesReport = false)
    (hlate : ∀ i, s.mapped src = some i → reportDefined outcome reason phaseNow = true → s.matchedEntry i tag = none →
      ∀ r q, s.record i = some r → r.state = .querying q → r.lastTag ≠ some tag) :
    takeTransferReport src tag [outcome, reason, phaseNow] s = staleFrame s := by
  unfold takeTransferReport
  cases hmapped : s.mapped src with
  | none => rfl
  | some i =>
    dsimp only
    split
    · rfl
    · rename_i hdefined
      have hdefined : reportDefined outcome reason phaseNow = true := by simpa using hdefined
      split
      · rename_i e hmatch
        rw [hentry i e hmapped hdefined hmatch]
        rfl
      · rename_i hmatch
        exact takeLateReport_stale (hlate i hmapped hdefined hmatch)

/-- An answer to a query is stale unless its record was asked with its tag and its fields are defined (R138). -/
theorem takePhaseAnswer_stale {s : State} {src tag phaseNow supply : Byte}
    (h : ∀ i r q left, s.mapped src = some i → phaseNow.toNat ≤ 3 → supply.toNat ≤ 1 → s.record i = some r →
      r.state.query = some q → q.stage ≠ .asked tag left) :
    takePhaseAnswer src tag [phaseNow, supply] s = staleFrame s := by
  unfold takePhaseAnswer
  cases hmapped : s.mapped src with
  | none => rfl
  | some i =>
    dsimp only
    split
    · rfl
    · rename_i hdefined
      simp only [Bool.or_eq_true, decide_eq_true_eq, not_or, Nat.not_lt] at hdefined
      split
      · rename_i asked left tries hquery
        obtain ⟨r, hr, hq⟩ := Option.bind_eq_some_iff.mp hquery
        refine if_neg fun htag => ?_
        exact h i r _ left hmapped hdefined.1 hdefined.2 hr hq (by rw [htag])
      · rfl

section
variable {s : State} (h : s.hold = none)
include h

theorem exec_staleAnswer {src tag verdict reason : Byte}
    (hstale : takeTransferAnswer src tag [verdict, reason] s.heardDown = staleFrame s.heardDown) :
    exec (.transferAnswer src tag verdict reason) s = .next (finish (staleFrame s.heardDown)) := by
  rw [exec_transferAnswer h, hstale]

theorem exec_staleReport {src tag outcome reason phaseNow : Byte}
    (hstale : takeTransferReport src tag [outcome, reason, phaseNow] s.heardDown = staleFrame s.heardDown) :
    exec (.transferReport src tag outcome reason phaseNow) s = .next (finish (staleFrame s.heardDown)) := by
  rw [exec_transferReport h, hstale]

theorem exec_stalePhaseAnswer {src tag phaseNow supply : Byte}
    (hstale : takePhaseAnswer src tag [phaseNow, supply] s.heardDown = staleFrame s.heardDown) :
    exec (.phaseAnswer src tag phaseNow supply) s = .next (finish (staleFrame s.heardDown)) := by
  rw [exec_phaseAnswer h, hstale]

end

/-- Settles O35: each clause denies what its frame would need to be taken. -/
theorem staleFrames : Obligations.StaleFrames := by
  intro src tag s hhold
  have hunmatched {i : Nat} (hunmapped : s.mapped src = none) : s.heardDown.mapped src ≠ some i :=
    ne_of_eq_of_ne hunmapped nofun
  have hindex {i j : Nat} (hi : s.mapped src = some i) (hj : s.heardDown.mapped src = some j) : j = i :=
    Option.some.inj (hj.symm.trans hi)
  refine ⟨fun hunmapped a b c => ⟨?_, ?_, ?_⟩, fun verdict reason haccepted hrefused => ?_,
    fun outcome reason phaseNow hundefined => ?_, fun i hmapped hright => ⟨fun hentries a b => ?_,
      fun e he hi htag hqueued a b c => ?_, fun hfree hlate a b c => ?_, fun a b hstale => ?_⟩⟩
  · exact exec_staleAnswer hhold (takeTransferAnswer_stale fun _ _ hj => absurd hj (hunmatched hunmapped))
  · exact exec_staleReport hhold (takeTransferReport_stale (fun _ _ hj => absurd hj (hunmatched hunmapped))
      fun _ hj => absurd hj (hunmatched hunmapped))
  · exact exec_stalePhaseAnswer hhold (takePhaseAnswer_stale fun _ _ _ _ hj => absurd hj (hunmatched hunmapped))
  · exact exec_staleAnswer hhold (takeTransferAnswer_stale fun _ _ _ _ _ => ⟨haccepted, hrefused⟩)
  · have hnot {p : Prop} (h : reportDefined outcome reason phaseNow = true) : p := by
      rw [not_reportDefined hundefined] at h
      cases h
    exact exec_staleReport hhold (takeTransferReport_stale (fun _ _ _ h => hnot h) fun _ _ h => hnot h)
  · refine exec_staleAnswer hhold (takeTransferAnswer_stale fun j e hj hmatch htakes => ?_)
    obtain ⟨he, hc, htag⟩ := matchedEntry_spec hmatch
    rcases hentries e he (hc.trans (hindex hmapped hj)) htag with hstage | ⟨b, hstage⟩
    · rw [hstage] at htakes
      cases htakes
    · rw [hstage] at htakes
      cases htakes
  · have hmatch : s.heardDown.matchedEntry i tag = some e := hi ▸ htag ▸ matchedEntry_eq (s := s.heardDown) hright he
    refine exec_staleReport hhold (takeTransferReport_stale (fun j x hj _ hx => ?_) fun j hj _ hx => ?_)
    · rw [hindex hmapped hj, hmatch] at hx
      cases hx
      obtain ⟨b, hstage⟩ := hqueued
      rw [hstage]
      rfl
    · rw [hindex hmapped hj, hmatch] at hx
      cases hx
  · have hmatch : s.heardDown.matchedEntry i tag = none := matchedEntry_none (s := s.heardDown) hfree
    refine exec_staleReport hhold (takeTransferReport_stale (fun j x hj _ hx => ?_) fun j hj _ _ r q hr hq => ?_)
    · rw [hindex hmapped hj, hmatch] at hx
      cases hx
    · rw [hindex hmapped hj] at hr
      exact hlate r q hr hq
  · refine exec_stalePhaseAnswer hhold (takePhaseAnswer_stale fun j r q left hj hphase hsupply hr hq => ?_)
    rcases hstale with hphase' | hsupply' | hstale
    · omega
    · omega
    · rw [hindex hmapped hj] at hr
      exact hstale r q left hr hq

end Sys2Proof.Machine

namespace Sys2Proof.Machine

/-! ## Ends of transmissions -/

section Ends
variable {s : State} (h : s.hold = none)
include h

theorem exec_orderTransmissionEnd : exec .orderTransmissionEnd s = .next (orderEnds s) :=
  congrArg Host.Outcome.next (whileRunning_running orderEnds s h)

theorem exec_queryTransmissionEnd : exec .queryTransmissionEnd s = .next (queryEnds s) :=
  congrArg Host.Outcome.next (whileRunning_running queryEnds s h)

theorem exec_transmissionEnd (port : Port) : exec (.transmissionEnd port) s = .next (transmissionEnds port s) :=
  congrArg Host.Outcome.next (whileRunning_running (transmissionEnds port) s h)

theorem exec_responseTransmissionEnd (straps : Straps) :
    exec (.responseTransmissionEnd straps) s = .next (responseEnds straps s) :=
  congrArg Host.Outcome.next (whileRunning_running (responseEnds straps) s h)

end Ends

/-! ### Orders and queries -/

theorem setStage_eq (i : Nat) (st : Stage) (s : State) :
    setStage i st s
      = { s with
          scheduler.schedule := s.scheduler.schedule.map fun x =>
            if x.consumer = i then { x with stage := st } else x } := by
  simp only [setStage, beq_iff_eq]

/-- The order in transmission has been sent (R113). -/
theorem orderSent_eq {s : State} {e : MoveEntry} {r : Consumer}
    (he : (s.scheduler.schedule.filter fun x => x.stage == .queued true) = [e]) (hr : s.record e.consumer = some r) :
    orderSent s
      = { s with
          scheduler.schedule := s.scheduler.schedule.map fun x =>
            if x.consumer = e.consumer then { x with stage := if ahead e.execute s.now then .sent else .unconfirmed }
            else x
          tables.consumers := s.tables.consumers.set e.consumer (some { r with lastTag := some e.tag }) } := by
  have hfound : (s.scheduler.schedule.find? fun x => x.stage == .queued true) = some e := by
    rw [← List.head?_filter, he]
    rfl
  have hset (st : Stage) : (setStage e.consumer st s).record e.consumer = some r := hr
  simp only [orderSent, hfound]
  rw [modifyRecord_some (hset _), setStage_eq]
  rfl

theorem setQueryStage_eq {stage : QueryStage} {r : Consumer} {q : Query} (hq : r.state.query = some q) :
    setQueryStage stage r = { r with state := r.state.withQuery ⟨stage, q.tries⟩ } := by
  simp only [setQueryStage, hq]

/-- The query in transmission has been sent (R135). -/
theorem querySent_eq {s : State} {i : Nat} {rest : List QueryEntry} {r : Consumer} {q : Query} (tag : Byte)
    (hhead : s.scheduler.queries = ⟨i, true⟩ :: rest) (hr : s.record i = some r) (hq : r.state.query = some q) :
    querySent tag s
      = { s with
          scheduler.queries := rest
          tables.consumers := s.tables.consumers.set i
            (some { r with state := r.state.withQuery ⟨.asked tag s.management.active.queryInterval, q.tries⟩ }) } := by
  have hmodified := modifyRecord_some (s := { s with scheduler.queries := rest }) hr
    (setQueryStage (.asked tag s.management.active.queryInterval))
  rw [setQueryStage_eq hq] at hmodified
  simp only [querySent, hhead]
  exact hmodified

theorem querySent_none {s : State} (tag : Byte)
    (h : ∀ e, s.scheduler.queries.head? = some e → e.inTransmission = false) : querySent tag s = s := by
  unfold querySent
  split
  · rename_i e rest hqueries
    rw [h e (by rw [hqueries]; rfl)]
    rfl
  · rfl

/-! ### The requests that an upstream end lets be executed -/

theorem serve_none {s : State} (h : s.executable = none) (n : Nat) : serve n s = s := by
  cases n with
  | zero => rfl
  | succ n => rw [serve, h]

/-- No request is executed while a restart is pending, without room for a response, or with none that waits (R185). -/
theorem executable_none {s : State}
    (h : s.management.restartPending = true ∨ 4 ≤ s.ports.responses.length ∨ s.management.requests = []) :
    s.executable = none := by
  unfold State.executable
  split
  · rename_i hopen
    obtain ⟨hpending, hroom⟩ := Bool.and_eq_true_iff.mp hopen
    rcases h with h | h | h
    · rw [h] at hpending
      cases hpending
    · exact absurd (of_decide_eq_true hroom) (Nat.not_lt.mpr h)
    · rw [h]
      rfl
  · rfl

theorem executable_some {s : State} {r : Request} (hpending : s.management.restartPending = false)
    (hroom : s.ports.responses.length < 4) (hrequests : s.management.requests = [r]) : s.executable = some r := by
  unfold State.executable
  rw [hpending, hrequests]
  exact if_pos (decide_eq_true hroom)

/-- The one request that waits is executed once its response has room, an event of its own (R185). -/
theorem finishServing_one {s : State} {r : Request} (hpending : s.management.restartPending = false)
    (hroom : (finish s).ports.responses.length < 4) (hrequests : s.management.requests = [r]) :
    finishServing s = finish (perform r { finish s with management.requests := [] }) := by
  have hmanagement := (finish_keeps s).management
  have hexecutable : (finish s).executable = some r :=
    executable_some (hmanagement ▸ hpending) hroom (hmanagement ▸ hrequests)
  have htail : (finish s).management.requests.tail = [] := by rw [hmanagement, hrequests]; rfl
  rw [finishServing, hrequests, List.length_singleton, serve, hexecutable]
  change finish (executeFirst r (finish s)) = _
  rw [executeFirst, htail]

theorem finishServing_none {s : State}
    (h : s.management.restartPending = true ∨ 4 ≤ (finish s).ports.responses.length ∨ s.management.requests = []) :
    finishServing s = finish s :=
  serve_none (executable_none (by rwa [(finish_keeps s).management])) _

/-- The upstream ends without a restart (R172, R176). -/
theorem exec_upstreamEnd {s : State} {c : Instr} {f : Frame} {source : Source} (h : s.hold = none)
    (hbusy : s.ports.up.transmitter = .busy source f)
    (hend : (source = .notice ∨ source = .forward) ∧ c = .transmissionEnd .upstream
      ∨ source = .response ∧ s.management.restartPending = false ∧ ∃ straps, c = .responseTransmissionEnd straps) :
    exec c s = .next (finishServing (endUp s)) := by
  rcases hend with ⟨hsource, rfl⟩ | ⟨rfl, hpending, straps, rfl⟩
  · rw [exec_transmissionEnd h]
    simp only [transmissionEnds, hbusy]
    rcases hsource with rfl | rfl
    · rfl
    · rfl
  · rw [exec_responseTransmissionEnd h]
    simp only [responseEnds, hbusy, hpending]
    rfl

/-- Settles O36: each end by what it hands over, the upstream ones by `finishServing_none` and `finishServing_one`. -/
theorem transmissionsEnd : Obligations.TransmissionsEnd := by
  intro s hhold
  refine ⟨fun f e r hbusy _ he hr => ?_, fun f e rest r q hbusy hhead hr hq => ?_, fun f hbusy hhead => ?_,
    fun f source hbusy hsource => ?_, fun f source hbusy hsource hnone => ?_, fun f straps hbusy hpending hnone => ?_,
    fun c f source hbusy hend => ⟨fun hstays => ?_, fun r hrequests hpending hroom => ?_⟩,
    fun hidle => ⟨?_, ?_, ?_⟩, fun hidle => ⟨?_, fun straps => ?_⟩⟩
  · rw [exec_orderTransmissionEnd hhold]
    simp only [orderEnds, hbusy]
    rw [orderSent_eq (s := endDown s) he hr]
    rfl
  · rw [exec_queryTransmissionEnd hhold]
    simp only [queryEnds, hbusy]
    rw [querySent_eq (s := endDown s) f.tag hhead hr hq]
    rfl
  · rw [exec_queryTransmissionEnd hhold]
    simp only [queryEnds, hbusy]
    rw [querySent_none (s := endDown s) f.tag hhead]
    rfl
  · rw [exec_transmissionEnd hhold]
    simp only [transmissionEnds, hbusy]
    rcases hsource with rfl | rfl
    · rfl
    · rfl
  · rw [exec_upstreamEnd hhold hbusy (.inl ⟨hsource, rfl⟩), finishServing_none (s := endUp s) (.inr (.inr hnone))]
    rfl
  · rw [exec_upstreamEnd hhold hbusy (.inr ⟨rfl, hpending, straps, rfl⟩),
      finishServing_none (s := endUp s) (.inr (.inr hnone))]
    rfl
  · rw [exec_upstreamEnd hhold hbusy hend, finishServing_none (s := endUp s) (hstays.imp_right .inl)]
    rfl
  · rw [exec_upstreamEnd hhold hbusy hend, finishServing_one (s := endUp s) hpending hroom hrequests]
    rfl
  · rw [exec_orderTransmissionEnd hhold, orderEnds, hidle]
  · rw [exec_queryTransmissionEnd hhold, queryEnds, hidle]
  · rw [exec_transmissionEnd hhold]
    simp only [transmissionEnds, hidle]
  · rw [exec_transmissionEnd hhold]
    simp only [transmissionEnds, hidle]
  · rw [exec_responseTransmissionEnd hhold, responseEnds, hidle]

end Sys2Proof.Machine

namespace Sys2Proof.Machine

/-! ## Entries that fail one after the other (R115, R123, R127) -/

/-- The fields of the MOVE FAILED notice of an entry that fails without a phase now (R129). -/
def State.failureFields (s : State) (point : FailurePoint) (reason : Byte) (e : MoveEntry) : List Byte :=
  [byte e.consumer, s.addressOf e.consumer, e.tag, e.origin.code, phaseCode e.fromPhase, phaseCode e.target,
    point.code, reason, 0]

/-- Some entries fail in turn, each with what it makes of its record. -/
def failEntries (point : FailurePoint) (reason : Byte) (f : MoveEntry → Consumer → Consumer) (l : List MoveEntry)
    (s : State) : State := l.foldl (fun s e => failEntry point reason (f e) e s) s

/-- What the failures leave: the entries gone from the schedule, their records changed, and their notices. -/
structure State.Fails (point : FailurePoint) (reason : Byte) (f : MoveEntry → Consumer → Consumer)
    (l : List MoveEntry) (s t : State) : Prop where
  scheduler : t.scheduler
    = { s.scheduler with schedule := s.scheduler.schedule.filter fun x => !namedBy l x.consumer }
  others : ∀ i, namedBy l i = false → t.record i = s.record i
  own : ∀ e ∈ l, (t.record e.consumer).map Consumer.bare = (s.record e.consumer).map fun r => (f e r).bare
  active : t.tables.active = s.tables.active
  timebase : t.timebase = s.timebase
  management : t.management = s.management
  summed : s.Summed → t.Summed
  notices : s.management.active.mask.getLsbD 2 = true → s.rescue.event = none →
    s.ports.notices.length + l.length ≤ 16 →
    t.rescue.event = none
      ∧ t.ports.notices.map Notice.fields = s.ports.notices.map Notice.fields ++ l.map (s.failureFields point reason)

theorem namedBy_singleton (e : MoveEntry) (i : Nat) : namedBy [e] i = (e.consumer == i) := by
  simp only [namedBy, List.any_cons, List.any_nil, Bool.or_false]

theorem namedBy_cons (e : MoveEntry) (l : List MoveEntry) (i : Nat) :
    namedBy (e :: l) i = (e.consumer == i || namedBy l i) := rfl

theorem namedBy_iff {l : List MoveEntry} {i : Nat} : namedBy l i = true ↔ ∃ e ∈ l, e.consumer = i := by
  simp only [namedBy, List.any_eq_true, beq_iff_eq]

/-- In a schedule that names no record twice, the records that some of its entries name are theirs alone (R102). -/
theorem namedBy_filter {s : State} (h : s.ScheduleRight) (p : MoveEntry → Bool) {x : MoveEntry}
    (hx : x ∈ s.scheduler.schedule) : namedBy (s.scheduler.schedule.filter p) x.consumer = p x := by
  rw [Bool.eq_iff_iff, namedBy_iff]
  constructor
  · rintro ⟨e, he, hconsumer⟩
    obtain ⟨hmem, hp⟩ := List.mem_filter.mp he
    rwa [h.eq_of_consumer hx hmem hconsumer] at hp
  · exact fun hp => ⟨x, List.mem_filter.mpr ⟨hx, hp⟩, rfl⟩

/-! ### One failure -/

section Failure
variable (point : FailurePoint) (reason : Byte) (f : MoveEntry → Consumer → Consumer) (e : MoveEntry) (s : State)

theorem failEntry_scheduler (g : Consumer → Consumer) :
    (failEntry point reason g e s).scheduler
      = { s.scheduler with schedule := s.scheduler.schedule.filter fun x => x.consumer != e.consumer } :=
  (handOverEnd_scheduler e _).trans ((raiseNotice_scheduler _ _ _).trans (closeEntry_schedule _ _ s))

theorem failEntry_notices {g : Consumer → Consumer} (hg : ∀ r, (g r).address = r.address)
    (hmask : s.management.active.mask.getLsbD 2 = true) (hevent : s.rescue.event = none)
    (hroom : s.ports.notices.length + 1 ≤ 16) :
    (failEntry point reason g e s).rescue.event = none
      ∧ (failEntry point reason g e s).ports.notices.map Notice.fields
        = s.ports.notices.map Notice.fields ++ [s.failureFields point reason e] := by
  have haddress : (closeEntry e.consumer g s).addressOf e.consumer = s.addressOf e.consumer := by
    rw [addressOf_eq, addressOf_eq, record_closeEntry, if_pos rfl, Option.map_map]
    exact congrArg (fun a => (Option.map a (s.record e.consumer)).getD 0) (funext hg)
  have hfails : failEntry point reason g e s
      = handOverEnd e (raiseNotice .moveFailed (s.failureFields point reason e) (closeEntry e.consumer g s)) := by
    rw [State.failureFields, ← haddress]
    rfl
  have hmanagement : (closeEntry e.consumer g s).management = s.management := (closeEntry_around ..).management
  have hports : (closeEntry e.consumer g s).ports = s.ports := closeEntry_ports ..
  obtain ⟨hqueued, -⟩ := raiseNotice_queued (k := .moveFailed) (s := closeEntry e.consumer g s)
    (s.failureFields point reason e) (by rw [hmanagement]; exact hmask) (by rw [hports]; omega)
  have htold := handOverEnd_tells e
    (raiseNotice .moveFailed (s.failureFields point reason e) (closeEntry e.consumer g s))
  have hraised : (raiseNotice .moveFailed (s.failureFields point reason e) (closeEntry e.consumer g s)).rescue.event
      = none := by
    rw [raiseNotice_event, closeEntry_rescue]
    exact hevent
  rw [hfails, htold.ports hraised, hqueued, hports, List.map_append]
  exact ⟨htold.event hraised, rfl⟩

theorem failEntry_fails (hf : ∀ r, (f e r).address = r.address) :
    s.Fails point reason f [e] (failEntry point reason (f e) e s) := by
  obtain ⟨haround, -, hown⟩ := failEntry_spec point reason (f e) e s
  refine ⟨?_, fun i hi => haround.others i ?_, fun x hx => ?_, haround.active, haround.timebase, haround.management,
    haround.summed, failEntry_notices point reason e s hf⟩
  · rw [failEntry_scheduler]
    simp only [namedBy_singleton, bne, BEq.comm]
  · rintro rfl
    rw [namedBy_singleton, beq_self_eq_true] at hi
    cases hi
  · rw [List.mem_singleton.mp hx]
    exact hown

end Failure

/-! ### Failures in a row -/

section Failures
variable {point : FailurePoint} {reason : Byte} {f : MoveEntry → Consumer → Consumer}

theorem State.Fails.nil (s : State) : s.Fails point reason f [] s where
  scheduler := by
    have hall : (s.scheduler.schedule.filter fun x => !namedBy [] x.consumer) = s.scheduler.schedule :=
      List.filter_eq_self.mpr fun _ _ => rfl
    rw [hall]
  others _ _ := rfl
  own _ he := by cases he
  active := rfl
  timebase := rfl
  management := rfl
  summed h := h
  notices _ hevent _ := ⟨hevent, (List.append_nil _).symm⟩

/-- A failure, and then those of entries of other records. -/
theorem State.Fails.cons {e : MoveEntry} {l : List MoveEntry} {s t u : State} (h : s.Fails point reason f [e] t)
    (k : t.Fails point reason f l u) (hother : namedBy l e.consumer = false) :
    s.Fails point reason f (e :: l) u := by
  have hrecord {x : MoveEntry} (hx : x ∈ l) : t.record x.consumer = s.record x.consumer :=
    h.others _ (by
      rw [namedBy_singleton, beq_eq_false_iff_ne]
      intro heq
      rw [namedBy_iff.mpr ⟨x, hx, heq.symm⟩] at hother
      cases hother)
  refine ⟨?_, fun i hi => ?_, fun x hx => ?_, k.active.trans h.active, k.timebase.trans h.timebase,
    k.management.trans h.management, fun hs => k.summed (h.summed hs), fun hmask hevent hroom => ?_⟩
  · have hboth (x : MoveEntry) : (!namedBy l x.consumer && !namedBy [e] x.consumer) = !namedBy (e :: l) x.consumer := by
      rw [namedBy_singleton, namedBy_cons, Bool.not_or, Bool.and_comm]
    rw [k.scheduler, h.scheduler, List.filter_filter]
    simp only [hboth]
  · rw [namedBy_cons, Bool.or_eq_false_iff] at hi
    rw [k.others i hi.2, h.others i (by rw [namedBy_singleton]; exact hi.1)]
  · rcases List.mem_cons.mp hx with rfl | hx
    · rw [k.others _ hother]
      exact h.own x List.mem_cons_self
    · rw [k.own x hx, hrecord hx]
  · rw [List.length_cons] at hroom
    obtain ⟨hevent', hfields⟩ := h.notices hmask hevent (by rw [List.length_singleton]; omega)
    have hlength := congrArg List.length hfields
    rw [List.length_append, List.length_map, List.length_map, List.length_map, List.length_singleton] at hlength
    obtain ⟨hevent'', hfields'⟩ := k.notices (by rw [h.management]; exact hmask) hevent' (by omega)
    have hsame : l.map (t.failureFields point reason) = l.map (s.failureFields point reason) :=
      List.map_congr_left fun x hx => by
        rw [State.failureFields, State.failureFields, addressOf_eq, addressOf_eq, hrecord hx]
    refine ⟨hevent'', ?_⟩
    rw [hfields', hfields, hsame, List.append_assoc]
    rfl

/-- Entries of different records that fail in turn. -/
theorem failEntries_fails (hf : ∀ e r, (f e r).address = r.address) {l : List MoveEntry}
    (hl : (l.map MoveEntry.consumer).Nodup) (s : State) :
    s.Fails point reason f l (failEntries point reason f l s) := by
  induction l generalizing s with
  | nil => exact .nil s
  | cons e l ih =>
    rw [List.map_cons, List.nodup_cons] at hl
    refine (failEntry_fails point reason f e s (hf e)).cons (ih hl.2 _) (Bool.eq_false_iff.mpr fun hnamed => hl.1 ?_)
    obtain ⟨x, hx, hconsumer⟩ := namedBy_iff.mp hnamed
    exact List.mem_map.mpr ⟨x, hx, hconsumer⟩

/-- Of the entries of a schedule, those that fail a test fail out of it and the others stay. -/
theorem failEntries_filter (hf : ∀ e r, (f e r).address = r.address) {s : State} (h : s.ScheduleRight)
    (p : MoveEntry → Bool) :
    s.Fails point reason f (s.scheduler.schedule.filter p)
        (failEntries point reason f (s.scheduler.schedule.filter p) s)
      ∧ (failEntries point reason f (s.scheduler.schedule.filter p) s).scheduler
        = { s.scheduler with schedule := s.scheduler.schedule.filter fun x => !p x } := by
  have hfails := failEntries_fails (point := point) (reason := reason) hf
    (h.1.sublist (List.filter_sublist.map _) : ((s.scheduler.schedule.filter p).map MoveEntry.consumer).Nodup) s
  have hschedule : (s.scheduler.schedule.filter fun x => !namedBy (s.scheduler.schedule.filter p) x.consumer)
      = s.scheduler.schedule.filter fun x => !p x :=
    List.filter_congr fun x hx => congrArg Bool.not (namedBy_filter h p hx)
  refine ⟨hfails, ?_⟩
  rw [hfails.scheduler, hschedule]

/-- Records that all fail in one way, where some entries name them. -/
theorem State.Fails.records {g : Consumer → Consumer} {l : List MoveEntry} {s t : State}
    (h : s.Fails point reason (fun _ => g) l t) (i : Nat) :
    (t.record i).map Consumer.bare = (s.record i).map fun r => if namedBy l i then (g r).bare else r.bare := by
  cases hnamed : namedBy l i with
  | false =>
    rw [h.others i hnamed]
    rfl
  | true =>
    obtain ⟨e, he, rfl⟩ := namedBy_iff.mp hnamed
    exact h.own e he

end Failures

end Sys2Proof.Machine

namespace Sys2Proof.Machine

/-! ## Entries at their cycles (O32) -/

section Commanded
variable {s : State} (h : s.hold = none)
include h

theorem exec_withdrawal : exec .withdrawal s = .next (finish (withdrawTooNear s)) := next_whileRunning h withdrawTooNear

theorem exec_replyDeadline : exec .replyDeadline s = .next (finish (replyDeadlines s)) :=
  next_whileRunning h replyDeadlines

theorem exec_reportDeadline : exec .reportDeadline s = .next (finish (reportDeadlines s)) :=
  next_whileRunning h reportDeadlines

end Commanded

/-! ### Reply deadlines -/

/-- Entries that take a stage in turn are those of the records that some entries name. -/
theorem setStages_eq (st : Stage) (l : List MoveEntry) (s : State) :
    l.foldl (fun s e => setStage e.consumer st s) s
      = { s with
          scheduler.schedule := s.scheduler.schedule.map fun x =>
            if namedBy l x.consumer then { x with stage := st } else x } := by
  induction l generalizing s with
  | nil =>
    have hsame : (s.scheduler.schedule.map fun x => if namedBy [] x.consumer then { x with stage := st } else x)
        = s.scheduler.schedule := List.map_id' _
    rw [hsame]
    rfl
  | cons e l ih =>
    have hboth (x : MoveEntry) :
        (fun x : MoveEntry => if namedBy l x.consumer then { x with stage := st } else x)
            (if x.consumer = e.consumer then { x with stage := st } else x)
          = if namedBy (e :: l) x.consumer then { x with stage := st } else x := by
      by_cases hx : x.consumer = e.consumer
      · simp [namedBy_cons, hx]
      · simp [namedBy_cons, hx, Ne.symm hx]
    rw [List.foldl_cons, ih, setStage_eq]
    dsimp only
    rw [List.map_map]
    exact congrArg (fun f : MoveEntry → MoveEntry =>
      { s with scheduler.schedule := s.scheduler.schedule.map f }) (funext hboth)

theorem replyDeadlines_eq {s : State} (h : s.ScheduleRight) :
    replyDeadlines s
      = { s with
          scheduler.schedule := s.scheduler.schedule.map fun e =>
            if e.stage = .sent ∧ e.execute = s.now then { e with stage := .unconfirmed } else e } := by
  have hdue : (s.scheduler.schedule.map fun x =>
        if namedBy (s.scheduler.schedule.filter fun e => e.replyDue s.now) x.consumer
          then { x with stage := .unconfirmed } else x)
      = s.scheduler.schedule.map fun e =>
        if e.stage = .sent ∧ e.execute = s.now then { e with stage := .unconfirmed } else e :=
    List.map_congr_left fun x hx => by
      rw [namedBy_filter h _ hx]
      simp only [MoveEntry.replyDue, Bool.and_eq_true, beq_iff_eq, and_comm]
  rw [replyDeadlines, setStages_eq, hdue]

/-! ### Report deadlines -/

theorem reportDue_eq (e : MoveEntry) (now : Word16) :
    e.reportDue now
      = (e.deadline == now && (e.stage == .sent || e.stage == .accepted || e.stage == .unconfirmed)) := by
  unfold MoveEntry.reportDue
  cases e.stage <;> rfl

/-- The entries at their report deadlines fail, their records QUERYING (R123). -/
theorem reportDeadlines_eq (s : State) :
    reportDeadlines s
      = failEntries .deadline reasonNoReport (fun e => unreported e s.freshQuery)
          (s.scheduler.schedule.filter fun e => e.reportDue s.now) s := by
  have hall (l : List MoveEntry) (t : State) (ht : t.freshQuery = s.freshQuery) :
      l.foldl (fun s e => endUnreported e s) t
        = failEntries .deadline reasonNoReport (fun e => unreported e s.freshQuery) l t := by
    induction l generalizing t with
    | nil => rfl
    | cons e l ih =>
      rw [List.foldl_cons, ih, endUnreported_eq, ht]
      · rfl
      · rw [← ht, State.freshQuery, (endUnreported_leaves e t).management]
        rfl
  exact hall _ s rfl

theorem unreported_bare {s : State} (h : s.ScheduleRight) {e : MoveEntry} (he : e ∈ s.scheduler.schedule) {r : Consumer}
    (hr : s.record e.consumer = some r) (q : Query) :
    (unreported e q r).bare
      = { r with
          rescue := none, state := .querying q
          assigned := if e.stage = .accepted then e.target else e.fromPhase } := by
  obtain ⟨-, hentries, -⟩ := h
  obtain ⟨r', hr', -, hassigned⟩ := hentries e he
  rw [hr] at hr'
  cases hr'
  rw [← hassigned]
  rfl

theorem mem_filter_not {l : List MoveEntry} {p : MoveEntry → Bool} (e : MoveEntry) :
    (e ∈ l.filter fun x => !p x) ↔ e ∈ l ∧ e ∉ l.filter p := by
  rw [List.mem_filter, List.mem_filter, not_and, Bool.not_eq_true', ← Bool.not_eq_true]
  exact and_congr_right fun he => ⟨fun hp _ => hp, fun hp => hp he⟩

theorem withdrawTooNear_summed {s : State} (h : s.Summed) : (withdrawTooNear s).Summed :=
  foldl_keeps (P := State.Summed) (fun _ e h => h.withdraw reasonWithdrawn e) _ h

/-- Settles O32: the withdrawals by `withdrawTooNear_withdraws`, the reply deadlines by `replyDeadlines_eq`, the report
deadlines by `failEntries_filter`. -/
theorem entriesEndAtTheirCycles : Obligations.EntriesEndAtTheirCycles := by
  intro s hhold hright
  refine ⟨⟨withdrawTooNear s, exec_withdrawal hhold, ?_⟩, ?_, ⟨reportDeadlines s, exec_reportDeadline hhold, ?_⟩⟩
  · have hwithdraws := withdrawTooNear_withdraws s
    have hscheduler : (withdrawTooNear s).scheduler = _ := hwithdraws.scheduler
    refine ⟨fun e => ?_, by rw [hscheduler], by rw [hscheduler], by rw [hscheduler], hwithdraws.records,
      hwithdraws.leaves.active, hwithdraws.leaves.timebase, hwithdraws.leaves.management,
      fun hsums htree hlength => (withdrawTooNear_summed ⟨htree, hlength, hsums⟩).right,
      fun hmask hevent hroom => (hwithdraws.notices hmask hevent hroom).2⟩
    rw [scheduler_withdrawTooNear hright, List.mem_filter, Bool.not_eq_true', List.contains_eq_mem,
      decide_eq_false_iff_not]
    rfl
  · rw [exec_replyDeadline hhold, replyDeadlines_eq hright]
  · have hgone : (s.scheduler.schedule.filter fun e => e.deadline == s.now
          && (e.stage == .sent || e.stage == .accepted || e.stage == .unconfirmed))
        = s.scheduler.schedule.filter fun e => e.reportDue s.now :=
      List.filter_congr fun e _ => (reportDue_eq e s.now).symm
    obtain ⟨hfails, hscheduler⟩ := failEntries_filter (point := .deadline) (reason := reasonNoReport)
      (f := fun e => unreported e s.freshQuery) (fun _ _ => rfl) hright fun e => e.reportDue s.now
    rw [hgone]
    rw [← reportDeadlines_eq] at hfails hscheduler
    refine ⟨fun e => ?_, by rw [hscheduler], by rw [hscheduler], by rw [hscheduler], fun e he r hr => ?_,
      fun i hi => ?_, hfails.active, hfails.timebase, hfails.management,
      fun hsums htree hlength => (hfails.summed ⟨htree, hlength, hsums⟩).right,
      fun hmask hevent hroom => (hfails.notices hmask hevent hroom).2⟩
    · rw [hscheduler]
      exact mem_filter_not e
    · refine (hfails.own e he).trans ?_
      rw [hr, Option.map_some, unreported_bare hright (List.mem_of_mem_filter he) hr]
      rfl
    · rw [hfails.others i (Bool.eq_false_iff.mpr fun hnamed => ?_)]
      obtain ⟨e, he, hconsumer⟩ := namedBy_iff.mp hnamed
      exact hi e he hconsumer

end Sys2Proof.Machine

namespace Sys2Proof.Machine

/-! ## MANUAL MOVE and CANCEL MOVES (O31) -/

/-! ### Making an entry while the upstream receiver hunts -/

theorem raiseNotice_heard (k : NoticeKind) (x : List Byte) (s : State) :
    raiseNotice k x s.heard = (raiseNotice k x s).heard := by
  have henabled : s.heard.noticeEnabled k = s.noticeEnabled k := rfl
  unfold raiseNotice queueNotice
  rw [henabled]
  change (if _ then if s.ports.notices.length < Config.noticeRoom then _ else _ else _) = _
  split
  · split
    · rfl
    · rfl
  · rfl

theorem closeTest_heard (s : State) : closeTest s.heard = (closeTest s).heard := by
  have hactive : s.heard.rescueActive = s.rescueActive := rfl
  cases hevent : s.rescue.event with
  | none =>
    have hheard : s.heard.rescue.event = none := hevent
    simp only [closeTest, hheard, hevent]
  | some ev =>
    have hheard : s.heard.rescue.event = some ev := hevent
    simp only [closeTest, hheard, hevent, hactive]
    split
    · rfl
    · exact raiseNotice_heard _ _ { s with rescue.event := none }

theorem delist_heard (i : Nat) (s : State) : delist i s.heard = (delist i s).heard := by
  unfold delist
  change (if s.listed i then _ else _) = _
  split
  · exact closeTest_heard (unlist i s)
  · rfl

theorem makeEntry_heard {i : Nat} {s : State} {r : Consumer} (hr : s.record i = some r) (o : Origin) (q : Phase) :
    makeEntry o i q s.heard = (makeEntry o i q s).heard := by
  have hordered (e : MoveEntry) : orderRecord e i s.heard = (orderRecord e i s).heard := by
    have hmodified := modifyRecord_some (s := appendEntry e s) hr fun r => { r with state := .ordered }
    have hmodified' := modifyRecord_some (s := appendEntry e s.heard) hr fun r => { r with state := .ordered }
    rw [orderRecord, orderRecord, recontribute_eq, recontribute_eq, hmodified, hmodified']
    rfl
  rw [makeEntry_eq hr, makeEntry_eq (s := s.heard) hr, hordered, delist_heard]
  rfl

/-! ### The target of a MANUAL MOVE -/

theorem phaseOfCode_some {b : Byte} {p : Phase} (h : phaseOfCode b = some p) : phaseCode p = b := by
  obtain ⟨hnone, hsome⟩ := phaseOfCode_spec b
  by_cases hundefined : b = 0 ∨ 3 < b.toNat
  · rw [hnone hundefined] at h
    cases h
  · rw [not_or, Nat.not_lt] at hundefined
    obtain ⟨q, hq, hcode⟩ := hsome hundefined.1 hundefined.2
    rw [hq] at h
    cases h
    exact hcode

theorem manualTarget_none {s : State} {r : Consumer} {t : Byte}
    (h : ∀ q, phaseCode q = t → q = r.assigned ∨ r.allowed.get q = false ∨ s.healthy q = false) :
    s.manualTarget r t = none := by
  unfold State.manualTarget
  split
  · rename_i q hq
    refine if_neg fun hok => ?_
    simp only [Bool.and_eq_true, bne_iff_ne] at hok
    obtain ⟨⟨hother, hallowed⟩, hhealthy⟩ := hok
    rcases h q (phaseOfCode_some hq) with hown | hbarred | hsick
    · exact hother hown
    · rw [hallowed] at hbarred
      cases hbarred
    · rw [hhealthy] at hsick
      cases hsick
  · rfl

theorem manualTarget_some {s : State} {r : Consumer} {q : Phase} (hother : q ≠ r.assigned)
    (hallowed : r.allowed.get q = true) (hhealthy : s.healthy q = true) :
    s.manualTarget r (phaseCode q) = some q := by
  unfold State.manualTarget
  rw [phaseOfCode_phaseCode]
  exact if_pos (by rw [hallowed, hhealthy, bne_iff_ne.mpr hother]; rfl)

/-! ### The checks of MANUAL MOVE in order (R126) -/

section Checks
variable (m : Request) {i t : Byte} {s : State}

theorem performManualMove_badIndex (hi : 240 ≤ i.toNat) :
    performManualMove m [i, t] s = refuse m requestManualMove .badIndex s := if_pos hi

section Index
variable (hi : i.toNat < 240)
include hi

theorem performManualMove_unsettled (h : ∀ r, s.record i.toNat = some r → r.state ≠ .settled) :
    performManualMove m [i, t] s = refuse m requestManualMove .wrongState s := by
  refine (if_neg (Nat.not_le.mpr hi)).trans ?_
  split
  · rfl
  · rename_i r hr
    exact if_pos (bne_iff_ne.mpr (h r hr))

variable {r : Consumer} (hr : s.record i.toNat = some r) (hsettled : r.state = .settled)
include hr hsettled

/-- The record is SETTLED: the checks of the target and of the schedule are left. -/
theorem performManualMove_settled :
    performManualMove m [i, t] s
      = match s.manualTarget r t with
        | none => refuse m requestManualMove .badValue s
        | some q =>
          if !s.synced then refuse m requestManualMove .busy s
          else if Config.scheduleRoom ≤ s.scheduler.schedule.length || !s.withinReach .manual then
            refuse m requestManualMove .noRoom s
          else
            respond m requestManualMove .done (s.scheduler.tagCounter :: be2 (s.executeCycle .manual).toNat)
              (makeEntry .manual i.toNat q s) := by
  refine (if_neg (Nat.not_le.mpr hi)).trans ?_
  rw [hr]
  exact if_neg (by rw [hsettled]; decide)

theorem performManualMove_badValue (htarget : s.manualTarget r t = none) :
    performManualMove m [i, t] s = refuse m requestManualMove .badValue s := by
  rw [performManualMove_settled m hi hr hsettled, htarget]

variable {q : Phase} (htarget : s.manualTarget r t = some q)
include htarget

theorem performManualMove_busy (h : s.timebase.sync ≠ .synced) :
    performManualMove m [i, t] s = refuse m requestManualMove .busy s := by
  rw [performManualMove_settled m hi hr hsettled, htarget]
  exact if_pos (by rw [State.synced, beq_eq_false_iff_ne.mpr h]; rfl)

variable (hsynced : s.timebase.sync = .synced)
include hsynced

theorem performManualMove_noRoom
    (h : 8 ≤ s.scheduler.schedule.length ∨ 2040 < aheadBy (s.executeCycle .manual) s.now) :
    performManualMove m [i, t] s = refuse m requestManualMove .noRoom s := by
  rw [performManualMove_settled m hi hr hsettled, htarget]
  refine (if_neg (by rw [State.synced, hsynced]; decide)).trans (if_pos ?_)
  rw [Bool.or_eq_true, decide_eq_true_iff, Bool.not_eq_true', ← Bool.not_eq_true, withinReach_iff, Nat.not_le]
  exact h

theorem performManualMove_done (hroom : s.scheduler.schedule.length < 8)
    (hreach : aheadBy (s.executeCycle .manual) s.now ≤ 2040) :
    performManualMove m [i, t] s
      = respond m requestManualMove .done (s.scheduler.tagCounter :: be2 (s.executeCycle .manual).toNat)
          (makeEntry .manual i.toNat q s) := by
  rw [performManualMove_settled m hi hr hsettled, htarget]
  refine (if_neg (by rw [State.synced, hsynced]; decide)).trans (if_neg ?_)
  rw [Bool.or_eq_true, decide_eq_true_iff, Bool.not_eq_true', ← Bool.not_eq_true, withinReach_iff, not_or, Nat.not_le,
    not_not]
  exact ⟨hroom, hreach⟩

end Index

theorem performManualMove_length {args : List Byte} (h : args.length ≠ 2) (s : State) :
    performManualMove m args s = refuse m requestManualMove .badValue s := by
  rcases args with _ | ⟨a, _ | ⟨b, _ | ⟨c, l⟩⟩⟩
  · rfl
  · rfl
  · exact absurd rfl h
  · rfl

end Checks

/-! ### The requests as commands -/

/-- Every entry that waits for its order withdrawn (R127). -/
def cancelled (s : State) : State :=
  failEntries .order reasonCancelled (fun _ r => { r with state := .settled })
    (s.scheduler.schedule.filter MoveEntry.waits) s

theorem cancelled_keeps (s : State) : s.KeepsRest (cancelled s) :=
  .foldl _ (fun s e => withdraw_keeps reasonCancelled e s) _ s

theorem perform_manualMove (src tag : Byte) (args : List Byte) (s : State) :
    perform ⟨src, tag, 0x0C :: args⟩ s = performManualMove ⟨src, tag, 0x0C :: args⟩ args s := rfl

theorem perform_cancelMoves (src tag : Byte) (args : List Byte) (s : State) :
    perform ⟨src, tag, 0x0D :: args⟩ s = performCancelMoves ⟨src, tag, 0x0D :: args⟩ args s := rfl

theorem Consumer.withdrawnBy_eq (l : List MoveEntry) (i : Nat) (r : Consumer) :
    r.withdrawnBy l i = if namedBy l i then Consumer.bare { r with state := .settled } else r.bare := by
  unfold Consumer.withdrawnBy
  cases namedBy l i with
  | true => rfl
  | false => rfl

/-- Records whose entries are withdrawn, whatever the reason (R115). -/
theorem State.Fails.withdrawnBy {point : FailurePoint} {reason : Byte} {l : List MoveEntry} {s t : State}
    (h : s.Fails point reason (fun _ r => { r with state := .settled }) l t) (i : Nat) :
    (t.record i).map Consumer.bare = (s.record i).map (Consumer.withdrawnBy l i) := by
  rw [h.records i]
  exact congrArg (Option.map · (s.record i)) (funext fun r => (Consumer.withdrawnBy_eq l i r).symm)

section Commands
variable {src tag : Byte} {s : State} (hs : s.TakesRequests)
include hs

theorem manualMove_refused {i t : Byte} {result : Result}
    (h : performManualMove ⟨src, tag, [0x0C, i, t]⟩ [i, t] s.heard
      = refuse ⟨src, tag, [0x0C, i, t]⟩ requestManualMove result s.heard) :
    exec (.manualMove src tag [i, t]) s = .next (finish (s.answered src tag [0x0C, result.code])) :=
  exec_answers (kind := 0x0C) (args := [i, t]) (result := result) (data := []) hs (by simp) rfl
    ((perform_manualMove ..).trans h)

theorem manualMove_done {i t : Byte} {q : Phase} {r : Consumer} (hr : s.record i.toNat = some r)
    (h : performManualMove ⟨src, tag, [0x0C, i, t]⟩ [i, t] s.heard
      = respond ⟨src, tag, [0x0C, i, t]⟩ requestManualMove .done
          (s.scheduler.tagCounter :: be2 (s.executeCycle .manual).toNat) (makeEntry .manual i.toNat q s.heard)) :
    exec (.manualMove src tag [i, t]) s = .next (finish ((makeEntry .manual i.toNat q s).answered src tag
      (0x0C :: 0 :: s.scheduler.tagCounter :: be2 (s.executeCycle .manual).toNat))) := by
  have hattends : s.heard.Attends (makeEntry .manual i.toNat q s.heard) :=
    .of_ports (makeEntry_ports ..) (by rw [(makeEntry_keeps .manual i.toNat q s.heard).management])
  have hexec := exec_done (kind := 0x0C) (args := [i, t]) (c := .manualMove src tag [i, t]) (result := .done) hs
    (by simp) rfl
    ((perform_manualMove ..).trans h) hattends
  rwa [makeEntry_heard hr] at hexec

theorem cancelMoves_done :
    exec (.cancelMoves src tag []) s
      = .next (finish ((cancelled s.heard).answered src tag
          [0x0D, 0, byte (s.scheduler.schedule.filter MoveEntry.waits).length])) := by
  have hports : s.heard.PortsStand (cancelled s.heard) := .foldl _ (fun t e => withdraw_ports _ e t) _ s.heard
  exact exec_done (kind := 0x0D) (args := []) (c := .cancelMoves src tag []) (result := .done)
    (data := [byte (s.scheduler.schedule.filter MoveEntry.waits).length]) hs (by simp) rfl (perform_cancelMoves ..)
    (.of_ports hports (by rw [(cancelled_keeps s.heard).management]))

theorem cancelMoves_refused {args : List Byte} (h : args ≠ []) (hlen : args.length < 48) :
    exec (.cancelMoves src tag args) s = .next (finish (s.answered src tag [0x0D, 3])) :=
  exec_answers (kind := 0x0D) (result := .badValue) (data := []) hs hlen rfl (by
    rw [perform_cancelMoves]
    cases args with
    | nil => exact absurd rfl h
    | cons a l => rfl)

end Commands

/-- Settles O31: the checks of a MANUAL MOVE in their order, and CANCEL MOVES by `failEntries_filter`. -/
theorem manualMoveAndCancel : Obligations.ManualMoveAndCancel := by
  intro src tag s hs
  refine ⟨fun i t => ⟨fun hi => ?_, fun hi hunsettled => ?_, fun r hi hr hsettled => ⟨fun htarget => ?_,
    fun q hcode hother hallowed hhealthy => ?_⟩⟩, fun args hne hlen => ?_, fun args => cancelMoves_refused hs,
    fun hright => ⟨cancelled s.heard, cancelMoves_done hs, ?_⟩⟩
  · exact manualMove_refused (result := .badIndex) hs (performManualMove_badIndex _ hi)
  · exact manualMove_refused (result := .wrongState) hs (performManualMove_unsettled (s := s.heard) _ hi hunsettled)
  · exact manualMove_refused (result := .badValue) hs
      (performManualMove_badValue (s := s.heard) _ hi hr hsettled (manualTarget_none htarget))
  · have htarget : s.heard.manualTarget r t = some q :=
      hcode ▸ manualTarget_some (s := s.heard) hother hallowed hhealthy
    exact ⟨fun hsync => manualMove_refused (result := .busy) hs
        (performManualMove_busy (s := s.heard) _ hi hr hsettled htarget hsync),
      fun hsync hfull => manualMove_refused (result := .noRoom) hs
        (performManualMove_noRoom (s := s.heard) _ hi hr hsettled htarget hsync hfull),
      fun hsync hroom hreach => manualMove_done hs hr
        (performManualMove_done (s := s.heard) _ hi hr hsettled htarget hsync hroom hreach)⟩
  · exact exec_answers (kind := 0x0C) (result := .badValue) (data := []) hs hlen rfl
      ((perform_manualMove ..).trans (performManualMove_length _ hne _))
  · obtain ⟨hfails, hscheduler⟩ := failEntries_filter (point := .order) (reason := reasonCancelled)
      (f := fun _ r => { r with state := .settled }) (fun _ _ => rfl) (s := s.heard) hright MoveEntry.waits
    exact ⟨hscheduler, hfails.withdrawnBy, hfails.active, hfails.timebase, hfails.management,
      (cancelled_keeps s.heard).balancerState, fun hsums htree hlength => (hfails.summed ⟨htree, hlength, hsums⟩).right,
      fun hmask hevent hroom => (hfails.notices hmask hevent hroom).2⟩

end Sys2Proof.Machine
